-- ==== Sys2Proof/Word.lean ====
section
/-! DEFINITION. The word types of the module and the plainest arithmetic on its register types:
saturation and wrapping at a register's width, and the sparse tables that hold numbered objects. -/

namespace Sys2Proof

abbrev Byte := BitVec 8
abbrev U16 := BitVec 16
abbrev U32 := BitVec 32
abbrev U64 := BitVec 64

/-- A table over numbered objects (links, bricks, parameters): entries with strictly rising keys,
none equal to what an unlisted key reads as. -/
abbrev Table (α : Type) := List (Nat × α)

namespace Table

variable {α : Type}

/-- The entry of key `k`, or the default. -/
def get [Inhabited α] : Table α → Nat → α
  | [], _ => default
  | (j, a) :: t, k => if j = k then a else get t k

/-- Put `a` at `k`, keeping the keys rising. -/
def put : Table α → Nat → α → Table α
  | [], k, a => [(k, a)]
  | (j, b) :: t, k, a => if j < k then (j, b) :: put t k a else if j = k then (k, a) :: t else (k, a) :: (j, b) :: t

/-- Write the entry of key `k`; writing the default takes the entry out of the list. -/
def set [Inhabited α] [DecidableEq α] (t : Table α) (k : Nat) (a : α) : Table α :=
  if a = default then t.filter (fun x => x.1 ≠ k) else t.put k a

/-- Change the entry of key `k`. -/
def modify [Inhabited α] [DecidableEq α] (t : Table α) (k : Nat) (f : α → α) : Table α :=
  t.set k (f (t.get k))

/-- Every key of the list is above `k`. -/
def above (k : Nat) : Table α → Bool
  | [] => true
  | (j, _) :: t => decide (k < j) && above k t

/-- The canonical form: keys strictly rising, no entry equal to the default. -/
def wf [Inhabited α] [DecidableEq α] : Table α → Bool
  | [] => true
  | (j, a) :: t => decide (a ≠ default) && above j t && wf t

end Table

/-- Saturate at the largest value of an unsigned register of `w` bits. -/
def satU (w n : Nat) : Nat := min n (2 ^ w - 1)

/-- Wrap at the width of an unsigned register. -/
def wrapU (w n : Nat) : Nat := n % 2 ^ w

/-- Saturate an integer into the closed range `lo` to `hi`. -/
def clampI (lo hi x : Int) : Int := max lo (min hi x)

/-- Saturate a natural number into the closed range `lo` to `hi`. -/
def clampN (lo hi x : Nat) : Nat := max lo (min hi x)

/-- Saturate at a signed register of `w` bits whose most negative pattern is its invalid value (R11, R13). -/
def satI (w : Nat) (x : Int) : Int := clampI (-(2 ^ (w - 1) - 1)) (2 ^ (w - 1) - 1) x

/-- Wrap an integer into a signed register of `w` bits. -/
def wrapI (w : Nat) (x : Int) : Int :=
  let m := x % (2 ^ w : Int)
  if m < 2 ^ (w - 1) then m else m - 2 ^ w

/-- The bit pattern of an integer in `w` bits. -/
def patI (w : Nat) (x : Int) : Nat := (x % (2 ^ w : Int)).toNat

/-- The signed number a pattern of `w` bits stands for. -/
def ofPat (w : Nat) (n : Nat) : Int := wrapI w n

/-- Division rounded to nearest, halves away from zero; 0 where the divisor is 0. -/
def divNear (a : Int) (b : Nat) : Int :=
  if 0 ≤ a then (2 * a + b) / (2 * (b : Int)) else -((2 * (-a) + b) / (2 * (b : Int)))

/-- Little-endian bytes of a number (R14). -/
def leBytes : Nat → Nat → List Byte
  | 0, _ => []
  | n + 1, v => BitVec.ofNat 8 v :: leBytes n (v / 256)

/-- The number that little-endian bytes spell (R14). -/
def leNat : List Byte → Nat
  | [] => 0
  | b :: t => b.toNat + 256 * leNat t

/-- Bit `i` of a mask. -/
def bitOf (n i : Nat) : Bool := n.testBit i

/-- Set or clear bit `i` of a mask. -/
def putBit (n i : Nat) (b : Bool) : Nat :=
  if b then n ||| (1 <<< i) else if n.testBit i then n ^^^ (1 <<< i) else n

/-- The bits of a mask below `n`, in rising order. -/
def maskIdx (n mask : Nat) : List Nat := (List.range n).filter (fun i => mask.testBit i)

/-- The mask of a list of bit numbers. -/
def ofIdx (l : List Nat) : Nat := l.foldl (fun m i => m ||| (1 <<< i)) 0

/-- Change element `i` of a list; a list without that element is unchanged. -/
def updAt {α : Type} : List α → Nat → (α → α) → List α
  | [], _, _ => []
  | a :: t, 0, f => f a :: t
  | a :: t, i + 1, f => a :: updAt t i f

/-- One bit as a number. -/
def b2n (b : Bool) : Nat := if b then 1 else 0

end Sys2Proof
end

