-- ==== Sys2Proof/Machine/Types.lean ====
section
/-! DEFINITION. The plain-data types the state is made of, chapter by chapter; each field's docstring gives its
width, the file and rule of spec/ that names it and its value at reset. -/

namespace Sys2Proof.Machine

open Sys2Proof

/-- The eight modes of R91; `MODE.PRESENT` holds the number. -/
inductive Mode where
  | m0 | m1 | m2 | m3 | m4 | m5 | m6 | m7
  deriving DecidableEq, Repr, Inhabited

/-- The mode number of R91. -/
def Mode.num : Mode → Nat
  | .m0 => 0 | .m1 => 1 | .m2 => 2 | .m3 => 3 | .m4 => 4 | .m5 => 5 | .m6 => 6 | .m7 => 7

/-- The roles a module holds (R469); the number is that of `TWIN.ROLE`. -/
inductive Role where
  | none | active | standby | coldStandby
  deriving DecidableEq, Repr, Inhabited

/-- The variants of R2. -/
inductive Variant where
  | s128A | s128C | s128D | s064B
  deriving DecidableEq, Repr, Inhabited

/-- The kinds of start (R92 `MODE.START_KIND`), in their numbers' order. -/
inductive StartKind where
  | coldPowerUp | coldRestart | warmRestart | wake
  deriving DecidableEq, Repr, Inhabited

/-- What the module is, fixed at manufacture (R2, R46) or by the carrier. -/
structure Identity where
  /-- one of 4 variants; 00_scope.md R2; DESIGN CHOICE s128A (log 3) -/
  variant : Variant := .s128A
  /-- -F suffix; 00_scope.md R2; DESIGN CHOICE false (log 3) -/
  fibre : Bool := false
  /-- u64 serial number; 05_parameter_dictionary.md R173; DESIGN CHOICE 1 (log 3) -/
  serial : Nat := 1
  /-- u16 build level, 1 to 999; 05_parameter_dictionary.md R173; DESIGN CHOICE 1 (log 3) -/
  buildLevel : Nat := 1
  /-- u64 native seconds of final test; 05_parameter_dictionary.md R173; DESIGN CHOICE 0 (log 8) -/
  made : Nat := 0
  /-- u16 boot ROM level; 05_parameter_dictionary.md R173; DESIGN CHOICE 1 (log 3) -/
  romLevel : Nat := 1
  /-- 48-bit MAC address base; 05_parameter_dictionary.md R173; DESIGN CHOICE 0 (log 3) -/
  macBase : Nat := 0
  deriving DecidableEq, Repr, Inhabited

/-- The levels of the strap pins as the module reads them (R62, R63): 0 open, 1 strapped,
2 between the thresholds. -/
structure StrapPins where
  sid : List Nat := [0, 0, 0, 0, 0]
  sidp : Nat := 1
  twposA : Nat := 1
  twposB : Nat := 0
  deriving DecidableEq, Repr, Inhabited

/-- The supplies, the hold-up bank and the straps (chapter 02). -/
structure Power where
  /-- SUP_A counts as good; 02 R67; DESIGN CHOICE true (log 4) -/
  supA : Bool := true
  /-- SUP_B counts as good; 02 R67; DESIGN CHOICE true (log 4) -/
  supB : Bool := true
  /-- main domain up (R18, R93); 01 R18; reset true (main domain power good) -/
  mainUp : Bool := true
  /-- main domain held in reset (R28, R37, R70); 01 R28; reset false -/
  mainHeld : Bool := false
  /-- KA_12V present; 01 R21; DESIGN CHOICE true (log 4) -/
  kaPresent : Bool := true
  /-- KA_12V in mV as last read; 03 R110; DESIGN CHOICE 12000 (log 4) -/
  kaMilliVolt : Nat := 12000
  /-- SAFE_SUP present (not lost under R71); 02 R71; DESIGN CHOICE true (log 4) -/
  safeSup : Bool := true
  /-- SAFE_SUP above 18.5 V for 100 ms (R71); 02 R71; DESIGN CHOICE false (log 4) -/
  safeSupSettled : Bool := false
  /-- PRES_OUT to PRES_IN loop closed; 02 R58; DESIGN CHOICE true (log 4) -/
  presence : Bool := true
  /-- the loop has broken and no close has been asked for since (R58); 02 R58; reset false -/
  presenceHeld : Bool := false
  /-- hold-up bank, mV; 02 R68; reset 0 (discharged before the first charge) -/
  bankMilliVolt : Nat := 0
  /-- synthesiser locked (R37); 01 R37; DESIGN CHOICE true (log 4) -/
  synthLocked : Bool := true
  /-- fabric clock within 5 % (R28); 01 R28; DESIGN CHOICE true (log 4) -/
  fabricClockGood : Bool := true
  /-- the strap pins as read in M1 (R63); 02 R63; DESIGN CHOICE string 0, position A (log 3) -/
  straps : StrapPins := {}
  /-- both supply inputs are in the state 'failed' and the bank carries the module (R70); 02 R70; reset false -/
  onBank : Bool := false
  /-- the main domain powers up, so the recovery button is sampled at the start that follows (R88); 02 R88; reset true -/
  poweringUp : Bool := true
  /-- the bank reached 20 V in Hold-up, so the next restored supply makes a warm restart (R101); 03 R101; reset false -/
  cutOff : Bool := false
  deriving DecidableEq, Repr, Inhabited

/-- A brick frame on its way from the Link core to a Tally core in reset (R26, R42), with the epoch of its sender and the epoch it
expects of its receiver (R25). Requests that wait so are held with the wickets. -/
structure FabricMsg where
  senderEpoch : Nat := 0
  expected : Nat := 0
  link : Nat := 0
  pos : Nat := 0
  sweep : Nat := 0
  volt : List Nat := []
  stack : Nat := 0
  therm : List Int := []
  shuttleQ : List Int := []
  status : Nat := 0
  deriving DecidableEq, Repr, Inhabited

/-- One of the eight engines of R22. -/
structure Engine where
  /-- u16, wraps; 01 R25; reset 0 (R102 cold) -/
  epoch : Nat := 0
  /-- in reset; 01 R24; reset false -/
  inReset : Bool := false
  /-- messages waiting while in reset, in arrival order; 01 R26; reset none -/
  buffer : List FabricMsg := []
  /-- messages dropped after 2 sweep cycles, saturating (u32 DESIGN CHOICE, log 5); 01 R26; reset 0 -/
  drops : Nat := 0
  /-- messages discarded for a wrong epoch (u32 DESIGN CHOICE, log 5); 01 R25; reset 0 -/
  discards : Nat := 0
  deriving DecidableEq, Repr, Inhabited

/-- What the main domain keeps of engines, clocks and memories (chapter 01). -/
structure Arch where
  /-- the eight engines, keyed 1 to 8; 01 R22; reset all at their defaults -/
  engines : Table Engine := []
  /-- core step divider 5, 6 or 7 in force (R32, R33); 01 R32; reset 5 (400 MHz) -/
  coreDiv : Nat := 5
  /-- corrected single-bit ECC errors, saturating; 01 R41; reset 0 -/
  eccCorrected : Nat := 0
  /-- retained SRAM regions, one bit each in the order of R39, whose CRC-32 is known good; 01 R39; reset 0 (cold, lost) -/
  regionGood : Nat := 0
  /-- the lockstep comparator has stopped the Guard cores (R23); 01 R23; reset false -/
  guardStopped : Bool := false
  /-- late-sweep counters of the Tally cores 0 and 1, saturating u32; 01 R43; reset 0 -/
  late0 : Nat := 0
  /-- late-sweep counter of Tally core 1; 01 R43; reset 0 -/
  late1 : Nat := 0
  /-- sweep counter of the rows each Tally core last published; 01 R44; reset 0 -/
  published0 : Nat := 0
  /-- the same for Tally core 1; 01 R44; reset 0 -/
  published1 : Nat := 0
  /-- sweep counter of the newest cycle whose rows stand on both Tally cores; 05 R189; reset 0 -/
  readSweep : Nat := 0
  /-- Tally core 0 has published in the present cycle; 01 R43; reset false -/
  fresh0 : Bool := false
  /-- Tally core 1 has published in the present cycle; 01 R43; reset false -/
  fresh1 : Bool := false
  /-- sample point of each modulator MOD_D[m] in its 50 ns clock period, 0.1 ns; 02 R81; reset 0 each -/
  samplePoints : Table Nat := []
  /-- modulator channels marked failed (mask); 02 R81; reset 0 -/
  modFailed : Nat := 0
  deriving DecidableEq, Repr, Inhabited

/-- Modes, starts and the causes waiting for the sweep boundary (chapter 03). -/
structure Modes where
  /-- `MODE.PRESENT`; 03 R91; reset M1 (R93: main domain power good) -/
  mode : Mode := .m1
  /-- `MODE.PREVIOUS` u8; 03 R92; reset 1 -/
  previous : Nat := 1
  /-- `MODE.START_KIND`; 03 R92; reset cold power-up (R100) -/
  startKind : StartKind := .coldPowerUp
  /-- native time of the present start, ns; 20_treasury_and_ageing.md R608; reset 0 -/
  startedAt : Nat := 0
  /-- `MODE.START_COUNT` u32 saturating, kept V; 03 R92; reset 0 -/
  startCount : Nat := 0
  /-- `MODE.LOCKOUT_CAUSE` u16, kept V; 03 R92; reset 0 -/
  lockoutCause : Nat := 0
  /-- the value MODE.LOCKOUT_CAUSE takes once the Lockout records are sealed (R119); 03 R119; reset none -/
  lockoutPending : Option Nat := none
  /-- Strongroom's lockout latch; 03 R119; reset false -/
  latchStrong : Bool := false
  /-- Night Safe's lockout latch; 03 R119; reset false -/
  latchNight : Bool := false
  /-- a power cycle cleared the latches and the next start names the last cause (R121); 03 R121; reset false -/
  latchCleared : Bool := false
  /-- consecutive failed starts (R99); 03 R99; reset 0 -/
  bootFails : Nat := 0
  /-- number of the Boot step that failed, 0 none (R96, R99); 03 R99; reset 0 -/
  bootFailed : Nat := 0
  /-- consecutive sweeps of the settle count (R97); 03 R97; reset 0 -/
  settle : Nat := 0
  /-- links that missed a reply since the first sweep, one bit each (R97); 03 R97; reset 0 -/
  settleMissed : Nat := 0
  /-- the settle count is complete or its 30 s have passed; 03 R97; reset false -/
  settled : Bool := false
  /-- a sweep has begun in this start, from which the 30 s of R97 run; 03 R97; reset false -/
  sweeping : Bool := false
  /-- a strap conflict with the partner holds the module in M3 (R65); 02 R65; reset false -/
  strapConflict : Bool := false
  /-- a restart whose reply has been sent: some true warm, some false cold (R157); 04 R157; reset none -/
  restartPending : Option Bool := none
  /-- cause of the pending restart, for R103; 03 R103; reset 0 -/
  restartCause : Nat := 0
  /-- engine whose failure made the restart, which PR.02 names (R24); 14 R465; reset 0 -/
  restartEngine : Nat := 0
  /-- fault sources that the next start records at G4: PR.02, PR.03, PR.04 (R24, R28, R37); 01 R24; reset empty -/
  restartSources : List Nat := []
  /-- the mode that the start found M1 has to be left for, once the bank is at 44 V (R68, R93): M2, M3 or M7; 03 R93; reset none -/
  bootExit : Option Mode := none
  /-- the first slip after this start has still to be sent (R103); 03 R103; reset true -/
  firstSlipDue : Bool := true
  /-- a Dormant entry runs (R111); 03 R111; reset false -/
  dormantEntry : Bool := false
  /-- sweeps since the Dormant request was accepted; 03 R111; reset 0 -/
  dormantSweeps : Nat := 0
  /-- the module may hand over to Night Safe (learned values sealed, R111); 03 R111; reset false -/
  dormantSealed : Bool := false
  /-- STOP_ALL goes to every monitor, which ends the pair targets, before the next SAMPLE: the module is entering M0 or M7; 07 R251; reset false -/
  stopDue : Bool := false
  /-- the balance checkpoint of the entry is committed (R111); 03 R111; reset false -/
  dormantChecked : Bool := false
  /-- M6 hold asked for by a breakpoint in this sweep (R94); 03 R94; reset false -/
  holdCause : Bool := false
  /-- woken by HOUSEKEEPING alone, so R118 applies; 03 R118; reset false -/
  housekeeping : Bool := false
  deriving DecidableEq, Repr, Inhabited

/-- Night Safe's coarse count of one rail (R115, R116). -/
structure NsRail where
  /-- 64-bit accumulator, 1 mC; 03 R115; reset 0 -/
  charge : Int := 0
  /-- number of samples; 03 R116; reset 0 -/
  samples : Nat := 0
  /-- time without conversions, 0.1 s; 03 R115; reset 0 -/
  gap : Nat := 0
  /-- peak |I|, mA; 03 R116; reset 0 -/
  peak : Nat := 0
  /-- consecutive samples above the wake current (R112); 03 R112; reset 0 -/
  overCount : Nat := 0
  /-- Hall scale loaded at the Dormant entry, mA per V; 03 R111; reset 0 -/
  scale : Int := 0
  /-- Hall offset loaded at the Dormant entry, 0.1 mV; 03 R111; reset 0 -/
  offset : Int := 0
  /-- the current that the Hall input shows by that scale and offset, less the shunt reading of the last 100 ms, mA; 03 R111; reset 0 -/
  compared : Int := 0
  /-- sum of the rail's sweep means by the shunt over the entry, mA, for that comparison; 03 R111; reset 0 -/
  shuntSum : Int := 0
  deriving DecidableEq, Repr, Inhabited

/-- Night Safe (chapter 03). -/
structure NightSafe where
  /-- Night Safe is in charge (M0); 03 R111; reset false -/
  inCharge : Bool := false
  /-- per rail count; 03 R115; reset empty -/
  rails : Table NsRail := []
  /-- `NS.LAST_WAKE` u16; 03 R114; reset 0 -/
  lastWake : Nat := 0
  /-- `NS.DORMANT_SECONDS` u32 saturating; 03 R92; reset 0 -/
  dormantSeconds : Nat := 0
  /-- NS.WAKE_MASK as loaded; 03 R111; reset 0x00FF -/
  wakeMask : Nat := 0x00FF
  /-- NS.WAKE_CURRENT as loaded, mA; 03 R111; reset 2000 -/
  wakeCurrent : Nat := 2000
  /-- NS.WAKE_CURRENT_COUNT as loaded; 03 R111; reset 3 -/
  wakeCount : Nat := 3
  /-- NS.INPUT_FILTER as loaded, ms; 03 R111; reset 50 -/
  inputFilter : Nat := 50
  /-- consecutive alarm samples per link; 03 R112; reset empty -/
  alarmRun : Table Nat := []
  /-- safe input levels taken at the start of M0 (16 bits); 03 R112; reset 0 -/
  inputBase : Nat := 0
  /-- ms for which the levels have differed from the base; 03 R112; reset 0 -/
  inputRun : Nat := 0
  /-- consecutive 10 Hz samples of KA_12V below 9.5 V; 03 R112; reset 0 -/
  kaLow : Nat := 0
  /-- ms for which the button has been pressed; 03 R112; reset 0 -/
  buttonRun : Nat := 0
  /-- SAFE_SUP at the last sample; 03 R112; reset true -/
  safeSupWas : Bool := true
  /-- wake held until a supply input is good (R117): its causes; 03 R117; reset none -/
  heldWake : Option Nat := none
  /-- native time at which Night Safe took charge, ns; 03 R116; reset 0 -/
  tookAt : Nat := 0
  /-- native time at which it woke, ns; 03 R116; reset 0 -/
  wokeAt : Nat := 0
  /-- native time copy, ns; 16 R510; reset 0 -/
  timeCopy : Nat := 0
  /-- Night Safe's copy of the time is valid; 16 R510; reset false -/
  timeValid : Bool := false
  /-- memory of Night Safe lost, so it holds no copies (R21, KEEP_ALIVE_LOST); 01 R38; reset false -/
  lost : Bool := false
  deriving DecidableEq, Repr, Inhabited

/-- An entry of an enumeration list or an identification finding (R205 IDENTIFY reply, R207). -/
structure Found where
  identity : Nat := 0
  upper : Bool := false
  /-- channels of the monitor, 12 -/
  channels : Nat := 12
  /-- firmware level, u16 -/
  firmware : Nat := 0
  posA : Nat := 0
  posB : Nat := 0
  deriving DecidableEq, Repr, Inhabited

/-- What a frame of a pack link holds beside HOP, OPCODE and payload, as the module receives it (R195 to R199), and when it ended. -/
structure LineHead where
  /-- SYNC -/
  sync : Nat := 0x4D
  /-- HOP_N of CTRL -/
  hopN : Nat := 7
  /-- ORIGIN of CTRL: the end that sent the command -/
  origin : Nat := 0
  /-- TAG, u16 -/
  tag : Nat := 0
  /-- LEN -/
  len : Nat := 0
  /-- bytes received after SYNC -/
  bytes : Nat := 7
  /-- CRC as received, u16 -/
  crc : Nat := 0
  /-- end of the frame, us after the sweep epoch -/
  endUs : Nat := 0
  deriving DecidableEq, Repr, Inhabited

/-- A queued or outstanding hop-addressed exchange of a link (R206, R212); the payload in bytes. -/
structure LinkCmd where
  hop : Nat := 0
  opcode : Nat := 0
  payload : List Nat := []
  /-- TAG of the command as it went out (R196) -/
  tag : Nat := 0
  /-- repeats already made after a miss (at most 2, R206) -/
  resends : Nat := 0
  deriving DecidableEq, Repr, Inhabited

/-- One pack monitor as the module knows it (chapters 06 and 07). -/
structure Monitor where
  /-- u32 identity found; 06_pack_links.md R217; reset 0 -/
  identity : Nat := 0
  /-- level strap upper; 06 R194; reset false -/
  upper : Bool := false
  /-- one-way delay, 1/16 ns (the mean of eight round trips, halved); 06 R213; reset 0 -/
  owd : Nat := 0
  /-- DELAY, 10 ns; 06 R213; reset 0 -/
  delay : Nat := 0
  /-- reply slot sent; 06 R212; reset 0 -/
  slot : Nat := 0
  /-- ECHO replies taken of the eight; 06 R213; reset 0 -/
  echoes : Nat := 0
  /-- sum of the round trips, ns; 06 R213; reset 0 -/
  rttSum : Nat := 0
  /-- SET_TIMING follows the measurement even if DELAY stands (after an identification); 06 R217; reset false -/
  timingDue : Bool := false
  /-- consecutive missed SAMPLE replies; 06 R232; reset 0 -/
  missedRun : Nat := 0
  /-- a reply has come in this sweep; 06 R233; reset false -/
  replied : Bool := false
  /-- native time of the last reply of any kind, ns; 06 R229; reset 0 -/
  lastReply : Nat := 0
  /-- taken as asleep (R229); 06 R229; reset false -/
  asleep : Bool := false
  /-- native time of the wake, from which 20 ms of SAMPLEs draw no reply (R225); 06 R225; reset none -/
  wokeAt : Option Nat := none
  /-- STATUS of the last reply (R209), u16; 06 R209; reset 0 -/
  status : Nat := 0
  /-- STATUS of the last SAMPLE reply (LNK[n].ALARM), u16; 06 R228; reset 0 -/
  sampleStatus : Nat := 0
  /-- THERM[0..3] of the last reply, none when open or short; 07_measurement_and_balancing.md R240; reset none -/
  therm : List (Option Int) := [none, none, none, none]
  /-- v[c] after step 3 of R233 of the last accepted reply, none invalid; 07 R247; reset none -/
  vPrev : List (Option Int) := []
  /-- values after step 5 of R233 of the last accepted reply, none invalid; 07 R247; reset empty -/
  vCorr : List (Option Int) := []
  /-- sweep counter of the last accepted reply, none before it; 07 R247; reset none -/
  lastSweep : Option Nat := none
  /-- value after step 5 of R233 of each channel in its last sweep without a hold; 07 R243; reset empty -/
  vHeld : List (Option Int) := []
  /-- the last accepted SAMPLE reply carried OPEN_WIRE_ON, so it is no baseline; 07 R244; reset false -/
  onPrev : Bool := false
  /-- STACK of the last accepted reply, mV; 07 R249; reset none -/
  stack : Option Nat := none
  /-- flagged lines, 13 bits; 07 R244; reset 0 -/
  flagged : Nat := 0
  /-- suspect lines, 13 bits; 07 R247; reset 0 -/
  suspect : Nat := 0
  /-- suspect lines whose suspicion ends with the next sweep, 13 bits; 07 R248; reset 0 -/
  withdrawn : Nat := 0
  /-- consecutive passed tests of flagged lines; 07 R250; reset empty -/
  passes : Table Nat := []
  /-- consecutive failed stack checks; 07 R239; reset 0 -/
  stackFails : Nat := 0
  /-- the stack check has failed MEAS.STACK_COUNT sweeps running, and the tests of lines 0 and 12 are awaited; 07 R239; reset false -/
  stackTest : Bool := false
  /-- edge lines tested since (bit 0 line 0, bit 1 line 12): both decide ME.01 or ME.03; 07 R248; reset 0 -/
  stackDone : Nat := 0
  /-- channels held in this sweep by a test (12 bits); 07 R243; reset 0 -/
  heldNow : Nat := 0
  /-- applied current of each shuttle, 20 mA; 07 R254; reset all 0 -/
  applied : List Int := List.replicate 12 0
  /-- commanded current of each shuttle, 20 mA; 07 R253; reset all 0 -/
  cmd : List Int := List.replicate 12 0
  /-- cycles for which each shuttle has been commanded 0, from the window that sent the command; 07 R256; reset all 0 -/
  zeroRun : List Nat := List.replicate 12 0
  /-- a BALANCE has been sent to the monitor since the start; 07 R256; reset false -/
  commanded : Bool := false
  /-- applied currents at the last SAMPLE reply, 20 mA; 07 R256; reset all 0 -/
  appliedPrev : List Int := List.replicate 12 0
  /-- the shuttle charge of the present cycle has been booked; 07 R259; reset false -/
  bookedNow : Bool := false
  /-- missed replies since the last valid one (k of R257); 07 R257; reset 0 -/
  missedK : Nat := 0
  /-- a gap since this native time, ns, whose shuttle charge the first reply books; 08 R290; reset none -/
  gapSince : Option Nat := none
  /-- cumulative raw SHUTTLE_Q of each shuttle, 10 uC, for the gap of R289; 08_charge_estimation.md R288; reset all 0 -/
  shuttleCount : List Int := List.replicate 12 0
  /-- commands have changed since the last BALANCE; 07 R255; reset false -/
  balanceDue : Bool := false
  /-- no SAMPLE reply has come since the identification, so WOKE is expected; 06 R226; reset false -/
  fresh : Bool := false
  /-- spans the Guard core checks in this sweep: first channel, bricks, U in 100 uV (none not formed); 07 R249; reset empty -/
  spans : List (Nat × Nat × Option Int) := []
  deriving DecidableEq, Repr, Inhabited

/-- The open-wire test in progress on a link (R242 to R245): the line and how far each monitor has come. -/
structure OpenWire where
  line : Nat := 0
  /-- asked for by a suspicion or a stack finding, so it counts as no scheduled test (R239, R247) -/
  special : Bool := false
  /-- monitor positions under test (bits 0, 1) -/
  mons : Nat := 3
  /-- monitors whose source state was 0 or whose reply was missed after its repeats (R244) -/
  void : Nat := 0
  /-- monitors whose shift has been evaluated -/
  evald : Nat := 0
  /-- monitors whose suspicion the test has withdrawn, so that their readings are back (R248) -/
  lifted : Nat := 0
  /-- sweep in which the last OPEN_WIRE to monitor 0 was sent or heard (cycle j of R242) -/
  start0 : Option Nat := none
  /-- the same for monitor 1 -/
  start1 : Option Nat := none
  /-- sweep in which the source of monitor 0 was confirmed on -/
  on0 : Option Nat := none
  /-- the same for monitor 1 -/
  on1 : Option Nat := none
  deriving DecidableEq, Repr, Inhabited

/-- One pack link (chapter 06). -/
structure Link where
  /-- `LNK[n].STATE` 0 to 5; 06 R216; reset 0 (unused: every LNK[n].RAIL is 0xFF) -/
  state : Nat := 0
  /-- `LNK[n].CRC_ERRORS` u32 saturating; 06 R231; reset 0 -/
  crcErrors : Nat := 0
  /-- `LNK[n].MISSED_REPLIES` u32 saturating; 06 R231; reset 0 -/
  missedReplies : Nat := 0
  /-- `LNK[n].ENUM_COUNT` u16 saturating, kept V; 06 R218; reset 0 -/
  enumCount : Nat := 0
  /-- reply ends of the last 1 s that no later one exceeds, newest first: native time ns, us after the sweep epoch
  (`LNK[n].REPLY_LATEST` is the largest); 06 R231; reset empty -/
  replyMarks : List (Nat × Nat) := []
  /-- alarm tone present (R228); 06 R228; reset false -/
  tone : Bool := false
  /-- native times of the last 11 frames that failed R199, newest first, ns (LK.01); 06 R232; reset empty -/
  failTimes : List Nat := []
  /-- own time base at the last timing mark heard, ns; 06 R230; reset 0 -/
  mark : Nat := 0
  /-- exchanges started, u16: the TAG of the next; 06 R196; reset 0 -/
  exchanges : Nat := 0
  /-- hop-addressed command heard whose reply is due (the listening end); 06 R230; reset none -/
  heardCmd : Option LinkCmd := none
  /-- native time of the last frame sent or heard, ns; 06 R216; reset 0 -/
  lastFrame : Nat := 0
  /-- native time of the last ORIGIN 0 command heard, or of entering state 1, ns; 06 R203; reset 0 -/
  originZero : Nat := 0
  /-- position B without a role transmits here (R203); 06 R203; reset false -/
  listenerSends : Bool := false
  /-- an ENUMERATE is carried out here on the partner's request; 06 R203; reset false -/
  enumByPartner : Bool := false
  /-- an ENUMERATE collection runs (1.4 ms window); 06 R207; reset false -/
  enumerating : Bool := false
  /-- replies collected by POS; 06 R207; reset empty -/
  enumList : List Found := []
  /-- list from the A end; 06 R218; reset none -/
  listA : Option (List Found) := none
  /-- list from the B end; 06 R218; reset none -/
  listB : Option (List Found) := none
  /-- IDENTIFY findings of the hop check, by hop; 06 R217; reset empty -/
  hopFound : Table (Option Found) := []
  /-- a hop check runs and the hop it waits for; 06 R217; reset none -/
  hopCheck : Option Nat := none
  /-- the link has been identified once in this start, so it is part of no pass that runs (R221); 06 R221; reset false -/
  identified : Bool := false
  /-- a wake identification of hop 1 runs (R226); 06 R226; reset false -/
  waking : Bool := false
  /-- ring broken between the lists' ends (case 6): monitors reached; 06 R219; reset none -/
  ringReach : Option Nat := none
  /-- queued hop-addressed exchanges, in order; 06 R212; reset empty -/
  queue : List LinkCmd := []
  /-- the exchange sent and not yet answered; 06 R206; reset none -/
  outstanding : Option LinkCmd := none
  /-- monitors at positions 0 and 1; 06 R217; reset at their defaults -/
  mons : Table Monitor := []
  /-- identities recorded with the offsets, per position; 06 R222; reset 0, 0 -/
  learnedId0 : Nat := 0
  /-- the same for position 1; 06 R222; reset 0 -/
  learnedId1 : Nat := 0
  /-- lines of the present round still to test; 07 R242; reset empty -/
  owLines : List Nat := []
  /-- tests put off to the next free slot, after the lines of the round: as below; 07 R245; reset empty -/
  owDeferred : List (Nat × Nat) := []
  /-- tests that go before the round: the line, and its monitors (bits 0, 1) with bit 2 for one that is not scheduled; 07 R245, R247; reset empty -/
  owSpecial : List (Nat × Nat) := []
  /-- test in progress; 07 R242; reset none -/
  owTest : Option OpenWire := none
  /-- sample mode of the last SAMPLE sent or heard; 07 R234; reset 0 -/
  sampleMode : Nat := 0
  /-- sample mode of the SAMPLE before that (R245); 07 R245; reset 0 -/
  samplePrev : Nat := 0
  /-- survey capture on the link; 09_impedance_survey.md R315; reset false -/
  capture : Bool := false
  /-- time in the present cycle at which the next exchange may start, 0.1 us; 06 R212; reset 3000 (300 us) -/
  winAt : Nat := 3000
  /-- exchanges missed in this window, sent again in later ones; 06 R206; reset empty -/
  resend : List LinkCmd := []
  /-- a SAMPLE has been sent or heard in the present cycle; 06 R230; reset false -/
  sampled : Bool := false
  /-- the partner's list has been asked for and is awaited; 06 R218; reset false -/
  waitPartner : Bool := false
  deriving DecidableEq, Repr, Inhabited

/-- A pair target of BALANCE_TEST (R258). -/
structure PairTarget where
  brick : Nat := 0
  /-- signed target, 0.1 C -/
  target : Int := 0
  /-- source charge booked toward it, uC -/
  booked : Int := 0
  deriving DecidableEq, Repr, Inhabited

/-- One brick: its published row (R186) and what its Tally core keeps of it (chapters 05, 07, 08). -/
structure Brick where
  /-- VOLTAGE u16, 100 uV; 05 R186; reset 0xFFFF -/
  voltage : Nat := 0xFFFF
  /-- TEMPERATURE i16, 0.01 C, none invalid; 05 R186; reset invalid -/
  temperature : Option Int := none
  /-- SHUTTLE_CURRENT i32, mA; 05 R186; reset 0 -/
  shuttleCurrent : Int := 0
  /-- shuttle charge booked so far in this sweep, uC; 07 R256; reset 0 -/
  shuttleNow : Int := 0
  /-- cumulative shuttle charge booked, uC; 05 R186; reset 0 -/
  shuttleCharge : Int := 0
  /-- automatic target toward the upper neighbour, 0.1 C; 07 R252; reset 0 -/
  target : Int := 0
  /-- source charge booked on the upward shuttle since the recomputation, uC signed; 07 R252; reset 0 -/
  targetBooked : Int := 0
  /-- SERIES_RES u16, 10 uOhm; 05 R186; reset 0xFFFF -/
  seriesRes : Nat := 0xFFFF
  /-- RC_A_RES; 05 R186; reset 0xFFFF -/
  rcARes : Nat := 0xFFFF
  /-- RC_A_TAU, 0.1 ms; 05 R186; reset 0xFFFF -/
  rcATau : Nat := 0xFFFF
  /-- RC_B_RES; 05 R186; reset 0xFFFF -/
  rcBRes : Nat := 0xFFFF
  /-- RC_B_TAU, 10 ms; 05 R186; reset 0xFFFF -/
  rcBTau : Nat := 0xFFFF
  /-- OCV_LAST; 05 R186; reset 0xFFFF -/
  ocvLast : Nat := 0xFFFF
  /-- ANCHOR_TIME u32, s; 05 R186; reset 0xFFFFFFFF -/
  anchorTime : Nat := 0xFFFFFFFF
  /-- FULL_ANCHORS u16 saturating; 05 R186; reset 0 -/
  fullAnchors : Nat := 0
  /-- EMPTY_ANCHORS u16 saturating; 05 R186; reset 0 -/
  emptyAnchors : Nat := 0
  /-- LEARNS u16 saturating; 05 R186; reset 0 -/
  learns : Nat := 0
  /-- VOLTAGE_MIN_DAY; 05 R186; reset 0xFFFF (none yet) -/
  vMinDay : Nat := 0xFFFF
  /-- VOLTAGE_MAX_DAY; 05 R186; reset 0xFFFF (none yet) -/
  vMaxDay : Nat := 0xFFFF
  /-- SAMPLE_OFFSET, 10 ns; 05 R186; reset 0xFFFF -/
  sampleOffset : Nat := 0xFFFF
  /-- STATUS bits 0 to 7 of R187; 05 R187; reset 0 -/
  status : Nat := 0
  /-- VOLTAGE_OFFSET i16, 100 uV; 05 R186; reset 0 -/
  vOffset : Int := 0
  /-- balance Q, uC; 08 R265; reset 0 -/
  q : Int := 0
  /-- empty reference E, uC; 08 R269; reset -(rated/2) (R296 commissioning) -/
  e : Int := -576000000000
  /-- capacity C, 0.1 C; 08 R269; reset EST.RATED_CAPACITY (R296 commissioning) -/
  c : Nat := 11520000
  /-- glide offset g, uC; 08 R276; reset 0 -/
  g : Int := 0
  /-- g0, uC; 08 R275; reset 0 -/
  g0 : Nat := 0
  /-- fraction of the glide step carried, in 1/(EST.GLIDE x 60000) uC; 08 R276; reset 0 -/
  gFrac : Nat := 0
  /-- filtered current i_f, pA; 08 R270; reset 0 -/
  iF : Int := 0
  /-- cut point as a charge, uC; 08 R270; reset 0 -/
  cut : Int := 0
  /-- u and h of the previous sweep, uC; 08 R276; reset 0 -/
  uPrev : Int := 0
  /-- h of the previous sweep; 08 R276; reset 0 -/
  hPrev : Int := 0
  /-- last T used, 0.01 C; 08 R269; reset none -/
  lastT : Option Int := none
  /-- charge booked in this sweep, uC (I_b x 1 ms); 08 R272; reset 0 -/
  dq : Int := 0
  /-- the last 1,000 sweeps, newest first: charge booked (uC), VOLTAGE when valid and not MISSING, SHUTTLE_ACTIVE; 08 R272, R283; reset empty -/
  hist : List (Int × Option Nat × Bool) := []
  /-- sum of |I_b| over the present second, uC; 08 R283; reset 0 -/
  absSum : Nat := 0
  /-- a second of the hold window broke the brick's rest threshold; 08 R283; reset false -/
  restSpoiled : Bool := false
  /-- sweeps for which the empty condition has held; 08 R272; reset 0 -/
  emptyRun : Nat := 0
  /-- A_b at the last full anchor, uC; 08 R272; reset none -/
  fullAt : Option Int := none
  /-- A_b at the last empty anchor, uC; 08 R272; reset none -/
  emptyAt : Option Int := none
  /-- REST_BALANCE, 0.1 C; 08 R293; reset 0 -/
  restBalance : Int := 0
  /-- REST_POSITION, 0.01 %; 08 R293; reset 0xFFFF -/
  restPosition : Nat := 0xFFFF
  /-- REST_TIME, s; 08 R293; reset 0xFFFFFFFF -/
  restTime : Nat := 0xFFFFFFFF
  /-- FLAGS of R294; 08 R294; reset 2 (POSITION_UNCERTAIN) -/
  flags : Nat := 2
  /-- LEARN_REJECTS u16 saturating; 08 R293; reset 0 -/
  learnRejects : Nat := 0
  /-- DRIFT_COUNT u16 saturating; 08 R293; reset 0 -/
  driftCount : Nat := 0
  /-- reported position held at an end by R286: 1 empty, 2 full; 08 R286; reset 0 -/
  driftHold : Nat := 0
  /-- fraction of eta x q carried, 1/10^6 uC; 07 R256; reset 0 -/
  etaFrac : Int := 0
  /-- in a published row: POSITION and RAW_POSITION of the sweep before, which an odd sweep in Thrift carries; 20_treasury_and_ageing.md R601; reset none -/
  heldPos : Option (Nat × Nat) := none
  /-- mean temperature of its last taken survey fit, 0.01 C; 09 R321; reset none -/
  fitTemp : Option Int := none
  /-- mean position of its last taken survey fit, 0.01 %; 09 R321; reset 0xFFFF -/
  fitPos : Nat := 0xFFFF
  deriving DecidableEq, Repr, Inhabited

/-- What a learned-value record keeps of a brick (R293), as sealed in a generation or held in a checkpoint. -/
structure Generation where
  number : Nat := 0
  /-- native time, ns -/
  time : Nat := 0
  sweep : Nat := 0
  settingsCrc : Nat := 0
  /-- identities per link: position 0 and 1 -/
  ids : List (Nat × Nat × Nat) := []
  bricks : Table Brick := []
  deriving DecidableEq, Repr, Inhabited

/-- A balance checkpoint of one Tally core (R288): Q, g, g0 and the shuttle counters. -/
structure Checkpoint where
  sweep : Nat := 0
  time : Nat := 0
  /-- brick, Q, g, g0, shuttle counter of the upward shuttle -/
  bricks : List (Nat × Int × Int × Nat × Int) := []
  /-- rail: rest timer, carry, current -/
  rails : List (Nat × Nat × Int × Int) := []
  valid : Bool := true
  deriving DecidableEq, Repr, Inhabited

/-- One rail: counting, rest and trim stage (chapters 08, 10). -/
structure Rail where
  /-- carry of the 20-tick division; 08 R264; reset 0 -/
  carry : Int := 0
  /-- rail current of the ticks since the last epoch, each times its length, summed, mA x 10 ns; 08 R264, 16 R516; reset 0 -/
  tickSum : Int := 0
  /-- rail charge booked in this sweep, uC; 08 R264; reset 0 -/
  sweepCharge : Int := 0
  /-- `RAIL[r].CURRENT` mA, the mean of the last sweep; 05 R176; reset 0 -/
  current : Int := 0
  /-- current of the latest tick from the count source, mA; 08 R264; reset 0 -/
  tick : Int := 0
  /-- current by the Hall input, latest tick, mA; 08 R267; reset 0 -/
  hall : Int := 0
  /-- shunt channel valid; 08 R266; DESIGN CHOICE true (log 7) -/
  shuntValid : Bool := true
  /-- Hall channel valid; 08 R266; DESIGN CHOICE true (log 7) -/
  hallValid : Bool := true
  /-- `RAIL[r].COUNT_SOURCE` 0 to 2; 08 R266; reset 0 -/
  countSource : Nat := 0
  /-- `RAIL[r].VOLTAGE` mV; 05 R176; reset 0 -/
  voltage : Nat := 0
  /-- `RAIL[r].CHARGE_TOTAL` int64, uC; 08 R292; reset 0 -/
  chargeTotal : Int := 0
  /-- logged totals of the last 120 s: (boundary number of 100 ms, total); 08 R292; reset empty -/
  chargeLog : List (Nat × Int) := []
  /-- `RAIL[r].REST_TIMER` s; 08 R282; reset 0 -/
  restTimer : Nat := 0
  /-- rest points of this rest period taken; 08 R282; reset false -/
  restTaken : Bool := false
  /-- automatic shuttles commanded 0 by the rest hold; 08 R282; reset false -/
  restHold : Bool := false
  /-- `RAIL[r].DIRECTION` 0 unknown, 1 charge, 2 discharge; 08 R283; reset 0 -/
  direction : Nat := 0
  /-- sum of |I| and of I over the present second, mA x sweeps; 08 R282; reset 0 -/
  absSum : Nat := 0
  /-- sum of I over the present second; 08 R282; reset 0 -/
  curSum : Int := 0
  /-- 1 s mean of I, mA; 09 R316; reset 0 -/
  curMean : Int := 0
  /-- ME.13 present (R267) keeps learning off; 08 R267; reset false -/
  hallMismatch : Bool := false
  /-- sweeps after the settle count until the rest points of a wake are taken, 0 none due; 08 R291; reset 0 -/
  wakeRest : Nat := 0
  /-- sweeps for which balancing of the rail still waits for those rest points; 08 R291; reset 0 -/
  wakeWait : Nat := 0
  /-- `RAIL[r].AVAILABLE_CHARGE` uC; 08 R278; reset 0 -/
  avail : Int := 0
  /-- `RAIL[r].HEADROOM` uC; 08 R278; reset 0 -/
  headroom : Int := 0
  /-- `RAIL[r].POSITION`; 08 R278; reset 0xFFFF -/
  position : Nat := 0xFFFF
  /-- brick that gives the minimum of avail; 08 R279; reset 0xFFFF -/
  weakest : Nat := 0xFFFF
  /-- brick that gives the minimum of headroom; 08 R281; reset 0xFFFF -/
  fullest : Nat := 0xFFFF
  deriving DecidableEq, Repr, Inhabited

/-- Estimation of the whole string (chapter 08). -/
structure Estimate where
  /-- `EST.STRING_POSITION`; 08 R279; reset 0xFFFF -/
  position : Nat := 0xFFFF
  /-- `EST.STRING_AVAILABLE`, uC; 08 R279; reset 0 -/
  avail : Int := 0
  /-- `EST.STRING_HEADROOM`, uC; 08 R279; reset 0 -/
  headroom : Int := 0
  /-- `EST.LIMITING_RAIL`; 08 R279; reset 0xFF -/
  limiting : Nat := 0xFF
  /-- rail that gives the minimum of headroom (R281); 08 R281; reset 0xFF -/
  limitingHigh : Nat := 0xFF
  /-- `EST.WARN_STATE` bits 4:0; 08 R280; reset 0 -/
  warn : Nat := 0
  /-- `EST.LEARNED_GENERATION` u32; 08 R296; reset 0 -/
  learnedGen : Nat := 0
  /-- snapshot under write; 08 R297; reset none -/
  snapshot : Option Generation := none
  /-- checkpoints of core 0, two generations; 08 R288; reset none -/
  check0 : List Checkpoint := []
  /-- checkpoints of core 1; 08 R288; reset none -/
  check1 : List Checkpoint := []
  /-- an anchor or a learn has made a write-back due (R298); 08 R298; reset false -/
  holdoff : Bool := false
  /-- a write-back runs and a further one is due after it; 08 R297; reset false -/
  again : Bool := false
  /-- the rail charge of the cycle that ended at the last sweep epoch is booked; 08 R264; reset true -/
  booked : Bool := true
  /-- sweep within the present second, 0 to 999; 08 R272; reset 0 -/
  msInSecond : Nat := 0
  /-- pair targets running, at most 8; 07 R258; reset empty -/
  pairs : List PairTarget := []
  /-- a gap still to book after a restart: the native time of the checkpoint, ns; 08 R290; reset none -/
  gapFrom : Option Nat := none
  /-- the rails still to book, with their currents at the checkpoint, mA, and their totals when counting came back, uC; 08 R290; reset empty -/
  gapRails : List (Nat × Int × Int) := []
  /-- the gap is that of one Tally core's reset; 08 R290; reset none -/
  gapCore : Option Nat := none
  /-- native time at which that core came back, ns; 08 R290; reset 0 -/
  gapTo : Nat := 0
  /-- the partner's charge totals of the gap have been asked for; 08 R290; reset false -/
  gapAsked : Bool := false
  /-- rail charges of the sweeps of the history: (sweep, rail, uC), newest first, at most 10 s; 08 R289; reset empty -/
  history : List (Nat × List Int) := []
  deriving DecidableEq, Repr, Inhabited

/-- The record of one brick of a survey (R322, R323). -/
structure SurveyRecord where
  brick : Nat := 0
  quality : Nat := 0
  r0 : Nat := 0xFFFF
  ra : Nat := 0xFFFF
  ta : Nat := 0xFFFF
  rb : Nat := 0xFFFF
  tb : Nat := 0xFFFF
  residual : Nat := 0xFFFF
  points : Nat := 0
  periods : Nat := 0
  temperature : Int := -32768
  position : Nat := 0xFFFF
  deriving DecidableEq, Repr, Inhabited

/-- What the survey keeps of a brick while it captures (R317, R322). -/
structure SurveyBrick where
  /-- a row carried ESTIMATE_ONLY or SENSOR_FAILED (R320) -/
  excluded : Bool := false
  tempSum : Int := 0
  posSum : Nat := 0
  rows : Nat := 0
  deriving DecidableEq, Repr, Inhabited

/-- The impedance survey (chapter 09). -/
structure Survey where
  /-- `SURV.STATE` 0 to 5; 09 R315; reset 0 -/
  state : Nat := 0
  /-- `SURV.ACTIVE_RAIL`; 09 R325; reset 0xFF -/
  rail : Nat := 0xFF
  /-- `SURV.NUMBER` u32 saturating, kept V; 09 R325; reset 0 -/
  number : Nat := 0
  /-- number of the running survey; 09 R305; reset 0 -/
  running : Nat := 0
  /-- the running survey was scheduled; 09 R306; reset false -/
  scheduled : Bool := false
  /-- sweeps since acceptance or since T0; 09 R315; reset 0 -/
  sweeps : Nat := 0
  /-- loop ticks since T0 (phase of the table); 09 R309; reset 0 -/
  ticks : Nat := 0
  /-- injection weight w, 0 to 1; 09 R309; reset 0 -/
  weight : Rat := 0
  /-- weight taken off per loop tick in the ramp-down (0: none); 09 R309; reset 0 -/
  ramp : Rat := 0
  /-- measured period, 0 while settling; 09 R315; reset 0 -/
  period : Nat := 0
  /-- measured periods that held a clip (bit p); 09 R316; reset 0 -/
  clips : Nat := 0
  /-- periods void for every brick by an invalid shunt (R313); 09 R313; reset 0 -/
  shuntVoid : Nat := 0
  /-- 1 s mean of string current before T0, mA; 09 R316; reset 0 -/
  meanT0 : Int := 0
  /-- result code of an end whose ramp-down still runs; 09 R316; reset none -/
  ending : Option Nat := none
  /-- per brick capture; 09 R317; reset empty -/
  bricks : Table SurveyBrick := []
  /-- blocks fetched: link x 2 + position, sweep since T0, block, its 32 samples; 09 R311; reset empty -/
  blocks : List (Nat × Nat × Nat × List Nat) := []
  /-- current samples of the rail: sweep since T0, eight values in mA; 09 R313; reset empty -/
  currents : List (Nat × List Int) := []
  /-- the survey is the partner's, captured from the frames heard; 09 R324; reset false -/
  follow : Bool := false
  /-- the Link core or the rail engine has been reset during the survey; 09 R316; reset false -/
  engineReset : Bool := false
  /-- monitors (link x 2 + position) whose BALANCE reply has shown every APPLIED 0; 09 R315; reset empty -/
  quiet : List Nat := []
  /-- records of the last complete survey per rail: (rail, number, records); 09 R322; reset empty -/
  records : List (Nat × Nat × List SurveyRecord) := []
  /-- `SURV.LAST_RESULT[r]`, kept V; 09 R325; reset 0xFF each -/
  lastResult : List Nat := List.replicate 8 0xFF
  /-- `SURV.LAST_NUMBER[r]`; 09 R325; reset 0 -/
  lastNumber : List Nat := List.replicate 8 0
  /-- `SURV.LAST_TIME[r]`; 09 R325; reset 0 -/
  lastTime : List Nat := List.replicate 8 0
  /-- the nightly window is open; 09 R306; reset false -/
  windowOpen : Bool := false
  /-- enabled rails still to survey in this window, rising; 09 R306; reset empty -/
  todo : List Nat := []
  /-- the last ten 1 s means of string current, mA, newest first (R304 condition 6); 09 R304; reset empty -/
  means : List Int := []
  /-- sum of string current over the present second; 09 R304; reset 0 -/
  meanSum : Int := 0
  deriving DecidableEq, Repr, Inhabited

/-- A final or interim reply of a wicket (R127, R137, R138): the outcome, the detail block of an outcome
other than DONE, and the payload fields of DONE as (bytes, value) in order. -/
structure Reply where
  outcome : Nat := 0
  detail : Nat := 0
  fieldOffset : Nat := 0xFFFF
  arg0 : Nat := 0
  arg1 : Nat := 0
  arg2 : Nat := 0
  payload : List (Nat × Nat) := []
  /-- serving engine's epoch (R127 EPOCH) -/
  epoch : Nat := 0
  /-- FLAGS of R128 -/
  flags : Nat := 0
  deriving DecidableEq, Repr, Inhabited

/-- One slip (R148): ARGS as (bytes, value) fields; `unsent` until a batch has carried its present content. -/
structure Slip where
  seq : Nat := 0
  code : Nat := 0
  source : Nat := 0
  time : Nat := 0
  grade : Nat := 0xFF
  repeats : Nat := 0
  args : List (Nat × Nat) := []
  unsent : Bool := true
  deriving DecidableEq, Repr, Inhabited

/-- One wicket of a session (R131). -/
structure WicketSt where
  /-- open; 04_wickets.md R131; reset false -/
  isOpen : Bool := false
  /-- SEQ of the last completed request, u16; 04 R131; reset 0 -/
  lastSeq : Nat := 0
  /-- command code and class echoed in the stored reply; 04 R127; reset 0 -/
  lastCode : Nat := 0
  /-- the stored final reply; 04 R131; reset none -/
  stored : Option Reply := none
  /-- SEQ of the request in progress; 04 R131; reset none -/
  inProgress : Option Nat := none
  /-- command code of that request; 04 R127; reset 0 -/
  curCode : Nat := 0
  /-- class of that request, as its reply echoes it; 04 R127; reset 0 -/
  curCls : Nat := 0
  deriving DecidableEq, Repr, Inhabited

/-- An open session (R132, R133). -/
structure Session where
  /-- u32 token; 04 R127 -/
  token : Nat := 0
  control : Bool := false
  /-- timeout, s; 04 R135 -/
  timeout : Nat := 10
  /-- opened on the service port (R126) -/
  service : Bool := false
  /-- a client certificate of a trust anchor, checked at the TLS session (R630) -/
  trusted : Bool := false
  /-- native time of the last valid frame, ns -/
  lastFrame : Nat := 0
  wickets : Table WicketSt := []
  deriving DecidableEq, Repr, Inhabited

/-- One of the 4 host slots (R132). -/
structure HostSlot where
  /-- bound IPv4 address; 04 R132; reset none -/
  addr : Option Nat := none
  /-- source UDP port of the session, to which slips go; 04 R123; reset 0 -/
  port : Nat := 0
  /-- native time of the last use, ns (unused for 24 h frees the slot); 04 R132; reset 0 -/
  lastUse : Nat := 0
  /-- open session; 04 R132; reset none -/
  session : Option Session := none
  /-- up to 256 slips, oldest first; 04 R147; reset empty -/
  slips : List Slip := []
  /-- the one further place for a SLIPS_LOST slip; 04 R150; reset none -/
  lostSlip : Option Slip := none
  /-- drops since the last acknowledged SLIPS_LOST slip; 04 R150; reset 0 -/
  lostCount : Nat := 0
  /-- next slip SEQ, u32 wraps; 04 R147; reset 0 -/
  nextSeq : Nat := 0
  /-- `WKT.SLIP_LOST[s]` u32 saturating; 04 R159; reset 0 -/
  slipLost : Nat := 0
  /-- brick table snapshot of the slot: sweep counter and rows; 05_parameter_dictionary.md R190; reset none -/
  snapshot : Option (Nat × Table Brick) := none
  deriving DecidableEq, Repr, Inhabited

/-- A sealed settings generation: u16 number, CRC-32 and values (R167, R171). -/
structure Settings where
  generation : Nat := 0
  /-- `ID.DICT_LEVEL` of the issue that wrote it (R616) -/
  level : Nat := 1
  crc : Nat := 0
  values : Table (Option Int) := []
  deriving DecidableEq, Repr, Inhabited

/-- The parameter values the module holds (chapter 05). A table entry `none` stands for the dictionary's default. -/
structure Params where
  /-- values in force of the RW parameters; 05_parameter_dictionary.md R165; reset every default -/
  force : Table (Option Int) := []
  /-- working copy of the commission-only parameters: entries that differ from the values in force; 05 R166; reset empty -/
  work : Table (Option Int) := []
  /-- settings marked for commissioning, as a trial issue finds them (R93, R629); 03 R93; reset false -/
  markCommission : Bool := false
  /-- a runtime write of a kept-V parameter awaits a new settings generation; 05 R167; reset false -/
  burst : Bool := false
  /-- a commit has been answered and its restart follows (R171); 05 R171; reset false -/
  committing : Bool := false
  /-- pending safety set: entries and set CRC-32; 05 R183; reset none -/
  pendingSet : Option (List (Nat × Int) × Nat) := none
  /-- the entries of that set as they came, which both sides receive; 05 R184; reset none -/
  pendingRaw : List Byte := []
  /-- a confirmed set whose record is still to be sealed (R184 step 2); 05 R184; reset none -/
  sealing : Option (List (Nat × Int)) := none
  /-- a confirmed set waiting for the sweep boundary (R184 step 3); 05 R184; reset none -/
  confirmedSet : Option (List (Nat × Int)) := none
  /-- `SAF.SET_GENERATION` u32 saturating; 05 R179; reset 0 -/
  setGeneration : Nat := 0
  /-- `SAF.PARTNER_SET_CRC` u32; 05 R179; reset 0 -/
  partnerSetCrc : Nat := 0
  /-- partner's settings CRC-32 as last reported (R170); 05 R170; reset 0 -/
  partnerSettingsCrc : Nat := 0
  deriving DecidableEq, Repr, Inhabited

/-- One section of a loop's cascade: states s1 and s2, float32 patterns (R343). -/
structure Section where
  s1 : U32 := 0
  s2 : U32 := 0
  deriving DecidableEq, Repr, Inhabited

/-- One loop, 0 to 15 (chapter 10). -/
structure Loop where
  /-- states of sections 0 to 7; 10_rail_steering.md R343; reset all +0 -/
  sections : List Section := List.replicate 8 {}
  /-- `LOOP[k].FLAGS` u8; 10 R347; reset 0 -/
  flags : Nat := 0
  /-- `LOOP[k].OUTPUT` float32 pattern; 05 R177; reset +0 -/
  output : U32 := 0
  /-- `LOOP[k].ERROR` float32 pattern; 05 R177; reset +0 -/
  error : U32 := 0
  /-- c_prev float32 pattern; 10 R345; reset +0 -/
  cPrev : U32 := 0
  /-- `LOOP[k].SAT_COUNT` u32 saturating; 05 R177; reset 0 -/
  satCount : Nat := 0
  /-- `LOOP[k].TICKS` u32 wraps; 05 R177; reset 0 -/
  ticks : Nat := 0
  /-- bump start b0, float32 pattern; 10 R349; reset +0 -/
  b0 : U32 := 0
  /-- cascade output y of the last run, float32 pattern, which a survey freezes; 09 R309; reset +0 -/
  y : U32 := 0
  /-- present bump, float32 pattern; 10 R349; reset +0 -/
  bump : U32 := 0
  /-- a handover starts at the next tick (R349, R356); 10 R349; reset true -/
  handover : Bool := true
  /-- the loop ran at the last tick; 10 R328; reset false -/
  ran : Bool := false
  /-- loop in fall-back (k below 8); 10 R357; reset false -/
  fallback : Bool := false
  /-- fault sources that caused the fall-back and have not cleared; 10 R357; reset empty -/
  fallbackSources : List Nat := []
  /-- feedback of an auxiliary loop is invalid (R356); 10 R356; reset false -/
  fbInvalid : Bool := false
  /-- last feedback value, float32 pattern; 10 R352; reset +0 -/
  feedback : U32 := 0
  /-- consecutive ticks at the output limit, up to 200,000 (PW.23); 10 R358; reset 0 -/
  limitRun : Nat := 0
  /-- outputs of the present second, summed; 09 R304; reset 0 -/
  outSum : Rat := 0
  /-- number of those outputs; 09 R304; reset 0 -/
  outN : Nat := 0
  /-- 1 s mean of the output; 09 R304; reset 0 -/
  outMean : Rat := 0
  /-- PWM duty, 0.1 % (k of 8 and above: of OUTPUT_DEST); 10 R355; reset 0 -/
  duty : Nat := 0
  deriving DecidableEq, Repr, Inhabited

/-- One trim link and what its stage reports (R336, R337, R360). -/
structure Trim where
  /-- SEQ of the last command frame, u8; 10 R336; reset 0 -/
  seq : Nat := 0
  /-- the last command frames sent: (SEQ, MODE, INSERTION), newest first, at most 8; 10 R358; reset empty -/
  sent : List (Nat × Nat × Int) := []
  /-- last MODE commanded; 10 R336; reset 0 -/
  mode : Nat := 0
  /-- INSERTION commanded, 2 mV; 10 R336; reset 0 -/
  insertionCmd : Int := 0
  /-- `TRIM_STATE` 0 to 6; 10 R360; reset 0 -/
  state : Nat := 0
  /-- FAULTS of the latest status frame, u16; 10 R360; reset 0 -/
  faults : Nat := 0
  /-- INSERTION reported, 2 mV; 10 R360; reset 0 -/
  insertion : Int := 0
  /-- CURRENT reported, 20 mA; 10 R360; reset 0 -/
  current : Int := 0
  /-- TEMPERATURE reported, 0.01 C; 10 R360; reset 0 -/
  temperature : Int := 0
  /-- `TRIM_PORT` 0, 1, 0xFF; 10 R360; reset 0xFF -/
  port : Nat := 0xFF
  /-- `TRIM_CRC_ERRORS` u32 saturating; 10 R360; reset 0 -/
  crcErrors : Nat := 0
  /-- `TRIM_MISSED` u32 saturating; 10 R360; reset 0 -/
  missed : Nat := 0
  /-- a valid status frame has come since the last tick; 10 R341; reset false -/
  fresh : Bool := false
  /-- ticks since the last valid status frame; 10 R341; reset 0 -/
  silent : Nat := 0
  /-- times of the last 21 failing frames, newest first (LK.21); 10 R358; reset empty -/
  failTimes : List Nat := []
  /-- `TRIM_HOLD_COUNT` u16, kept V; 10 R360; reset 0 -/
  holdCount : Nat := 0
  /-- `TRIM_MAX_TEMPERATURE`, none 0x8000; 10 R360; reset none -/
  maxTemp : Option Int := none
  /-- `TRIM_RUN_SECONDS` in ms; 10 R360; reset 0 -/
  runMs : Nat := 0
  /-- `TRIM_LAST_FAULT_TIME` s; 10 R360; reset 0 -/
  lastFaultTime : Nat := 0
  /-- `TRIM_LAST_FAULTS`; 10 R360; reset 0 -/
  lastFaults : Nat := 0
  /-- `TRIM_FAULT_COUNT[0..11]`; 10 R360; reset 0 each -/
  faultCount : List Nat := List.replicate 12 0
  /-- `FALLBACK_COUNT` u16, kept V; 10 R359; reset 0 -/
  fallbackCount : Nat := 0
  /-- `FALLBACK_CAUSE` u16, kept V; 10 R359; reset 0 -/
  fallbackCause : Nat := 0
  /-- `STEER_SECONDS` in ms; 10 R359; reset 0 -/
  steerMs : Nat := 0
  deriving DecidableEq, Repr, Inhabited

/-- Shares and direction of rail steering (R329 to R333), and the tuning test. -/
structure Steer where
  /-- shares s_r in force (float32 values); 10 R329; reset 0 each -/
  shares : List Rat := List.replicate 8 0
  /-- shares computed in the last cycle, taking effect at the next epoch; 10 R329; reset 0 each -/
  nextShares : List Rat := List.replicate 8 0
  /-- target shares; 10 R330; reset 0 each -/
  targets : List Rat := List.replicate 8 0
  /-- measured shares; 10 R331; reset 0 each -/
  measured : List Rat := List.replicate 8 0
  /-- rails in use at the last share computation (mask); 10 R332; reset 0 -/
  inUse : Nat := 0
  /-- rails steered at the last share computation (mask); 10 R332; reset 0 -/
  steered : Nat := 0
  /-- dir is charge; 10 R330; reset false (discharge at each start) -/
  charging : Bool := false
  /-- sweeps for which the share of each rail has been 0, up to 1,000; 13 R446; reset 0 each -/
  zeroRun : List Nat := List.replicate 8 0
  /-- `TUNE.STATE`; 10 R361; reset 0 -/
  tuneState : Nat := 0
  /-- `TUNE.CAPTURE_NUMBER` u32; 10 R361; reset 0 -/
  captureNumber : Nat := 0
  /-- `TUNE.END_CODE`; 10 R361; reset 0xFF -/
  endCode : Nat := 0xFF
  /-- `TUNE.LOOP`; 10 R361; reset 0xFF -/
  loop : Nat := 0xFF
  /-- summing point of the test; 10 R350; reset 0 -/
  point : Nat := 0
  /-- signal kind; 10 R350; reset 0 -/
  kind : Nat := 0
  /-- amplitude, float32 pattern; 10 R350; reset 0 -/
  amplitude : U32 := 0
  /-- frequency or step time, float32 pattern; 10 R350; reset 0 -/
  freq : U32 := 0
  /-- loop runs since acceptance; 10 R351; reset 0 -/
  runs : Nat := 0
  /-- decimation of the running capture; 10 R352; reset 1 -/
  decimation : Nat := 1
  /-- samples taken, newest first: (signal, feedback, x, c) patterns; 10 R352; reset empty -/
  samples : List (U32 × U32 × U32 × U32) := []
  /-- `TUNE.SAMPLES`; 10 R361; reset 0 -/
  sampleCount : Nat := 0
  deriving DecidableEq, Repr, Inhabited

/-- A master stream frame held (R376): time stamp ns, MASTER mA, SECTION_POSITION. -/
structure MasterFrame where
  time : Nat := 0
  master : Int := 0
  position : Nat := 0
  deriving DecidableEq, Repr, Inhabited

/-- An open notice (R388). -/
structure Notice where
  number : Nat := 1
  p1 : Bool := false
  cause : Nat := 1
  source : Nat := 0
  grade : Nat := 0xFF
  rail : Nat := 0xFF
  brick : Nat := 0xFFFF
  /-- sent at least once -/
  sent : Bool := false
  deriving DecidableEq, Repr, Inhabited

/-- An order waiting for its profile step (R366). -/
structure Order where
  seq : Nat := 0
  code : Nat := 6
  value : Int := 0
  deriving DecidableEq, Repr, Inhabited

/-- Dispatch and the set-point profile (chapter 11). -/
structure Profile where
  /-- set-point i, A, a float64 value; 11_dispatch_profile.md R372; reset 0 -/
  i : Rat := 0
  /-- rate v, A/s; 11 R372; reset 0 -/
  v : Rat := 0
  /-- acceleration a, A/s2; 11 R372; reset 0 -/
  a : Rat := 0
  /-- `PRF.TARGET` mA; 11 R385; reset 0 -/
  target : Int := 0
  /-- a move is in progress; 11 R373; reset false -/
  moving : Bool := false
  /-- pending slot: the order that waits; 11 R373; reset none -/
  pendingOrder : Option Order := none
  /-- order in force, none until one is handled; 11 R387; reset none -/
  inForce : Option Order := none
  /-- SEQ of the last order handled, none since the start; 11 R366; reset none -/
  lastSeq : Option Nat := none
  /-- OUTCOME of the last order handled, 0xFF none; 11 R387; reset 0xFF -/
  outcome : Nat := 0xFF
  /-- FACTOR of the statement; 11 R371; reset 0 -/
  factor : Nat := 0
  /-- `PRF.GRANT_FACTOR`; 11 R385; reset 0 -/
  grantFactor : Nat := 0
  /-- orders received and not yet handled, in arrival order, those of the step after the next marked true; 11 R366; reset empty -/
  waiting : List (Order × Bool) := []
  /-- I_q of the last step, mA; 11 R368; reset 0 -/
  request : Int := 0
  /-- grant of the last step, mA; 11 R370; reset 0 -/
  grant : Int := 0
  /-- `PRF.DIS_LIMIT` mA; 11 R369; reset 0 -/
  disLimit : Nat := 0
  /-- `PRF.CHG_LIMIT` mA; 11 R369; reset 0 -/
  chgLimit : Nat := 0
  /-- factor of the discharge limit; 11 R387; reset 0 -/
  disFactor : Nat := 0
  /-- factor of the charge limit; 11 R387; reset 0 -/
  chgFactor : Nat := 0
  /-- `PRF.OVERWRITES` u32; 11 R385; reset 0 -/
  overwrites : Nat := 0
  /-- PRF.JERK in force for the move (writes held until it ends); 11 R373; reset 200000 -/
  jerk : Nat := 200000
  /-- stop ramp: none, or some true when the contactors open after it, some false for M6; 11 R379; reset none -/
  stopRamp : Option Bool := none
  /-- fault source that started the stop, for the MODE slip (R152); 04 R152; reset 0 -/
  stopCause : Nat := 0
  /-- the stop ramp has reached 0 and the wait for the controlled opening runs; 11 R379; reset false -/
  openWait : Bool := false
  /-- the first epoch after a take: a set-point frame whatever the frame period; 15 R488; reset false -/
  firstFrame : Bool := false
  /-- next set-point frame carries MODE 2 and 0 (R380); 11 R380; reset false -/
  tripFrame : Bool := false
  /-- Hold-up frames: MODE 0 and 0 (R381); 11 R381; reset false -/
  zeroHold : Bool := false
  /-- COUNT of the set-point frame, u8; 11 R383; reset 0 -/
  countSet : Nat := 0
  /-- COUNT of the limits frame, u8; 11 R383; reset 0 -/
  countLim : Nat := 0
  /-- two newest master frames, newest first; 11 R377; reset empty -/
  masters : List MasterFrame := []
  /-- frames received at or after +920 us, which wait for the step of the next cycle (R45); 11 R376; reset empty -/
  lateMasters : List MasterFrame := []
  /-- `GEAR.ACTIVE`; 11 R378; reset 0 -/
  gear : Nat := 0
  /-- the stream has timed out (RT.31); 11 R377; reset false -/
  streamLost : Bool := false
  /-- the order timeout has passed (RT.30); 11 R367; reset false -/
  ordersLost : Bool := false
  deriving DecidableEq, Repr, Inhabited

/-- The section manager's side and the converter (chapters 11 and 15). -/
structure Sectionm where
  /-- `SEC.EPOCH` u32; 05 R179; reset 0 -/
  epoch : Nat := 0
  /-- `SEC.DISCARDS` u32; 11 R385; reset 0 -/
  discards : Nat := 0
  /-- `SEC.STALE_EPOCH` u32; 11 R385; reset 0 -/
  stale : Nat := 0
  /-- times of the last 11 frames of a stale epoch, newest first (RT.32); 11 R389; reset empty -/
  staleTimes : List Nat := []
  /-- SEQ of own statements, u16; 11 R363; reset 0 -/
  seqStatement : Nat := 0
  /-- SEQ of own notices; 11 R363; reset 0 -/
  seqNotice : Nat := 0
  /-- SEQ of own standing messages; 11 R363; reset 0 -/
  seqStanding : Nat := 0
  /-- open notices, oldest first; 11 R388; reset empty -/
  notices : List Notice := []
  /-- next notice number, u32, never 0; 11 R388; reset 1 -/
  nextNotice : Nat := 1
  /-- converter status COUNT of the last accepted frame; 11 R386; reset none -/
  convCount : Option Nat := none
  /-- converter STATE; 11 R386; reset 0 -/
  convState : Nat := 0
  /-- DIS_AVAILABLE, A; 11 R386; reset 0 -/
  convDis : Nat := 0
  /-- CHG_AVAILABLE, A; 11 R386; reset 0 -/
  convChg : Nat := 0
  /-- a status has been accepted within PRF.STATUS_TIMEOUT; 11 R386; reset false -/
  convFresh : Bool := false
  /-- string current summed over the present 100 sweeps, mA; 11 R387; reset 0 -/
  curSum : Int := 0
  /-- mean string current of the last 100 ms, mA; 11 R387; reset 0 -/
  curMean : Int := 0
  /-- bus voltage modulators 0 and 1, mV, none failed; 11 R368; reset some 0 each -/
  bus0 : Option Nat := some 0
  /-- bus voltage modulator 1; 11 R368; reset some 0 -/
  bus1 : Option Nat := some 0
  deriving DecidableEq, Repr, Inhabited

/-- One thermistor of the pack monitors, keyed 8 x link + 4 x position + i (R394 to R396). -/
structure Therm where
  /-- sum of the valid readings of the Wicket core's interval; 12_thermal.md R394; reset 0 -/
  sum : Int := 0
  valid : Nat := 0
  total : Nat := 0
  /-- filtered value, 0.01 C; 12 R394; reset none -/
  value : Option Int := none
  /-- evaluated at 100 Hz; 12 R394; reset false -/
  fast : Bool := false
  /-- in the warning level; 12 R390; reset false -/
  warning : Bool := false
  /-- in the throttle level; 12 R390; reset false -/
  throttle : Bool := false
  /-- failed (R396); 12 R396; reset false -/
  failed : Bool := false
  /-- the Guard core's interval; 12 R395; reset 0 -/
  gSum : Int := 0
  gValid : Nat := 0
  gTotal : Nat := 0
  /-- the Guard core's filtered value; 12 R395; reset none -/
  gValue : Option Int := none
  /-- shutdown reached (never left); 12 R390; reset false -/
  shutdown : Bool := false
  deriving DecidableEq, Repr, Inhabited

/-- One busbar or contactor sensor THS[s] (R392, R399). -/
structure Ths where
  /-- `THS[s].VALUE`, none invalid; 12 R392; reset none -/
  value : Option Int := none
  /-- value last evaluated, 0.01 C; 12 R402; reset 0 -/
  last : Int := 0
  /-- source invalid for 1 s (R399); 12 R399; reset false -/
  lost : Bool := false
  warning : Bool := false
  throttle : Bool := false
  shutdown : Bool := false
  deriving DecidableEq, Repr, Inhabited

/-- A die or board sensor (R390, R399). -/
structure Die where
  /-- last 8 samples, 0.01 C, newest first; 12 R399; reset empty -/
  samples : List Int := []
  /-- mean of the samples, `TH.DIE_TEMP`; 12 R391; reset 0 -/
  value : Int := 0
  warning : Bool := false
  throttle : Bool := false
  shutdown : Bool := false
  deriving DecidableEq, Repr, Inhabited

/-- Thermal supervision (chapter 12). -/
structure Thermal where
  /-- thermistors; 12 R394; reset empty -/
  therms : Table Therm := []
  /-- busbar sensors 0 to 31; 12 R392; reset empty -/
  ths : Table Ths := []
  /-- die sensors 0 to 3, board sensors 4 and 5; 12 R399; reset empty -/
  dies : Table Die := []
  /-- `TH.LIMIT` mA; 12 R402; reset 3200000 -/
  limit : Nat := 3200000
  /-- `TH.LIMITING_SENSOR`; 12 R402; reset 0xFFFF -/
  limiting : Nat := 0xFFFF
  /-- `TH.HOTTEST_BRICK`; 12 R407; reset 0xFFFF -/
  hottest : Nat := 0xFFFF
  /-- `TH.HOTTEST_BRICK_TEMP`; 12 R407; reset none -/
  hottestTemp : Option Int := none
  /-- `TH.SHUTDOWN_CAUSE` u16, kept V; 12 R403; reset 0 -/
  shutdownCause : Nat := 0
  /-- a shutdown condition found in M1, raised when the module leaves M1 (R403): source and item; 12 R403; reset none -/
  bootShutdown : Option (Nat × Nat) := none
  /-- outputs of TH.FORCE_MASK forced (R401); 12 R401; reset false -/
  forced : Bool := false
  /-- Vault writes held back after a shutdown (R404, R405); 12 R404; reset false -/
  vaultHeld : Bool := false
  /-- packs whose thermistors are all failed, by link, with the grace running; 12 R397; reset empty -/
  grace : List Nat := []
  /-- duty of each PWM output as driven, 0.1 %; 12 R401, R406; reset 0 each -/
  pwm : List Nat := List.replicate 8 0
  deriving DecidableEq, Repr, Inhabited

/-- A frame on a CAN bus: identifier, extended, FD format, data. -/
structure CanFrame where
  id : Nat := 0
  ext : Bool := false
  fd : Bool := false
  data : List Byte := []
  deriving DecidableEq, Repr, Inhabited

/-- What the header of an issue says (R627), with the CRC-32 of the image. -/
structure IssueInfo where
  number : Nat := 1
  mirrorFormat : Nat := 1
  dictLevel : Nat := 1
  romMin : Nat := 0
  security : Nat := 0
  keyIndex : Nat := 0
  crc : Nat := 0
  deriving DecidableEq, Repr, Inhabited

/-- What a program image declares (R545): sizes, resources, statement starts and variables. -/
structure ProgramImage where
  crc : Nat := 0
  codeLen : Nat := 0
  instLen : Nat := 0
  retLen : Nat := 0
  /-- PWM outputs written (mask) -/
  pwm : Nat := 0
  /-- dedicated slots written: bit 2b + j -/
  slots : Nat := 0
  /-- feedback variables written (mask) -/
  feedback : Nat := 0
  /-- loops whose reference is written (mask) -/
  loops : Nat := 0
  /-- code offsets at which statements start -/
  stmts : List Nat := []
  /-- instances: (name, type, initial value) -/
  inst : List (Nat × Nat × Nat) := []
  /-- retained variables: (name, type, initial value) -/
  retained : List (Nat × Nat × Nat) := []
  deriving DecidableEq, Repr, Inhabited

/-- One PTP port (chapter 16). -/
structure PtpPort where
  /-- best master of the port's own best master clock algorithm (clockIdentity, 0 none); 16_time_and_uplinks.md R512; reset 0 -/
  best : Nat := 0
  /-- its priority vector: priority1, clockClass, accuracy, variance, priority2, identity, steps removed; 16 R512; reset empty -/
  vector : List Nat := []
  /-- the port is in MASTER (R519); 16 R519; reset false -/
  master : Bool := false
  /-- Announce messages have arrived within the receipt timeout; 16 R513; reset false -/
  announced : Bool := false
  /-- consecutive Sync messages from which the offset was formed, at most 4; 16 R513; reset 0 -/
  syncs : Nat := 0
  /-- `PTP.OFFSET[i]` ns, none invalid; 16 R526; reset none -/
  offset : Option Int := none
  /-- `PTP.PEER_DELAY[i]` ns, none invalid; 16 R526; reset none -/
  peerDelay : Option Nat := none
  /-- the Sync waiting for its Follow_Up: (sequenceId, receive stamp ns, correction ns); 16 R515; reset none -/
  sync : Option (Nat × Nat × Int) := none
  /-- sequenceId of the newest own Pdelay_Req; 16 R512; reset 0 -/
  pdSeq : Nat := 0
  /-- transmit stamp of that request, ns; 16 R525; reset none -/
  pdT1 : Option Nat := none
  /-- t2 (of the response) and t4 (its reception), ns; 16 R512; reset none -/
  pdT24 : Option (Nat × Nat) := none
  /-- sequenceId of the newest own Sync and Announce as grandmaster candidate; 16 R519; reset 0 -/
  msSeq : Nat := 0
  /-- the newest offset lies within PTP.SYNC_TOL of the servo's filtered offset; 16 R513; reset false -/
  near : Bool := false
  /-- synchronised under R513 at the last look; 16 R513; reset false -/
  synced : Bool := false
  deriving DecidableEq, Repr, Inhabited

/-- Plant time (chapter 16). -/
structure TimeBase where
  /-- time base, ns since the PTP epoch; 16 R505; reset 1 s (DESIGN CHOICE, log 8: ID.MADE 0 and the delivered module's first start) -/
  ns : Nat := 1000000000
  /-- native time of the last loop tick, ns; 10 R339; reset 0 -/
  lastTick : Nat := 0
  /-- native time of the last sweep epoch, ns; 16 R508; reset 0 -/
  lastEpoch : Nat := 0
  /-- end of a cycle that a step has lengthened, ns; 16 R516; reset none -/
  gridEnd : Option Nat := none
  /-- length of the cycle that ended last, 10 ns; 16 R516; reset 100000 -/
  cycleLen : Nat := 100000
  /-- rate register, 0.01 ppb (`PTP.RATE_ADJ`); 16 R506; reset 0 -/
  rate : Int := 0
  /-- rate the servo has estimated for the TCXO, 0.01 ppb; 16 R515; reset 0 -/
  tcxo : Int := 0
  /-- sweep counter u32; 16 R508; reset 0 -/
  sweep : Nat := 0
  /-- the sweep counter has been set since the start; 16 R508; reset false -/
  sweepSet : Bool := false
  /-- a sweep epoch has come since the start; 16 R507; reset false -/
  began : Bool := false
  /-- `PTP.STATE`; 16 R520; reset 0 -/
  state : Nat := 0
  /-- `PTP.PORT_FOLLOWED`; 16 R526; reset 0xFF -/
  followed : Nat := 0xFF
  /-- second of the time base in which a port was taken while neither was followed; 16 R514; reset none -/
  takenAt : Option Nat := none
  /-- clockIdentity of the grandmaster followed last in this start, which `PTP.GM_IDENTITY` reads while a port is followed; 16 R517, R526; reset 0 -/
  gm : Nat := 0
  /-- a new grandmaster whose offsets qualify: identity, least and greatest offset, ns; 16 R517; reset none -/
  qualify : Option (Nat × Int × Int) := none
  /-- ports 0 and 1; 16 R513; reset at their defaults -/
  ports : Table PtpPort := []
  /-- time in the present holdover, ns; 16 R518; reset 0 -/
  holdoverNs : Nat := 0
  /-- one-second samples of the rate register in synchronised operation, newest first, at most 60; 16 R518; reset empty -/
  rates : List Int := []
  /-- `PTP.STEPS` u32, kept V; 16 R526; reset 0 -/
  steps : Nat := 0
  /-- `PTP.UTC_OFFSET` s, kept V; 16 R526; reset 37 -/
  utcOffset : Int := 37
  /-- announced leap second at the end of the UTC day: +1 or -1; 16 R509; reset none -/
  leap : Option Int := none
  /-- offset to be stepped at the next sweep epoch, ns (R516); 16 R516; reset none -/
  step : Option Int := none
  /-- cycles until balancing resumes after a step (R516); 16 R516; reset 0 -/
  stepHold : Nat := 0
  deriving DecidableEq, Repr, Inhabited

/-- A receipt queue (R523). -/
structure Receipt where
  /-- entries (tag, stamp ns), oldest first, at most 16; 16 R523; reset empty -/
  entries : List (Nat × Nat) := []
  /-- tags of the frames that await a stamp; 16 R524; reset empty -/
  awaiting : List Nat := []
  /-- `TIME.RECEIPT_DROPS[q]` u32 saturating; 16 R526; reset 0 -/
  drops : Nat := 0
  deriving DecidableEq, Repr, Inhabited

/-- The uplinks (chapter 16). -/
structure Net where
  /-- links of uplinks 0 and 1 and of the service port (bits 0 to 2); 16 R502; reset 0 -/
  links : Nat := 0
  /-- ports that hear supervision frames (bits 0, 1); 16 R502; reset 0 -/
  heard : Nat := 0
  /-- SFP module enabled on uplinks 0 and 1 of an -F variant (R498); 16 R498; reset 3 -/
  sfp : Nat := 3
  /-- `NET.PRP_WRONG_LAN[i]`; 16 R526; reset 0, 0 -/
  wrongLan : List Nat := [0, 0]
  /-- `NET.PRP_DISCARDS[i]`; 16 R526; reset 0, 0 -/
  discards : List Nat := [0, 0]
  /-- first copies held for duplicate discard: (source MAC, sequence number, port, time ns); 16 R501; reset empty -/
  seen : List (Nat × Nat × Nat × Nat) := []
  /-- RCT sequence number of the next frame sent, u16; 16 R500; reset 0 -/
  rctSeq : Nat := 0
  /-- the module answers on the role address, `NET.ROLE_ADDR_HELD`; 16 R504; reset false -/
  roleHeld : Bool := false
  /-- gratuitous ARP repeats still to send (100 ms and 1 s after the take); 16 R504; reset 0 -/
  arpLeft : Nat := 0
  /-- receipt queues 0 to 2; 16 R523; reset empty -/
  receipts : Table Receipt := []
  /-- `TIME.RECEIPT_STICKY`; 16 R526; reset 0 -/
  sticky : Nat := 0
  /-- `TIME.RECEIPT_UNMATCHED`; 16 R526; reset 0 -/
  unmatched : Nat := 0
  /-- ports whose RT.22 condition ends in the next sweep cycle (mask); 16 R527; reset 0 -/
  rt22 : Nat := 0
  deriving DecidableEq, Repr, Inhabited

/-- A dedicated slot of a CAN controller (R531, R532). -/
structure CanSlot where
  frame : Option CanFrame := none
  /-- the frame is now on the bus -/
  onBus : Bool := false
  /-- counted attempts of the frame -/
  attempts : Nat := 0
  /-- a frame written while the held one is on the bus -/
  held : Option CanFrame := none
  deriving DecidableEq, Repr, Inhabited

/-- A CAN FD controller (chapter 17). -/
structure Can where
  /-- transmit FIFO, head first, at most 32; 17_can_buses.md R531; reset empty -/
  fifo : List CanFrame := []
  /-- the head of the FIFO is on the bus; 17 R531; reset false -/
  fifoOnBus : Bool := false
  /-- counted attempts of the head; 17 R535; reset 0 -/
  attempts : Nat := 0
  /-- dedicated slot 0; 17 R531; reset empty -/
  slot0 : CanSlot := {}
  /-- dedicated slot 1; 17 R531; reset empty -/
  slot1 : CanSlot := {}
  /-- secondary sample point of the last frame sent with transmitter delay compensation, ns after the start of its bit, none without
  it; 17 R529; reset none -/
  ssp : Option Nat := none
  /-- transmit error counter; 17 R544; reset 0 -/
  tec : Nat := 0
  /-- receive error counter; 17 R544; reset 0 -/
  recErr : Nat := 0
  /-- bus-off; 17 R536; reset false -/
  busOff : Bool := false
  /-- `CAN[b].TX_DROPS`; 17 R544; reset 0 -/
  txDrops : Nat := 0
  /-- `CAN[b].BUSOFF_COUNT`; 17 R544; reset 0 -/
  busOffCount : Nat := 0
  /-- `CAN[b].SLOT_OVERWRITES`; 17 R544; reset 0 -/
  overwrites : Nat := 0
  /-- an orphan stop switches this bus to normal mode (R538); 17 R538; reset false -/
  orphan : Bool := false
  /-- frames received for the program since the last snapshot, oldest first, at most 64; 18_cyclic_program.md R568; reset empty -/
  rx : List CanFrame := []
  deriving DecidableEq, Repr, Inhabited

/-- A station of the auxiliary bus (R539, R540). -/
structure Aux where
  /-- last NMT state heard, `AUX[s].STATE`, 0xFF lost or never heard; 17 R544; reset 0xFF -/
  state : Nat := 0xFF
  /-- heartbeat present; 17 R540; reset false -/
  present : Bool := false
  /-- `AUX[s].LOSSES` u16 saturating, kept V; 17 R544; reset 0 -/
  losses : Nat := 0
  deriving DecidableEq, Repr, Inhabited

/-- A process value of a PDO mapping (R542). -/
structure Pdo where
  /-- float32 pattern; 17 R542; reset 0x7FC00000 -/
  value : Nat := 0x7FC00000
  /-- reception time, ns; 17 R542; reset 0 -/
  time : Nat := 0
  /-- a value has been received or written and not made invalid; 17 R540; reset false -/
  valid : Bool := false
  /-- changed since its frame was last written to the FIFO; 17 R542; reset false -/
  changed : Bool := false
  deriving DecidableEq, Repr, Inhabited

/-- An SDO transfer of the program (R541, R569). -/
structure Sdo where
  station : Nat := 0
  index : Nat := 0
  sub : Nat := 0
  /-- download (write) -/
  write : Bool := false
  data : List Byte := []
  /-- bytes moved so far -/
  done : Nat := 0
  /-- segmented, with the toggle bit of the next segment -/
  segmented : Bool := false
  toggle : Bool := false
  /-- bytes the server announced (upload) -/
  size : Nat := 0
  deriving DecidableEq, Repr, Inhabited

/-- The CAN buses (chapter 17). -/
structure Buses where
  /-- controllers 0 and 1; 17 R528; reset at their defaults -/
  can : Table Can := []
  /-- stations 0 to 15; 17 R540; reset at their defaults -/
  aux : Table Aux := []
  /-- process values 0 to 31; 17 R542; reset at their defaults -/
  pdo : Table Pdo := []
  /-- running transfer on bus 0 and on bus 1; 17 R541; reset none -/
  sdo0 : Option Sdo := none
  /-- running transfer on bus 1; 17 R541; reset none -/
  sdo1 : Option Sdo := none
  deriving DecidableEq, Repr, Inhabited

/-- The input image of the program (R551), and the answers to its previous output write. -/
structure ProgramInput where
  /-- sweep counter of the brick rows -/
  sweep : Nat := 0
  /-- SYS.TAI_NS, ns since the PTP epoch at the cycle start -/
  tai : Nat := 0
  /-- SYS.SHORT, the short stamp of that instant (R521) -/
  short : Nat := 0
  /-- the parameters of the module, time, string, rail and thermal groups: (index, value) -/
  params : List (Nat × Int) := []
  /-- the brick rows, from which VOLTAGE, TEMPERATURE, POSITION and STATUS are read -/
  rows : Table Brick := []
  /-- `PDO.VALUE[i]`, float32 patterns -/
  values : List Nat := []
  /-- process values that are valid (mask) -/
  valid : Nat := 0
  /-- `AUX[s].STATE` -/
  stations : List Nat := []
  /-- stations present (mask; R565) -/
  present : Nat := 0
  /-- frames accepted since the previous snapshot: (bus, frame) -/
  rx : List (Nat × CanFrame) := []
  /-- answers to Guard requests: (bit, 1 honoured or 2 refused, reason) -/
  guard : List (Nat × Nat × Nat) := []
  /-- answers to the CAN sends: (bus, code) -/
  can : List (Nat × Nat) := []
  /-- results of SDO requests: (bus, abort or refusal code, data) -/
  sdo : List (Nat × Nat × List Byte) := []
  /-- answers to parameter reads: (index, value) -/
  reads : List (Nat × Int) := []
  /-- `PRG.UNDELIVERED` -/
  undelivered : Nat := 0
  deriving DecidableEq, Repr, Inhabited

/-- The cyclic program (chapter 18). -/
structure Program where
  /-- `PRG.STATE` 0 stop, 1 run, 2 hold; 18_cyclic_program.md R557; reset 0 -/
  state : Nat := 0
  /-- instance data: (name, type, value); 18 R545; reset empty -/
  inst : List (Nat × Nat × Nat) := []
  /-- instance data stands for the image it was last in run with (R562), by CRC-32; 18 R562; reset 0 -/
  instCrc : Nat := 0
  /-- retained data: (name, type, value), as committed; 18 R545; reset empty -/
  retained : List (Nat × Nat × Nat) := []
  /-- a cycle executes; 18 R548; reset false -/
  executing : Bool := false
  /-- the executing cycle has overrun; 18 R549; reset false -/
  overrun : Bool := false
  /-- the next cycle start is skipped; 18 R549; reset false -/
  skip : Bool := false
  /-- consecutive cycles within their deadline, up to 100 (PR.30); 18 R573; reset 0 -/
  cleanRun : Nat := 0
  /-- `PRG.OVERRUNS` u32; 18 R571; reset 0 -/
  overruns : Nat := 0
  /-- `PRG.CYCLES` u32 wraps; 18 R571; reset 0 -/
  cycles : Nat := 0
  /-- `PRG.EXEC_MAX` us; 18 R571; reset 0 -/
  execMax : Nat := 0
  /-- `PRG.STOP_CAUSE`; 18 R571; reset 0xFF -/
  stopCause : Nat := 0xFF
  /-- `PRG.UNDELIVERED` u16; 18 R571; reset 0 -/
  undelivered : Nat := 0
  /-- `PRG.EXCHANGES` u32, kept V; 18 R571; reset 0 -/
  exchanges : Nat := 0
  /-- `PRG.CAN_REFUSED` u32; 18 R571; reset 0 -/
  canRefused : Nat := 0
  /-- PWM duties of the program outputs 0 to 7, 0.1 %; 18 R553; reset 0 each -/
  duties : List Nat := List.replicate 8 0
  /-- program feedback variables 0 to 31, float32 patterns, none invalid; 18 R553; reset none each -/
  feedback : List (Option Nat) := List.replicate 32 none
  /-- Guard request bits held: bit 0 CLOSE, 1 STOP, 8 + r RAIL_CONNECT, 16 + r RAIL_DISCONNECT; 18 R567; reset 0 -/
  guardBits : Nat := 0
  /-- answers to Guard requests: (bit, 1 honoured or 2 refused, reason); 18 R567; reset empty -/
  guardAnswers : List (Nat × Nat × Nat) := []
  /-- Guard requests placed and not yet decided in this sweep; 18 R567; reset empty -/
  guardPlaced : List Nat := []
  /-- a STOP of the program or of a host has been handled in this sweep; 18 R567; reset false -/
  stopSeen : Bool := false
  /-- answers of the CAN sends of the previous write: (bus, code); 18 R568; reset empty -/
  canAnswers : List (Nat × Nat) := []
  /-- SDO answers: (bus, abort or refusal code, data); 18 R569; reset empty -/
  sdoAnswers : List (Nat × Nat × List Byte) := []
  /-- parameter reads waiting for the sweep boundary; 18 R553; reset empty -/
  reads : List Nat := []
  /-- answers to parameter reads: (index, value); 18 R553; reset empty -/
  readAnswers : List (Nat × Int) := []
  /-- loop references written and waiting for the sweep boundary: (k, float32 pattern); 18 R553; reset empty -/
  refs : List (Nat × Nat) := []
  /-- an exchange prepares (1) or is prepared (2); 18 R563; reset 0 -/
  exchange : Nat := 0
  /-- start or stop waiting for the next cycle start: 1 warm, 2 cold, 3 stop; 18 R557; reset 0 -/
  pending : Nat := 0
  /-- an auto-start waits for M3 or M4 as active: 1 warm, 2 cold; 18 R562; reset 0 -/
  autoStart : Nat := 0
  /-- the input image; 18 R551; reset empty -/
  image : ProgramInput := {}
  /-- `PRG.CYCLE` in force for the cycle starts, ms; 18 R547; reset 10 -/
  period : Nat := 10
  deriving DecidableEq, Repr, Inhabited

/-- A Daybook entry (R575). -/
structure DayEntry where
  time : Nat := 0
  code : Nat := 0
  rep : Nat := 0
  arg : Nat := 0
  deriving DecidableEq, Repr, Inhabited

/-- A Ledger record: the header's SINCE and RESTORED, the body fields by their offset (R585), and the
remainders carried at 1 uC of CHARGED and DISCHARGED. -/
structure LedgerRec where
  since : Nat := 0
  restored : Bool := false
  words : Table Int := []
  chg : Nat := 0
  dis : Nat := 0
  deriving DecidableEq, Repr, Inhabited

/-- A Ledger generation (R588); records keyed region x 65,536 + record. -/
structure LedgerGen where
  number : Nat := 0
  kind : Nat := 0
  stamp : Nat := 0
  sweep : Nat := 0
  settingsCrc : Nat := 0
  gap : Bool := false
  /-- SINCE of the records that are not listed -/
  since : Nat := 0
  records : Table LedgerRec := []
  deriving DecidableEq, Repr, Inhabited

/-- The Daybook and the Ledger (chapter 19). -/
structure Records where
  /-- ring of the Daybook, newest first, at most 65,536; 19_ledger_and_daybook.md R574; reset empty -/
  day : List DayEntry := []
  /-- `REC.DAYBOOK_NEXT` u32 wraps; 19 R574; reset 0 -/
  next : Nat := 0
  /-- entry number of the newest raise entry per instance: (source, item, entry number); 19 R580; reset empty -/
  raises : List (Nat × Nat × Nat) := []
  /-- live Ledger values, keyed region x 65,536 + record; 19 R586; reset every record 0 -/
  live : Table LedgerRec := []
  /-- the live values at the newest sweep boundary, which an export reads; 19 R591; reset every record 0 -/
  liveAt : Table LedgerRec := []
  /-- low 32 bits of the native seconds at which accumulation began for records not listed; 19 R584; reset 0 -/
  since : Nat := 0
  /-- increments have been lost since the previous close (GAP); 19 R590; reset false -/
  gap : Bool := false
  /-- `REC.CLOSE_GENERATION` u32, kept V; 19 R593; reset 0 -/
  closeGen : Nat := 0
  /-- `REC.LAST_CLOSE`; 19 R593; reset 0 -/
  lastClose : Nat := 0
  /-- `REC.LAST_CLOSE_KIND`; 19 R593; reset 0 -/
  lastKind : Nat := 0
  /-- `REC.CLOSE_PENDING`; 19 R593; reset false -/
  pending : Bool := false
  /-- increments of this cycle for the LEDGER block: key, offset, amount; 15 R474; reset empty -/
  adds : List (Nat × Nat × Int) := []
  /-- new extremes of this cycle: key, offset, offset of the time, value, time; 15 R474; reset empty -/
  exts : List (Nat × Nat × Nat × Int × Nat) := []
  /-- UTC day number of the last close made or passed, from which missed midnights are counted; 19 R589; reset 0 -/
  closedDay : Nat := 0
  /-- the UTC day has been taken since the last start; 19 R589; reset false -/
  dayTaken : Bool := false
  /-- the generation that waits for its write (kind 1 daily, 2 Lockout; stamp); 19 R589; reset none -/
  due : Option (Nat × Nat) := none
  /-- `REC.LEDGER_RESTORED`; 19 R593; reset 0 -/
  restored : Nat := 0
  deriving DecidableEq, Repr, Inhabited

/-- The energy figures of one engine (R595, R597). -/
structure EngineBudget where
  /-- `TRS.ENERGY[e]` 0.1 mJ; 20_treasury_and_ageing.md R613; reset 0 -/
  energy : Nat := 0
  /-- energy per class P0 to P4 in the last period, 0.1 mJ; 20 R595; reset 0 each -/
  classes : List Nat := [0, 0, 0, 0, 0]
  /-- `TRS.ALLOWANCE[e]` mJ; 20 R613; reset 0 -/
  allowance : Nat := 0
  /-- `TRS.HEAT_ALLOWANCE[e]` mJ; 20 R613; reset 0 -/
  heat : Nat := 0
  /-- allowance spent in this period; 20 R598; reset false -/
  spent : Bool := false
  deriving DecidableEq, Repr, Inhabited

/-- One supply rail monitor (R605). -/
structure RailMon where
  /-- `PWR.RAIL[m]` mV; 20 R613; DESIGN CHOICE 0 (log 9) -/
  value : Nat := 0
  out : Bool := false
  deriving DecidableEq, Repr, Inhabited

/-- The Treasury (chapter 20). -/
structure Treasury where
  /-- `TRS.STATE` as in R138: 0 Full, 1 Thrift, 2 Hold-up, 3 Dormant; 20 R599; reset 0 -/
  state : Nat := 0
  /-- the first sweep boundary of this start has set the state; 20 R599; reset false -/
  stateSet : Bool := false
  /-- `TRS.THRIFT_CAUSE`; 20 R613; reset 0 -/
  thriftCause : Nat := 0
  /-- supply cause as timed by THRIFT_SUPPLY_TIMER; 20 R599; reset false -/
  supplyLow : Bool := false
  /-- `TRS.PERIOD_COUNT` u32 wraps; 20 R613; reset 0 -/
  period : Nat := 0
  /-- engines 1 to 8; 20 R597; reset at their defaults -/
  engines : Table EngineBudget := []
  /-- energy of the shared domain in the last period, 0.1 mJ; 20 R595; reset 0 -/
  shared : Nat := 0
  /-- `TRS.HEAT_HEADROOM` mJ; 20 R613; reset 0 -/
  heatHeadroom : Nat := 0
  /-- `TRS.MODULE_POWER` 0.1 W; 20 R613; reset 0 -/
  modulePower : Nat := 0
  /-- `TRS.DEFERRALS` u32; 20 R613; reset 0 -/
  deferrals : Nat := 0
  /-- `TRS.REFUSALS` u32; 20 R613; reset 0 -/
  refusals : Nat := 0
  /-- `TRS.HOLDUP_EVENTS` u32, kept V; 20 R613; reset 0 -/
  holdupEvents : Nat := 0
  /-- monitors 0 to 11; 20 R605; reset at their defaults -/
  monitors : Table RailMon := []
  deriving DecidableEq, Repr, Inhabited

/-- A margin plan with its measurement record (R609, R626). -/
structure Plan where
  generation : Nat := 0
  cause : Nat := 0
  coreStep : Nat := 400
  time : Nat := 0
  refreshDays : Nat := 365
  dieGuard : Nat := 0
  holdupWriteMax : Nat := 0
  slowdown : List Int := [0, 0, 0, 0]
  flashErrors : Nat := 0
  holdupCap : Nat := 2200
  holdupEnergy : Nat := 16896
  tcxo : Int := 0
  tcxoDrift : Int := 0
  deriving DecidableEq, Repr, Inhabited

/-- Ageing measurements and the margin plan (chapter 20). -/
structure Ageing where
  /-- `AGE.RO_SLOWDOWN[b]` 0.01 %; 20 R614; reset 0 each -/
  slowdown : List Int := [0, 0, 0, 0]
  /-- corrected ring-oscillator counts f0 of the banks at final test; 20 R606; DESIGN CHOICE 1000000 each (log 9) -/
  ro0 : List Nat := [1000000, 1000000, 1000000, 1000000]
  /-- sum of the one-second TCXO rates of the present UTC day, 0.01 ppb; 20 R607; reset 0 -/
  daySum : Int := 0
  /-- seconds of that sum; 20 R607; reset 0 -/
  daySecs : Nat := 0
  /-- seconds of the day in which `PTP.STATE` was 1; 20 R607; reset 0 -/
  daySync : Nat := 0
  /-- the last 8 flash samples, newest first; 20 R607; reset empty -/
  flash : List Nat := []
  /-- next 1 MiB sample of the Vault, 0 to 63; 20 R607; reset 0 -/
  flashNext : Nat := 0
  /-- `AGE.HOLDUP_CAP` 0.01 mF; 20 R614; DESIGN CHOICE 2200 (log 9) -/
  cap : Nat := 2200
  /-- `AGE.HOLDUP_ENERGY` mJ; 20 R614; DESIGN CHOICE 16896 (log 9) -/
  energy : Nat := 16896
  /-- `AGE.TCXO_PPB` 0.01 ppb; 20 R614; DESIGN CHOICE 0 (log 9) -/
  tcxo : Int := 0
  /-- TCXO value at final test; 20 R607; DESIGN CHOICE 0 (log 9) -/
  tcxoMade : Int := 0
  /-- `AGE.TCXO_DRIFT`; 20 R614; reset 0 -/
  tcxoDrift : Int := 0
  /-- bank test under way; 20 R608; reset false -/
  bankTest : Bool := false
  /-- plan in force; 20 R612; reset the values at final test (no plan sealed) -/
  plan : Plan := {}
  /-- a plan has been sealed and is in force; 20 R612; reset false -/
  planned : Bool := false
  /-- die guard in force, which changes at the sweep boundary after the seal; 20 R609; reset 0 -/
  guard : Nat := 0
  /-- refresh interval in force, days; 20 R609, R612; reset 365 -/
  refreshDays : Nat := 365
  /-- largest Hold-up write in force, bytes, none that of the measured bank; 20 R609, R612; reset none -/
  writeMax : Option Nat := none
  /-- decisions of a sealed plan waiting for the sweep boundary; 20 R609; reset false -/
  apply : Bool := false
  /-- trigger of the waiting re-plan, 0 none; 20 R610; reset 0 -/
  trigger : Nat := 0
  /-- a re-plan computes or writes; 20 R611; reset none -/
  running : Option Plan := none
  /-- `AGE.REPLAN_REQUEST`; 20 R614; reset false -/
  request : Bool := false
  /-- measurements that fell due and wait: bit 0 ring oscillators, 1 flash, 2 bank, 3 TCXO; 20 R607; reset 0 -/
  waiting : Nat := 0
  deriving DecidableEq, Repr, Inhabited

/-- The control record (R628). -/
structure Control where
  generation : Nat := 0
  confirmed : Nat := 0xFF
  trialSlot : Nat := 0xFF
  trialState : Nat := 0
  lastResult : Nat := 0
  slotState : List Nat := [0, 0]
  slotIssue : List Nat := [0, 0]
  pinnedSettings : Nat := 0
  pinnedSafety : Nat := 0
  recovery : Nat := 0
  deriving DecidableEq, Repr, Inhabited

/-- A Lockout log entry (R625). -/
structure LockEntry where
  kind : Nat := 1
  mode : Nat := 0
  source : Nat := 0
  item : Nat := 0
  time : Nat := 0
  settingsCrc : Nat := 0
  setCrc : Nat := 0
  /-- `FLT.PRESENT[i]` at the event, the first COUNT of them -/
  present : List Nat := []
  deriving DecidableEq, Repr, Inhabited

/-- What a record of the Vault holds. -/
inductive Content where
  | control (c : Control)
  | plan (p : Plan)
  | safety (generation : Nat) (entries : Table (Option Int)) (vth : List Nat)
  | lockout (e : LockEntry)
  | learned (g : Generation)
  | settings (s : Settings) (anchors : List (Option (List Byte)))
  | issue (i : IssueInfo)
  | program (p : ProgramImage)
  | ledger (g : LedgerGen)
  deriving DecidableEq, Repr

/-- A sealed record of the Vault (R617): its seal's fields and its content. -/
structure VaultRec where
  generation : Nat := 0
  pages : Nat := 1
  time : Nat := 0
  /-- seal and content checks hold (R619) -/
  valid : Bool := true
  /-- in region 9, 16 times the original region plus the original slot (R617) -/
  origin : Nat := 0
  content : Content
  deriving DecidableEq, Repr

/-- A Vault write under way (R618, R620). -/
structure Writing where
  /-- order 1 to 10 of R620 -/
  order : Nat := 10
  region : Nat := 0
  slot : Nat := 0
  generation : Nat := 0
  content : Content
  pages : Nat := 1
  done : Nat := 0
  /-- 0 erase under way, 1 waiting on the energy rule, 2 programming, 3 read-back, 4 seal -/
  phase : Nat := 0
  /-- a background write has yielded at a block boundary -/
  yielded : Bool := false
  deriving DecidableEq, Repr

/-- The Vault (chapter 21). -/
structure Vault where
  /-- sealed records, keyed 64 x region + slot (Lockout log entry); 21_vault_and_update.md R616; reset empty -/
  records : Table (Option VaultRec) := []
  /-- queued writes by the order of R620 (bit n for order n); 21 R620; reset 0 -/
  queued : Nat := 0
  /-- write under way; 21 R620; reset none -/
  writing : Option Writing := none
  /-- a background write that has yielded; 21 R620; reset none -/
  yielded : Option Writing := none
  /-- Lockout log entries waiting to be written; 21 R625; reset empty -/
  lockouts : List LockEntry := []
  /-- next place of the Lockout log, 0 to 31; 21 R625; reset 0 -/
  lockNext : Nat := 0
  /-- regions still to refresh by the running refresh; 21 R624; reset empty -/
  refreshLeft : List (Nat × Nat) := []
  /-- seconds for which the energy rule has refused without a break; 21 R623; reset 0 -/
  refused : Nat := 0
  /-- `VLT.REFUSALS` u32; 21 R644; reset 0 -/
  refusals : Nat := 0
  /-- `VLT.ABANDONED` u32; 21 R644; reset 0 -/
  abandoned : Nat := 0
  /-- `VLT.LAST_REFRESH`; 21 R644; reset 0 -/
  lastRefresh : Nat := 0
  /-- `VLT.PAGES_WRITTEN` u32; 21 R644; reset 0 -/
  pagesWritten : Nat := 0
  deriving DecidableEq, Repr

/-- The update session (chapter 21). -/
structure Update where
  /-- `UPD.LEASE_HOLDER`, none no lease; 21 R644; reset none -/
  holder : Option Nat := none
  /-- image kind of the lease; 21 R633; reset 0 -/
  kind : Nat := 0
  /-- image length; 21 R633; reset 0 -/
  length : Nat := 0
  /-- SHA-384 digest of the lease, as a number; 21 R633; reset 0 -/
  digest : Nat := 0
  /-- target slot; 21 R633; reset 0 -/
  slot : Nat := 0
  /-- native time at which the lease ends, ns; 21 R632; reset 0 -/
  leaseEnd : Nat := 0
  /-- chunks received, newest first; 21 R634; reset empty -/
  chunks : List (List Byte) := []
  /-- `UPD.BYTES_RECEIVED`; 21 R644; reset 0 -/
  received : Nat := 0
  /-- digest of the image staged and verified last, by kind; 21 R633; reset none -/
  staged : Option (Nat × Nat) := none
  /-- `UPD.STAGED_RESULT`; 21 R644; reset 0xFF -/
  stagedResult : Nat := 0xFF
  /-- `UPD.PARTNER_STAGE`; 21 R644; reset 0 -/
  partnerStage : Nat := 0
  /-- `UPD.SECURITY_FLOOR`; 21 R644; DESIGN CHOICE 0 (log 3) -/
  floor : Nat := 0
  /-- revoked public keys (fuses), mask; 21 R627; DESIGN CHOICE 0 (log 3) -/
  revoked : Nat := 0
  /-- control record in force; 21 R628; reset none confirmed -/
  control : Control := {}
  /-- a trial issue runs in this start; 21 R636; reset false -/
  trial : Bool := false
  /-- native time at which the trial window began (entry to M3), ns; 21 R636; reset none -/
  trialFrom : Option Nat := none
  /-- a trial ended at this start, for TRIAL_ENDED: (result, issue number); 21 R638; reset none -/
  trialEnded : Option (Nat × Nat) := none
  /-- cause of the M2 that this start goes to, for RECOVERY: 1 button, 2 no issue verified; 21 R641; reset 0 -/
  recoveryCause : Nat := 0
  /-- issue that runs; 21 R627; DESIGN CHOICE issue 1 (log 3) -/
  running : IssueInfo := {}
  /-- slot of the issue that runs; 21 R633; DESIGN CHOICE 0 (log 3) -/
  runningSlot : Nat := 0
  /-- trust anchors of the working copy, DER bytes, none empty; 21 R631; reset none each -/
  anchorsWork : List (Option (List Byte)) := [none, none, none, none]
  /-- trust anchors of the sealed settings; 21 R631; reset none each -/
  anchors : List (Option (List Byte)) := [none, none, none, none]
  /-- images held by program slots 0 and 1; 21 R616; reset none -/
  present : Option ProgramImage := none
  /-- staged program image; 18 R546; reset none -/
  stagedProgram : Option ProgramImage := none
  /-- program slot that holds the present image; 21 R633; reset 0 -/
  presentSlot : Nat := 0
  /-- a restart that begins once the control record queued for it is sealed: some true warm, some false cold (R636, R638, R642); 21 R636; reset none -/
  sealRestart : Option Bool := none
  /-- issue number of the partner's newest standing message, 0 none; 15 R478; reset 0 -/
  partnerIssue : Nat := 0
  /-- a trial runs on the partner, as this module's own requests and the partner's issue show it; 21 R633; reset false -/
  partnerTrial : Bool := false
  /-- a staging write was abandoned, so its image cannot be finished; 21 R621; reset false -/
  broken : Bool := false
  deriving DecidableEq, Repr

/-- The partner's newest STATUS block (R474). -/
structure PartnerStatus where
  role : Nat := 0
  mode : Nat := 0
  coil : Nat := 0
  /-- ARM state: a close sequence is starting -/
  arming : Bool := false
  armMask : Nat := 0
  released : Bool := false
  taking : Bool := false
  rulingEpoch : Nat := 0
  rulingSeq : Nat := 0
  settingsCrc : Nat := 0
  setCrc : Nat := 0
  syncState : Nat := 0
  assess : Nat := 0
  /-- the partner's own Dormant entry conditions hold (R95) -/
  dormantReady : Bool := false
  /-- the partner is in a Dormant entry whose learned values are sealed, so both hand over at the coming boundary (R95) -/
  handing : Bool := false
  deriving DecidableEq, Repr, Inhabited

/-- A request of one module to its partner (R475). -/
inductive TwinReq where
  | straps (str pos variant : Nat)
  | enumerate (link : Nat)
  | identify (links : List Nat)
  | offset (t1 : Nat)
  | chargeTotal (rail b1 b2 : Nat)
  | image (kind : Nat)
  | settings
  /-- an issue command for target 1 (R636): 0 trial, 1 confirm, 2 reject; issue number -/
  | issue (what number : Nat)
  deriving DecidableEq, Repr

/-- What a BULK block carries once complete (R474). -/
inductive Bulk where
  | settings (s : Settings) (anchors : List (Option (List Byte)))
  | safetySet (crc : Nat) (entries : Table (Option Int))
  | sessions (slots : List (Nat × HostSlot))
  | slips (slots : List (Nat × List Slip × Nat))
  | program (state cycles : Nat) (inst : List (Nat × Nat × Nat))
  | treasury (state : Nat) (allow : List (Nat × Nat × Nat))
  | ledger (live : Table LedgerRec)
  | issueImage (i : IssueInfo) (result : Nat)
  | programImage (p : ProgramImage) (result : Nat)
  deriving DecidableEq, Repr

/-- A block of a mirror fragment (R474). -/
inductive MirrorBlock where
  | status (p : PartnerStatus)
  | profile (i v a : Rat) (target : Int) (waiting inForce : Option Order) (lastSeq : Option Nat)
      (stopRamp : Option Bool) (openWait : Bool) (gear countSet countLim : Nat)
  | param (seq : Nat) (writes : List (Nat × Int)) (acks : List Nat)
  | sessions (seq : Nat) (slots : List (Nat × HostSlot))
  | slips (seq : Nat) (slots : List (Nat × List Slip × Nat))
  | survey (number rail t0 state : Nat)
  | request (r : TwinReq)
  | treasury (state : Nat) (allow : List (Nat × Nat × Nat))
  | program (seq state cycles : Nat) (inst : List (Nat × Nat × Nat))
  | ledger (seq : Nat) (adds : List (Nat × Nat × Int)) (extremes : List (Nat × Nat × Nat × Int × Nat))
  | reconcile (sweep : Nat) (bricks : List (Nat × Int × Nat × Int × Bool)) (last : Bool)
  | linkTiming (link : Nat) (mons : List (Nat × Nat × Nat × Nat))
  | bulk (b : Bulk)
  deriving DecidableEq, Repr

/-- One safe input as one side (Strongroom or the Guard core) sees it (R419, R420). -/
structure InputView where
  /-- channel levels have passed the 50 us filter since SAFE_SUP came up (R71); 02 R71; reset false -/
  taken : Bool := false
  /-- channel 1 closed; 13_safety_functions.md R419; reset false -/
  ch1 : Bool := false
  /-- channel 2 closed; 13 R419; reset false -/
  ch2 : Bool := false
  /-- demand stands; 13 R419; reset false -/
  demand : Bool := false
  /-- a discrepancy is latched; 13 R419; reset false -/
  discrepancy : Bool := false
  /-- both channels open together since the discrepancy (step 1 of R420); 13 R420; reset false -/
  openSeen : Bool := false
  /-- both channels closed together since then (step 2); 13 R420; reset false -/
  closedSeen : Bool := false
  deriving DecidableEq, Repr, Inhabited

/-- The off-pulse test in progress (R429 to R432). -/
structure PulseTest where
  path : Nat := 0
  /-- true: H-switch, false: P-switch -/
  hSwitch : Bool := false
  /-- 0 started, 1 off check passed, 2 commanded on again -/
  phase : Nat := 0
  /-- a demand, trip request or lockout arose during the pulse (R431) -/
  aborted : Bool := false
  failed : Bool := false
  /-- the path was chopping, and does so again after the test (R430) -/
  chop : Bool := false
  deriving DecidableEq, Repr, Inhabited

/-- A close sequence or weld-check sequence in progress (R436, R439). -/
structure CloseSeq where
  /-- next row of R436, as the stage numbers of Machine/SafetyFn.lean -/
  stage : Nat := 0
  weldOnly : Bool := false
  /-- rails in use at the start -/
  rails : Nat := 0
  /-- paths that failed a check of this sequence -/
  failed : Nat := 0
  /-- rails whose current reached the limit in the present window -/
  hot : Nat := 0
  /-- the bus or link voltage reached its limit in the present window -/
  high : Bool := false
  deriving DecidableEq, Repr, Inhabited

/-- Safety functions (chapter 13): the Guard core's and Strongroom's own state. -/
structure Safety where
  /-- `SAF.COIL_COMMAND` 20 bits; 13 R412; reset 0 -/
  coil : Nat := 0
  /-- H-switches closed (Strongroom's drive), 20 bits; 13 R413; reset 0 -/
  hClosed : Nat := 0
  /-- H-switches armed, 20 bits; 13 R415; reset 0 -/
  hArmed : Nat := 0
  /-- `SAF.P_READBACK`; 13 R417; reset 0 -/
  pRead : Nat := 0
  /-- `SAF.H_READBACK`; 13 R417; reset 0 -/
  hRead : Nat := 0
  /-- paths whose P-switch the keep signal holds; 01 R20; reset 0 -/
  keep : Nat := 0
  /-- consecutive sweeps of disagreement per switch: path p for P, 20 + p for H; 13 R433; reset empty -/
  disagree : Table Nat := []
  /-- Strongroom's view of safe inputs 0 to 7; 13 R419; reset at their defaults -/
  strongIn : Table InputView := []
  /-- the Guard core's view; 13 R421; reset at their defaults -/
  guardIn : Table InputView := []
  /-- SF4 comparators tripped in Strongroom (mask of rails); 13 R426; reset 0 -/
  sf4Strong : Nat := 0
  /-- SF4 demanded by the Guard core (mask); 13 R426; reset 0 -/
  sf4Guard : Nat := 0
  /-- a trip request stands; 13 R414; reset false -/
  tripReq : Bool := false
  /-- V_th[r] in mV as loaded in both copies of the Strongroom store; 13 R427; reset 9990 each (the default 12,000 mV of 480 A over 40 A/V, limited) -/
  vth : List Nat := List.replicate 8 9990
  /-- SAF.HALL_SCALE_SEALED[r] float32 patterns; 13 R427; reset 40.0 each -/
  hallSealed : List U32 := List.replicate 8 0x42200000#32
  /-- V_th limited to 9,990 mV by R427 (mask); 13 R427; reset 0xFF (12,000 mV lies above the range) -/
  vthLimited : Nat := 0xFF
  /-- off-pulse test running; 13 R429; reset none -/
  pulse : Option PulseTest := none
  /-- a Strongroom pulse permit stands for this path; 13 R430; reset none -/
  permit : Option Nat := none
  /-- `SAF.PULSE_ABORTS` u32; 13 R447; reset 0 -/
  pulseAborts : Nat := 0
  /-- `SAF.PULSE_COUNT` u32; 13 R447; reset 0 -/
  pulseCount : Nat := 0
  /-- `SAF.PAIR_OFFSET` ns; 13 R434; reset 0 -/
  pairOffset : Int := 0
  /-- tests deferred (R434); 13 R434; reset false -/
  deferred : Bool := false
  /-- paths that economise (chopping); 13 R440; reset 0 -/
  chopping : Nat := 0
  /-- close sequence; 13 R436; reset none -/
  close : Option CloseSeq := none
  /-- DISARM waits for every P-switch to read open; 13 R445; reset false -/
  disarmDue : Bool := false
  /-- controlled opening: step 0 to 3; 13 R445; reset none -/
  opening : Option Nat := none
  /-- rails left open by R436 (SI.52), reconnectable under R446; 13 R446; reset 0 -/
  leftOpen : Nat := 0
  /-- consecutive sweeps a brick row was beyond OV, UV or its span window in the last sweep: brick x 4 + kind; 13 R422; reset empty -/
  rowOut : List Nat := []
  /-- SI.50 instances kept in the Lockout log of the Vault (paths, mask); 13 R438; reset 0 -/
  weldKept : Nat := 0
  /-- the Strongroom store matches its Vault copy; 03 R96; reset true -/
  storeGood : Bool := true
  deriving DecidableEq, Repr, Inhabited

/-- A fault instance (R451, R456, R465). -/
structure FaultInst where
  source : Nat := 0
  item : Nat := 0
  /-- a broken signal (R453) -/
  signal : Bool := false
  /-- grade of the source's own rule (RAISED_GRADE) -/
  raised : Nat := 1
  escalated : Bool := false
  cond : Bool := true
  acked : Bool := false
  /-- listed in FLT.PRESENT -/
  listed : Bool := true
  deriving DecidableEq, Repr, Inhabited

/-- One latch (R457): the instance it holds and its time stamp. -/
structure Latch where
  inst : FaultInst := {}
  time : Nat := 0
  cleared : Bool := false
  deriving DecidableEq, Repr, Inhabited

/-- A condition reported to the collector for handling in order (R459): raise with a grade, or end. -/
structure FaultEvent where
  source : Nat := 0
  item : Nat := 0
  /-- grade of a condition that arose; none for a condition that ended -/
  grade : Option Nat := none
  /-- the condition ended when it was raised (single event, R462) -/
  single : Bool := false
  deriving DecidableEq, Repr, Inhabited

/-- The fault collector (chapter 14). -/
structure Faults where
  /-- every present instance, in order of raising; 14_fault_collection.md R456; reset empty -/
  present : List FaultInst := []
  /-- FLT.PRESENT slots: indices are places; an entry of a cleared instance stays until the boundary (R466); 14 R466; reset empty -/
  slots : List (Option FaultInst) := []
  /-- latches of classes 0 to 7; 14 R457; reset free -/
  latches : Table (Option Latch) := []
  /-- `FLT.OVERFLOW` u8; 14 R457; reset 0 -/
  overflow : Nat := 0
  /-- `FLT.SIGNAL_ERRORS` u32; 14 R464; reset 0 -/
  signalErrors : Nat := 0
  /-- `FLT.ESCALATIONS` u32; 14 R464; reset 0 -/
  escalations : Nat := 0
  /-- `FLT.LIST_OVERFLOW` u32; 14 R464; reset 0 -/
  listOverflow : Nat := 0
  /-- sources whose signal pair is broken: (source, item); 14 R453; reset empty -/
  broken : List (Nat × Nat) := []
  deriving DecidableEq, Repr, Inhabited

/-- The pair (chapter 15). -/
structure Twin where
  /-- `TWIN.ROLE`; 15_twin_redundancy.md R469; reset none -/
  role : Role := .none
  /-- `TWIN.SYNC_STATE` 0 to 5; 15 R493; reset 0 -/
  sync : Nat := 0
  /-- partner's newest STATUS block; 15 R473; reset none -/
  partner : Option PartnerStatus := none
  /-- partner's mirror format, 0 none; 15 R497; reset 0 -/
  partnerFormat : Nat := 0
  /-- twin link has a 1000BASE-X link; 15 R477; reset false -/
  linkUp : Bool := false
  /-- sweep cycles since the partner's newest fragment 0; 15 R477; reset 0xFFFF -/
  silentCycles : Nat := 0xFFFF
  /-- native time of the partner's newest standing message, ns; 15 R477; reset none -/
  standingAt : Option Nat := none
  /-- native time of the partner's newest frame on a pack ring, ns; 15 R477; reset none -/
  ringAt : Option Nat := none
  /-- `TWIN.MIRROR_MISSED`; 15 R497; reset 0 -/
  mirrorMissed : Nat := 0
  /-- `TWIN.MIRROR_LATE`; 15 R497; reset 0 -/
  mirrorLate : Nat := 0
  /-- `TWIN.SWITCHOVERS`; 15 R497; reset 0 -/
  switchovers : Nat := 0
  /-- `TWIN.LAST_GAP`; 15 R497; reset 0 -/
  lastGap : Nat := 0
  /-- `TWIN.LAST_SWITCH_TIME`; 15 R497; reset 0 -/
  lastSwitchTime : Nat := 0
  /-- `TWIN.LAST_SILENCE`; 15 R497; reset 0 -/
  lastSilence : Nat := 0
  /-- sweep epochs without SAMPLE since the old active module's last; 15 R487; reset 0 -/
  silence : Nat := 0
  /-- sweep counter at the arrival of the TRANSFER that this module takes, from which LAST_GAP counts; 15 R487; reset none -/
  gap : Option Nat := none
  /-- `TWIN.RECONCILE_OUTLIERS` of the last complete round; 15 R491; reset 0 -/
  outliers : Nat := 0
  /-- outliers of the running round; 15 R491; reset 0 -/
  outliersNow : Nat := 0
  /-- next brick of a running round sent by the active module; 15 R491; reset none -/
  roundNext : Option Nat := none
  /-- LEARNED_DIVERGE; 15 R479; reset false -/
  diverge : Bool := false
  /-- `TWIN.PROGRAM_LAG`; 15 R485; reset false -/
  programLag : Bool := false
  /-- `TWIN.RULINGS` u32; 15 R497; reset 0 -/
  rulings : Nat := 0
  /-- `TWIN.REFUSED_RULINGS` u32; 15 R497; reset 0 -/
  refused : Nat := 0
  /-- `SEC.RULING` 0 none, 1 AFFIRM, 2 TRANSFER; 15 R497; reset 0 -/
  ruling : Nat := 0
  /-- `SEC.RULING_POSITION`; 15 R497; reset 0xFF -/
  rulingPos : Nat := 0xFF
  /-- `SEC.RULING_SEQ` u16; 15 R497; reset 0 -/
  rulingSeq : Nat := 0
  /-- epoch of the ruling followed; 15 R478; reset 0 -/
  rulingEpoch : Nat := 0
  /-- the active module releases at the next sweep boundary; 15 R483; reset false -/
  releaseDue : Bool := false
  /-- RELEASED flag of the own STATUS block; 15 R483; reset false -/
  released : Bool := false
  /-- a TRANSFER names this READY standby, which waits to take the role: the TAKING flag; 15 R483; reset false -/
  taking : Bool := false
  /-- a fragment 0 has arrived since the ruling that names this module; 15 R483; reset false -/
  heardSince : Bool := false
  /-- the start rule gives the role at the next sweep boundary; 15 R484; reset false -/
  takeDue : Bool := false
  /-- the program was in run on the old active module; 15 R488; reset false -/
  programWasRun : Bool := false
  /-- full images outstanding, by kind (mask: 0 sessions, 1 slips, 2 program, 3 Treasury, 4 Ledger); 15 R474; reset 0 -/
  imagesDue : Nat := 0
  /-- block sequences expected: SESSIONS, SLIPS, PROGRAM, LEDGER, PARAM; 15 R474; reset 0 each -/
  seqIn : List Nat := [0, 0, 0, 0, 0]
  /-- block sequences sent; 15 R474; reset 0 each -/
  seqOut : List Nat := [0, 0, 0, 0, 0]
  /-- parameter writes and FAULT_ACKs to forward in the next mirror; 15 R474; reset empty -/
  paramOut : List (Nat × Int) := []
  /-- acknowledgements to forward: sources; 14 R463; reset empty -/
  ackOut : List Nat := []
  /-- blocks received and waiting for their sweep boundary, oldest first; 15 R476; reset empty -/
  waiting : List MirrorBlock := []
  /-- the round of R491 with no tolerance of stage 4: 0 not begun, 1 running, 2 applied; 15 R493; reset 0 -/
  joinRound : Nat := 0
  /-- delays still to measure after a take: next link; 15 R489; reset none -/
  delayLink : Option Nat := none
  /-- orphan stop running (R490); 15 R490; reset false -/
  orphanStop : Bool := false
  /-- SETTINGS has been asked for in stage 2; 15 R494; reset false -/
  settingsAsked : Bool := false
  /-- the safety set of the partner was refused, so this module stays a cold standby; 15 R494; reset false -/
  setRefused : Bool := false
  /-- straps and variant that the partner reported (string, position, variant code); 15 R475; reset none -/
  partnerStraps : Option (Nat × Nat × Nat) := none
  /-- host slots as last sent in the mirror, or as last received from it; 15 R474; reset empty -/
  mirSlots : Table HostSlot := []
  /-- survey number and SURV.STATE as last sent in the mirror; 15 R474; reset (0, 0) -/
  mirSurvey : Nat × Nat := (0, 0)
  /-- the partner's power state and allowances per engine as received; 15 R474; reset none -/
  mirTreasury : Option (Nat × List (Nat × Nat × Nat)) := none
  /-- program pages that wait for the mirror; 15 R473, R474; reset empty -/
  pagesOut : List Nat := []
  /-- instance data as last taken for the mirror; 15 R474; reset empty -/
  mirInst : List (Nat × Nat × Nat) := []
  /-- program state as last sent in the mirror; 15 R474; reset 0 -/
  mirProgram : Nat := 0
  /-- sweep boundaries that stage 3 of joining has waited for its images; 15 R493; reset 0 -/
  joinWait : Nat := 0
  /-- native time of the newest valid ruling or order frame, ns; 15 R490; reset none -/
  managerAt : Option Nat := none
  /-- transmit stamp of the OFFSET request under way, ns; 13 R434, 16 R523; reset none -/
  offsetT1 : Option Nat := none
  /-- reception of the partner's OFFSET request whose reply awaits its stamp, ns; 13 R434, 16 R523; reset 0 -/
  offsetT2 : Nat := 0
  /-- next of the links that LINK_TIMING carries, four in a cycle; 15 R474; reset 0 -/
  timingNext : Nat := 0
  /-- images that wait for the BULK blocks of the next mirror, oldest first; 15 R474; reset empty -/
  bulkOut : List Bulk := []
  deriving DecidableEq, Repr

end Sys2Proof.Machine
end

