-- ==== Sys2Proof/Syntax.lean ====
section
/-! DEFINITION. The commands of the block, one constructor per row of spec/opcode_table.json, with the types of their operands. -/

namespace Sys2Proof

open Sys2Proof.Machine

/-- A wicket frame as it travels (R123 to R128): its addresses, the fields of its header as they stand in the frame, its payload and
its CRC-32. The fields that a command reads from the payload are the operands of the command itself. -/
structure Frame where
  /-- source IPv4 address -/
  src : Nat := 0
  /-- source UDP port -/
  port : Nat := 0
  /-- 0 position address, 1 role address, 2 service port -/
  via : Nat := 0
  /-- destination port, UDP on the uplinks and TCP on the service port -/
  dport : Nat := 48110
  /-- the uint16 frame length that precedes the frame on the service port (R126) -/
  tcpLen : Nat := 0
  /-- bytes of a datagram too short to hold a frame, none of one that holds header and CRC-32 -/
  cut : Option Nat := none
  magic : Nat := 0x574B
  version : Nat := 1
  kind : Nat := 1
  host : Nat := 0
  wicket : Nat := 0
  seq : Nat := 0
  session : Nat := 0
  /-- COMMAND; that of NOOP where a frame names none -/
  code : Nat := 0x0005
  priority : Nat := 1
  outcome : Nat := 0
  length : Nat := 0
  epoch : Nat := 0
  /-- FLAGS; RETRY is bit 0 and tells the module nothing (R128) -/
  flags : Nat := 0
  reserved : Nat := 0
  payload : List Byte := []
  crc : Nat := 0
  /-- service port: the client certificate chains to a held trust anchor (R630) -/
  trusted : Bool := false
  deriving DecidableEq, Repr, Inhabited

/-- One entry of PARAM_WRITE or SEALED_SET_WRITE (R153). -/
structure ParamEntry where
  index : Nat := 0
  ty : Nat := 0
  /-- the reserved byte as sent -/
  res : Nat := 0
  /-- the 64-bit value field -/
  value : Nat := 0
  deriving DecidableEq, Repr, Inhabited

/-- The memory in which a double-bit ECC error is found (R41). -/
inductive EccSite where
  | dram (owner : Nat)
  | engine (e : Nat)
  | retained (region : Nat)
  deriving DecidableEq, Repr, Inhabited

/-- What the flash and the crypto engine find of a staged image at IMAGE_FINISH (R634): every page is programmed and read back, and the
signature verifies with the mask ROM public key that the image names (the manual gives no key); and, for a program image, what it
declares (R545). -/
structure ImageCheck where
  flashOk : Bool := true
  signatureOk : Bool := true
  program : ProgramImage := {}
  deriving DecidableEq, Repr, Inhabited

/-- A SAMPLE reply as it reaches the module (R208): the link, the HOP field, the rest of the frame and its payload. -/
structure SampleReply where
  link : Nat := 0
  hop : Nat := 0
  head : LineHead := {}
  volt : List Nat := []
  stack : Nat := 0
  /-- 0.01 C; -32768 open or short -/
  therm : List Int := []
  /-- 10 uC -/
  shuttleQ : List Int := []
  status : Nat := 0
  deriving DecidableEq, Repr, Inhabited

/-- What the rail engine reads at a loop tick (R339), rail by rail: the modulator density of the shunt in 1/10^6 of full density
over the 50 us before the tick, and the Hall voltage in 0.1 mV. -/
structure TickInputs where
  shunt : List Int := []
  hall : List Int := []
  deriving DecidableEq, Repr, Inhabited

/-- A status frame of a trim stage as it reaches the module (R337): SYNC, TYPE, the reserved byte 5, the characters received
before the idle that ends it, and its CRC stand beside the fields. -/
structure TrimFrame where
  sync : Nat := 0x5A
  kind : Nat := 0x81
  res : Nat := 0
  bytes : Nat := 16
  crc : Nat := 0
  seq : Nat := 0
  state : Nat := 0
  port : Nat := 0
  insertion : Int := 0
  current : Int := 0
  temperature : Int := 0
  faults : Nat := 0
  deriving DecidableEq, Repr, Inhabited

/-- What Night Safe samples every 10 ms (R112): the alarm lines active, the 16 safe input channels, SAFE_SUP, the button; and in
the 10 Hz samples the Hall voltages (0.1 mV) and KA_12V (mV). -/
structure NightInputs where
  tenHz : Bool := false
  hall : List Int := []
  kaMilliVolt : Nat := 12000
  alarms : List Nat := []
  inputs : Nat := 0
  safeSup : Bool := true
  button : Bool := false
  deriving DecidableEq, Repr, Inhabited

/-- A section frame as it reaches the module, but for its payload (R362, R363): the address it was sent to (0 the position address,
1 the role address, 2 `SEC.STREAM_GROUP`, 3 a manager address) and its UDP port, the fields of the header, the bytes of the
datagram, and the CRC-32; `early` tells whether it arrives before t = +920 us of the cycle (R45). -/
structure SectionFrame where
  via : Nat := 0
  port : Nat := 48120
  magic : Nat := 0x4553
  version : Nat := 1
  kind : Nat := 1
  str : Nat := 0
  position : Nat := 0xFF
  seq : Nat := 0
  epoch : Nat := 0
  seconds : Nat := 0
  nanos : Nat := 0
  length : Nat := 0
  bytes : Nat := 28
  crc : Nat := 0
  early : Bool := true
  deriving DecidableEq, Repr, Inhabited

/-- What a BALANCE reply says of the shuttles (R254): its flags, and the applied currents in 20 mA. -/
structure BalanceBack where
  flags : Nat := 0
  applied : List Int := []
  deriving DecidableEq, Repr, Inhabited

/-- A command frame of another module that is heard on a link (R203), with its payload bytes. -/
structure HeardLine where
  link : Nat := 0
  hop : Nat := 0
  opcode : Nat := 0
  head : LineHead := {}
  payload : List Nat := []
  deriving DecidableEq, Repr, Inhabited

/-- A CAN frame sent without error (R531): its bus, and the transmitter delay measured in it, ns (R529). -/
structure CanSent where
  bus : Nat := 0
  delay : Nat := 0
  deriving DecidableEq, Repr, Inhabited

/-- The read-back of a Vault write (R618): the CRC-32 of what the pages hold, and that of the source. -/
structure ReadBack where
  read : Nat := 0
  source : Nat := 0
  deriving DecidableEq, Repr, Inhabited

/-- A mirror fragment of the partner as it reaches the module (R472): the fields of its header, the bytes of its blocks, its CRC-32,
and the blocks that those bytes spell in the mirror format, whose layout the spec does not give (R474). -/
structure MirrorFrame where
  magic : Nat := 0x5754
  version : Nat := 1
  format : Nat := 1
  frag : Nat := 0
  frags : Nat := 1
  sweep : Nat := 0
  position : Nat := 1
  length : Nat := 0
  bytes : List Byte := []
  crc : Nat := 0
  blocks : List MirrorBlock := []
  deriving DecidableEq, Repr, Inhabited

/-- A reply of the partner to a request of this module (R475). -/
inductive TwinReply where
  | straps (str pos variant : Nat)
  | enumerate (link : Nat) (found : List Found)
  /-- the partner's reception and transmission, and own reception, ns; the stamp of the own request is in the receipt queue -/
  | offset (t2 t3 t4 : Nat)
  /-- the logged totals at both boundaries, none where the partner did not count -/
  | chargeTotal (rail : Nat) (totals : Option (Int × Int))
  /-- the partner has verified (0) or failed an image -/
  | stage (result : Nat)
  deriving DecidableEq, Repr

/-- What the uplink layer sees of a received frame (R499, R501): its port, source MAC, VLAN identifier of a tag (0 none), and the
RCT's sequence number and LAN identifier. -/
structure UplinkFrame where
  port : Nat := 0
  mac : Nat := 0
  vlan : Nat := 0
  rct : Option (Nat × Nat) := none
  deriving DecidableEq, Repr, Inhabited

/-- The header of a PTP message as it reaches a port (R511): domain, clockIdentity of the sender, sequenceId. -/
structure PtpHead where
  port : Nat := 0
  domain : Nat := 0
  source : Nat := 0
  seq : Nat := 0
  deriving DecidableEq, Repr, Inhabited

/-- The content of an Announce message (R509, R512): priority1, clockClass, accuracy, variance, priority2 and clockIdentity of the
grandmaster, steps removed; TAI − UTC when it marks it valid; the leap second it announces (+1, −1 or 0). -/
structure Announce where
  vector : List Nat := []
  utc : Option Int := none
  leap : Int := 0
  deriving DecidableEq, Repr, Inhabited

/-- The output image of an ended program cycle (R553): only what the program wrote, but for the Guard request bits, which stand as
they are; with its data after the cycle and the time of its execution. -/
structure ProgramOutput where
  /-- PWM duties: (output, float32 pattern of the duty in %) -/
  duties : List (Nat × Nat) := []
  /-- feedback variables: (variable, float32 pattern) -/
  feedback : List (Nat × Nat) := []
  /-- loop references: (loop, float32 pattern) -/
  refs : List (Nat × Nat) := []
  /-- process values of transmit mappings: (mapping, float32 pattern) -/
  values : List (Nat × Nat) := []
  /-- CAN frames in the order written: bus, dedicated slot (none: the FIFO), frame -/
  frames : List (Nat × Option Nat × CanFrame) := []
  /-- SDO requests: (bus, request) -/
  sdos : List (Nat × Sdo) := []
  /-- Guard request bits: 0 CLOSE, 1 STOP, 8 + r RAIL_CONNECT[r], 16 + r RAIL_DISCONNECT[r] -/
  guard : Nat := 0
  /-- parameter indices to read -/
  reads : List Nat := []
  /-- instance data and retained data after the cycle: (name, type, value) -/
  inst : List (Nat × Nat × Nat) := []
  retained : List (Nat × Nat × Nat) := []
  /-- time of execution, us -/
  execUs : Nat := 0
  deriving DecidableEq, Repr, Inhabited

/-- What the meters say of a budget period that ends (R595): energy of each engine 1 to 8, 0.1 mJ, with its busy time in each class
P0 to P4, and the energy of the shared domain. -/
structure Metering where
  engines : List (Nat × List Nat) := []
  shared : Nat := 0
  deriving DecidableEq, Repr, Inhabited

/-- What the module finds at a start: the strap pins (R63), whether the images in issue slots 0 and 1 verify (R627), the retained
SRAM regions whose CRC-32 fails, by their order in R39 (R40), the Strongroom self-test and its configuration store (R96), whether
the recovery button is held (R88), each modulator's bitstream at the ten 5 ns steps of its clock period, true where it shows no transition (R81), the Vault records whose check fails
(region, slot; R619), and the bricks and Ledger records whose own CRC-32 fails in the newest generation, each with whether the other
generation's copy passes (R296, R590). -/
structure StartInputs where
  straps : StrapPins := {}
  verified : List Bool := [true, true]
  bad : Nat := 0
  selfTest : Bool := true
  store : Bool := true
  button : Bool := false
  mods : List (List Bool) := List.replicate 18 (List.replicate 10 true)
  badRecords : List (Nat × Nat) := []
  lostBricks : List (Nat × Bool) := []
  lostLedger : List (Nat × Bool) := []
  deriving DecidableEq, Repr, Inhabited

/-- What the module measures in a sweep cycle beside the packs: the die and board sensors, 0.01 °C (R399), the rail voltages and the
two bus voltage modulators, mV (none: failed), how far the read-back node of each P-switch lies below COIL_SUP and the voltage
H_D[p] − H_S[p] over each H-switch, mV (R417), the 1 ms means of the twelve supply monitors, mV (R605), and the eight current
samples of the rail under survey, mA (R313). -/
structure SweepInputs where
  dies : List Int := []
  rails : List Nat := []
  bus0 : Option Nat := some 0
  bus1 : Option Nat := some 0
  pDrop : List Int := []
  hVolt : List Int := []
  monitors : List Nat := []
  isu : List Int := []
  deriving DecidableEq, Repr, Inhabited

/-- The commands that the block takes: wicket requests, frames, events and expiries of the rows of the opcode table. -/
inductive Instr where
  /-- `MAIN_POWER_GOOD` (R93): SUP_A or SUP_B becomes good with no main domain running, and the module starts
  through M1. -/
  | mainPowerGood (x : StartInputs)
  /-- `SUPPLY_INPUT_FAILED` (R67): A 24 V supply input stays below 16.5 V for 50 µs and counts as failed; if it is
  the second one, Hold-up follows. -/
  | supplyInputFailed (b : Bool)
  /-- `SUPPLY_INPUT_RESTORED` (R67): A supply input stays above 17.5 V for 10 ms and counts as restored, which ends
  Hold-up or starts a held wake. -/
  | supplyInputRestored (b : Bool)
  /-- `HOLD_UP_BANK_CUTOFF` (R70): The hold-up bank reaches 20 V, the main domain is held in reset, and the
  P-switches open. -/
  | holdUpBankCutoff
  /-- `SAFE_SUP_LOST` (R71): SAFE_SUP stays below 17 V for 1 ms, and Strongroom opens every H-switch of the module. -/
  | safeSupLost
  /-- `SAFE_SUP_RESTORED` (R71): SAFE_SUP has stood above 18.5 V for 100 ms, and Strongroom may honour ARM again
  once its inputs are read. -/
  | safeSupRestored
  /-- `PRESENCE_LOOP_BROKEN` (R58): The PRES_OUT to PRES_IN loop breaks, and Strongroom opens every H-switch within
  1 ms. -/
  | presenceLoopBroken
  /-- `SUPPLY_RAIL_OUT_OF_RANGE` (R605): A supply rail monitor has 10 consecutive 1 ms means outside its range and
  raises its fault. -/
  | supplyRailOutOfRange (m : Nat) (v : Nat)
  /-- `SUPPLY_RAIL_BACK_IN_RANGE` (R605): A supply rail monitor has 100 consecutive 1 ms means within its range. -/
  | supplyRailBackInRange (m : Nat) (v : Nat)
  /-- `KEEP_SIGNAL_TIMEOUT` (R20): A P-switch driver sees no keep toggle for 2 ms and opens its switch. -/
  | keepSignalTimeout (p : Nat)
  /-- `GUARD_LOCKSTEP_MISMATCH` (R23): The lockstep comparator of the Guard core finds a mismatch and stops both
  cores, so the keep signals stop. -/
  | guardLockstepMismatch
  /-- `ENGINE_WATCHDOG_EXPIRY` (R24): An engine watchdog expires; it resets that engine alone, or makes a warm
  restart for the Wicket or Guard core, and raises a PR fault. -/
  | engineWatchdogExpiry (e : Nat)
  /-- `ECC_SINGLE_BIT_ERROR` (R41): A single-bit ECC error is corrected and counted, and PR.06 is noted. -/
  | eccSingleBitError (region : Nat)
  /-- `ECC_DOUBLE_BIT_ERROR` (R41): A double-bit ECC error resets the owning engine or makes a warm restart, or
  invalidates a retained SRAM region. -/
  | eccDoubleBitError (w : EccSite)
  /-- `FABRIC_CLOCK_DEPARTURE` (R28): The fabric clock departs by more than 5 % for 10 µs, and Strongroom holds the
  main domain in reset. -/
  | fabricClockDeparture
  /-- `SYNTH_LOCK_LOST` (R37): The synthesiser loses lock, and the main domain is held in reset. -/
  | synthLockLost
  /-- `SYNTH_LOCK_RETURN` (R37): Synthesiser lock returns, and the module makes a warm restart and records PR at G4. -/
  | synthLockReturn
  /-- `ENGINE_RESET_RETURN` (R26): An engine comes back from reset and receives its buffered fabric messages in
  arrival order. -/
  | engineResetReturn (e : Nat)
  /-- `FABRIC_BUFFER_EXPIRY` (R26): Messages for an engine in reset remain undelivered after 2 sweep cycles; they
  are dropped and the pending wickets are aborted. -/
  | fabricBufferExpiry (e : Nat)
  /-- `WARM_RESTART` (R102): The main domain restarts warm; retained SRAM regions are checked and kept under R102. -/
  | warmRestart (x : StartInputs)
  /-- `COLD_RESTART` (R102): The main domain restarts cold; retained SRAM is cleared and learned values come from
  the Vault. -/
  | coldRestart (x : StartInputs)
  /-- `BOOT_COMPLETE` (R96): Every Boot step is complete, and the module leaves M1 for M4. -/
  | bootComplete
  /-- `BOOT_STEP_FAILED` (R99): A Boot step fails; PR.05 is raised at G4 naming the step, and the retry wait starts. -/
  | bootStepFailed (n : Nat)
  /-- `BOOT_RETRY_TIMER` (R99): 60 s after a failed Boot step, the module makes a warm restart unless the retry
  count is spent. -/
  | bootRetryTimer
  /-- `SETTLE_COUNT_COMPLETE` (R97): MODE.SETTLE_SWEEPS consecutive sweeps have had valid replies from every monitor. -/
  | settleCountComplete
  /-- `SETTLE_TIMEOUT` (R97): The settle count is not complete 30 s after the first sweep; the module enters M4 and
  raises LK.04. -/
  | settleTimeout
  /-- `STRAP_POLL` (R64): The 1 s strap read finds a change from M1 and raises RT.03. -/
  | strapPoll (pins : StrapPins)
  /-- `RECOVERY_BUTTON_PRESS` (R88): The recovery button is pressed; it enters M2 when held at power-up, and is
  otherwise logged only. -/
  | recoveryButtonPress
  /-- `POWER_CYCLE` (R121): All four inputs stay below 5 V together, and the lockout latches clear once the time
  exceeds 2.4 s. -/
  | powerCycle (t : Nat)
  /-- `SWEEP_EPOCH` (R42): A plant-time millisecond boundary starts sweep cycle k and its fixed timeline of events. -/
  | sweepEpoch (x : SweepInputs)
  /-- `LOOP_TICK` (R339): A 50 µs loop tick reads the rail currents, computes loops 0 to 7 and sends trim command
  frames. -/
  | loopTick (x : TickInputs)
  /-- `TALLY_PUBLISH` (R42): A Tally core completes and publishes the brick rows of cycle k. -/
  | tallyPublish (c : Nat)
  /-- `TALLY_LATE` (R43): A Tally core has not published by +1,000 µs; cycle k is marked late and the previous rows
  stand. -/
  | tallyLate (c : Nat)
  /-- `STATEMENT_DUE` (R387): Every 100th sweep the module sends its statement to the section manager. -/
  | statementDue
  /-- `STANDING_MESSAGE_DUE` (R478): Every 10th sweep the module sends its standing message. -/
  | standingMessageDue
  /-- `DORMANT_IDLE_EXPIRY` (R110): MODE.DORMANT_IDLE expires in M4 and makes a Dormant request. -/
  | dormantIdleExpiry
  /-- `DORMANT_HANDOVER` (R111): The Dormant entry completes; Night Safe takes charge at the next millisecond, and
  the main domain goes off. -/
  | dormantHandover
  /-- `NIGHT_SAFE_SAMPLE` (R112): Night Safe samples and filters its wake quantities in M0. -/
  | nightSafeSample (x : NightInputs)
  /-- `NIGHT_SAFE_COUNT` (R115): Every 100 ms Night Safe adds each rail's Hall current to its accumulator. -/
  | nightSafeCount (hall : List Int)
  /-- `HOUSEKEEPING_TIMER` (R112): NS.HOUSEKEEPING_PERIOD elapses in M0 and wakes the module. -/
  | housekeepingTimer
  /-- `HOUSEKEEPING_STAY_EXPIRY` (R118): After a housekeeping wake, NS.HOUSEKEEPING_STAY ends and the module
  re-enters M0 unless held. -/
  | housekeepingStayExpiry
  /-- `HOLD_TIMEOUT` (R108): MODE.HOLD_TIMEOUT expires in M6, and the module makes a controlled stop into M4. -/
  | holdTimeout
  /-- `SESSION_OPEN` (R132): Opens a view or control session on a host slot. -/
  | sessionOpen (f : Frame) (kind : Nat) (timeout : Nat)
  /-- `SESSION_CLOSE` (R135): Closes the session. -/
  | sessionClose (f : Frame)
  /-- `WICKET_OPEN` (R131): Opens a wicket with an initial SEQ. -/
  | wicketOpen (f : Frame) (seq : Nat)
  /-- `WICKET_CLOSE` (R131): Closes a wicket. -/
  | wicketClose (f : Frame)
  /-- `NOOP` (R153): Returns the mode, the power state and the next slip SEQ. -/
  | noop (f : Frame)
  /-- `CANCEL` (R141): Cancels a deferred request, which completes with REFUSED_BUSY, DETAIL 6. -/
  | cancel (f : Frame) (wicket : Nat) (seq : Nat)
  /-- `SLIP_FETCH` (R151): Returns queued slips from a first SEQ. -/
  | slipFetch (f : Frame) (first : Nat) (count : Nat)
  /-- `SLIP_ACK` (R147): Acknowledges slips up to a SEQ, which removes them from the queue. -/
  | slipAck (f : Frame) (seq : Nat)
  /-- `PARAM_READ` (R156): Reads up to 80 parameters at one sweep boundary. -/
  | paramRead (f : Frame) (count : Nat) (l : List Nat)
  /-- `PARAM_WRITE` (R155): Checks and applies up to 64 parameter writes together at a sweep boundary; covers
  registers without a row of their own. -/
  | paramWrite (f : Frame) (count : Nat) (l : List ParamEntry)
  /-- `SWEEP_PHASE_WRITE` (R213): A write to LNK[n].SWEEP_PHASE sends SET_TIMING in the cycle in which it takes
  effect. -/
  | sweepPhaseWrite (f : Frame) (n : Nat) (ty : Nat) (v : Nat)
  /-- `LOOP_ENABLE_WRITE` (R346): A write to LOOP[k].ENABLE or LOOP[k].SECTIONS starts or stops the loop, or adds or
  clears section states. -/
  | loopEnableWrite (f : Frame) (k : Nat) (sections : Bool) (ty : Nat) (v : Nat)
  /-- `RECEIPT_STICKY_WRITE` (R525): A write of 0 clears TIME.RECEIPT_STICKY; any other value is refused. -/
  | receiptStickyWrite (f : Frame) (ty : Nat) (v : Nat)
  /-- `REPLAN_REQUEST_WRITE` (R610): A write of 1 to AGE.REPLAN_REQUEST triggers a re-plan. -/
  | replanRequestWrite (f : Frame) (ty : Nat) (v : Nat)
  /-- `BREAKPOINT_WRITE` (R560): A write of PRG.BREAKPOINT[i] sets or clears a breakpoint, or is refused in M5
  without hold enable. -/
  | breakpointWrite (f : Frame) (i : Nat) (ty : Nat) (v : Nat)
  /-- `SETTINGS_BURST_TIMER` (R167): 10 s after the last runtime write of a burst, a new settings generation is
  queued for the Vault. -/
  | settingsBurstTimer
  /-- `SETTINGS_COMMIT` (R171): Validates the working copy, seals it, sends it to the partner and makes a warm
  restart. -/
  | settingsCommit (f : Frame)
  /-- `SETTINGS_DISCARD` (R169): Restores the working copy to the sealed settings. -/
  | settingsDiscard (f : Frame)
  /-- `SEALED_SET_WRITE` (R182): Stores a CRC-checked pending safety set and returns its read-back CRC-32. -/
  | sealedSetWrite (f : Frame) (crc : Nat) (count : Nat) (l : List ParamEntry)
  /-- `SEALED_SET_CONFIRM` (R184): Has the Guard core and Strongroom check the pending set, then seals it and brings
  it into force. -/
  | sealedSetConfirm (f : Frame) (crc : Nat)
  /-- `SEALED_SET_PENDING_EXPIRY` (R183): A pending sealed set not confirmed within 60 s is discarded. -/
  | sealedSetPendingExpiry
  /-- `MODE_REQUEST` (R93): Requests M0, M3 or M4 under the transition rules. -/
  | modeRequest (f : Frame) (target : Nat)
  /-- `RESTART` (R157): Requests a warm or cold restart, with the reply sent first. -/
  | restart (f : Frame) (kind : Nat)
  /-- `PENDING_RESTART_BEGIN` (R157): A restart whose reply has been sent begins at the next sweep boundary. -/
  | pendingRestartBegin
  /-- `CLOSE` (R106): Starts a close sequence, or a weld-check sequence, when its conditions hold. -/
  | close (f : Frame)
  /-- `STOP` (R379): Starts the stop ramp and a controlled opening. -/
  | stop (f : Frame)
  /-- `TRIP` (R442): Raises SI.08 at G4 and opens every coil path at once. -/
  | trip (f : Frame)
  /-- `FAULT_ACK` (R460): Acknowledges the present instances and the latch of a source, and counts those
  acknowledged anew. -/
  | faultAck (f : Frame) (source : Nat)
  /-- `BRICK_READ` (R188): Returns selected brick row fields of one sweep, optionally from a snapshot. -/
  | brickRead (f : Frame) (first count mask : Nat)
  /-- `SNAPSHOT_RELEASE_TIMER` (R190): A brick table snapshot is released 10 s after its last read. -/
  | snapshotReleaseTimer (i : Nat)
  /-- `BALANCE_TEST` (R258): Commands a pair target on a brick pair. -/
  | balanceTest (f : Frame) (b : Nat) (t : Int)
  /-- `SURVEY_START` (R305): Starts an on-demand impedance survey of a rail. -/
  | surveyStart (f : Frame) (r : Nat)
  /-- `SURVEY_ABORT` (R316): Ends the running survey of the named rail with code 1. -/
  | surveyAbort (f : Frame) (r : Nat)
  /-- `SURVEY_RESULT` (R322): Returns the result records of a rail's last complete survey. -/
  | surveyResult (f : Frame) (r : Nat) (first : Nat) (count : Nat)
  /-- `LOOP_FLAGS_CLEAR` (R348): Clears the sticky flags of the loops in the mask. -/
  | loopFlagsClear (f : Frame) (mask : Nat)
  /-- `LOOP_TEST` (R350): Starts or stops a test-signal injection and capture on a loop. -/
  | loopTest (fr : Frame) (k : Nat) (point : Nat) (kind : Nat) (a : U32) (f : U32)
  /-- `CAPTURE_READ` (R352): Returns samples of the tuning capture. -/
  | captureRead (f : Frame) (number : Nat) (first : Nat) (count : Nat)
  /-- `DAYBOOK_EXPORT` (R582): Returns Daybook entries from a first entry number. -/
  | daybookExport (f : Frame) (first count : Nat)
  /-- `LEDGER_EXPORT` (R591): Returns Ledger records of a region, sealed or live. -/
  | ledgerExport (f : Frame) (region count first : Nat)
  /-- `PROGRAM_CONTROL` (R557): Stops, runs warm or cold, or resumes the cyclic program. -/
  | programControl (f : Frame) (action : Nat)
  /-- `PROGRAM_STATUS` (R153): Returns the program state, overrun count and cycles run. -/
  | programStatus (f : Frame)
  /-- `TIME_READ` (R153): Returns native time, short stamp and synchronised state. -/
  | timeRead (f : Frame)
  /-- `LEASE_ACQUIRE` (R633): Takes the update lease for an image and names the target slot. -/
  | leaseAcquire (f : Frame) (kind : Nat) (length : Nat) (digest : Nat)
  /-- `LEASE_RELEASE` (R632): Releases the update lease. -/
  | leaseRelease (f : Frame)
  /-- `IMAGE_CHUNK` (R633): Delivers the next chunk of the image being staged. -/
  | imageChunk (f : Frame) (offset : Nat) (length : Nat) (data : List Byte)
  /-- `IMAGE_FINISH` (R634): Programs the last page, reads back and verifies the staged image. -/
  | imageFinish (f : Frame) (check : ImageCheck)
  /-- `ISSUE_TRIAL` (R636): Puts a staged issue on trial on this module or the partner, pins settings and restarts. -/
  | issueTrial (f : Frame) (target : Nat) (number : Nat)
  /-- `ISSUE_CONFIRM` (R638): Confirms the trial issue and restarts to M4. -/
  | issueConfirm (f : Frame) (target : Nat)
  /-- `ISSUE_REJECT` (R638): Rejects the trial issue and falls back. -/
  | issueReject (f : Frame) (target : Nat)
  /-- `ANCHOR_WRITE` (R631): Reads, sets or clears a client trust anchor in the working copy. -/
  | anchorWrite (f : Frame) (idx : Nat) (action : Nat) (length : Nat) (data : List Byte) (parses : Bool)
  /-- `DEFERRED_REQUEST_SERVE` (R141): A deferred request is served once its class may run, and its final reply
  follows unasked. -/
  | deferredRequestServe
  /-- `DEFER_LIMIT_EXPIRY` (R142): A P3 or P4 request deferred past WKT.DEFER_LIMIT completes with REFUSED_BUDGET. -/
  | deferLimitExpiry (i : Nat) (wicket : Nat)
  /-- `SESSION_TIMEOUT` (R135): No valid frame has arrived for the session timeout, and the session closes. -/
  | sessionTimeout (i : Nat)
  /-- `SLIP_BATCH_DUE` (R147): Every WKT.SLIP_BATCH, queued slips are sent to the open sessions. -/
  | slipBatchDue
  /-- `SAMPLE_REPLY` (R233): An accepted SAMPLE reply is placed by hop and turned into brick rows. -/
  | sampleReply (r : SampleReply)
  /-- `STACK_CHECK_COUNT_REACHED` (R239): The stack check has failed MEAS.STACK_COUNT sweeps running, and lines 0
  and 12 are tested. -/
  | stackCheckCountReached (n : Nat) (p : Nat)
  /-- `IDENTIFY_REPLY` (R217): An IDENTIFY reply gives a monitor's identity, level and positions. -/
  | identifyReply (n : Nat) (hop : Nat) (x : LineHead) (f : Found)
  /-- `ECHO_REPLY` (R213): An ECHO reply gives a round trip for the one-way delay measurement. -/
  | echoReply (n : Nat) (hop : Nat) (x : LineHead) (rtt : Nat)
  /-- `SET_TIMING_REPLY` (R205): A monitor returns its DELAY and reply slot as stored. -/
  | setTimingReply (n : Nat) (hop : Nat) (x : LineHead) (delay : Nat) (slot : Nat)
  /-- `ENUMERATE_REPLY` (R207): An ENUMERATE reply is collected into the list by POS. -/
  | enumerateReply (n : Nat) (hop : Nat) (x : LineHead) (f : Found)
  /-- `ENUMERATION_WINDOW_END` (R219): Collection ends 1.4 ms after ENUMERATE, and the lists are reconciled into a
  result. -/
  | enumerationWindowEnd (n : Nat)
  /-- `BALANCE_REPLY` (R254): A BALANCE reply gives the applied shuttle currents. -/
  | balanceReply (n : Nat) (hop : Nat) (x : LineHead) (back : BalanceBack) (status : Nat)
  /-- `OPEN_WIRE_REPLY` (R244): An OPEN_WIRE reply confirms the source state, or voids the test with ME.09. -/
  | openWireReply (n : Nat) (hop : Nat) (x : LineHead) (line : Nat) (state : Nat)
  /-- `READ_CONFIG_REPLY` (R210): A register read-back is compared with the value written, and LK.13 is raised on a
  mismatch. -/
  | readConfigReply (n : Nat) (hop : Nat) (x : LineHead) (first : Nat) (regs : List Nat)
  /-- `WRITE_CONFIG_REPLY` (R210): Monitor registers are read back after a write. -/
  | writeConfigReply (n : Nat) (hop : Nat) (x : LineHead) (first : Nat) (regs : List Nat)
  /-- `ALARM_CLEAR_REPLY` (R205): A monitor returns its STATUS after an alarm clear. -/
  | alarmClearReply (n : Nat) (hop : Nat) (x : LineHead) (status : Nat)
  /-- `SURVEY_FETCH_REPLY` (R312): A FETCH reply delivers a block of captured survey samples; `block` and `sweep` are those that
  the monitor serves, as the FETCH of this TAG named them. -/
  | surveyFetchReply (n : Nat) (hop : Nat) (x : LineHead) (block sweep : Nat) (samples : List Nat)
  /-- `LINK_REPLY_TIMEOUT` (R206): A reply has not arrived 40 µs past its mark; it is missed and resent at most
  twice. -/
  | linkReplyTimeout (n : Nat)
  /-- `FOREIGN_COMMAND_HEARD` (R203): A command frame of the other ORIGIN is heard; position B stops transmitting,
  and an active module raises LK.11. -/
  | foreignCommandHeard (c : HeardLine)
  /-- `LISTENER_SILENCE_TIMEOUT` (R203): Position B without a role has heard no ORIGIN 0 command for 2 s and starts
  transmitting on the link. -/
  | listenerSilenceTimeout (n : Nat)
  /-- `LINK_SILENCE_TIMEOUT` (R216): No frame has been sent on a link for 2 s, and the link enters state 5. -/
  | linkSilenceTimeout (n : Nat)
  /-- `WAKE_IDENTIFY_TIMEOUT` (R226): 2 s of IDENTIFY to hop 1 pass with no answer, and the hop check fails. -/
  | wakeIdentifyTimeout (n : Nat)
  /-- `OWD_REMEASURE_TIMER` (R213): Every 60 s the delays of a swept link are measured again. -/
  | owdRemeasureTimer (n : Nat)
  /-- `REGISTER_READBACK_TIMER` (R210): Every 10 s the monitor registers are read back. -/
  | registerReadbackTimer (n : Nat) (p : Nat)
  /-- `ALARM_TONE_PRESENT` (R228): The alarm detector finds 50 µs of tone on a link and reports it to the Guard core
  and Night Safe. -/
  | alarmTonePresent (n : Nat)
  /-- `ALARM_TONE_ABSENT` (R228): The detector finds 2 ms without tone. -/
  | alarmToneAbsent (n : Nat)
  /-- `TONE_DISAGREE_TIMEOUT` (R229): Tone and reply alarm bits have disagreed for 10 ms, and LK.09 is raised. -/
  | toneDisagreeTimeout (n : Nat)
  /-- `OPEN_WIRE_ROUND_DUE` (R242): A round of open-wire tests of a link falls due every MEAS.OW_PERIOD. -/
  | openWireRoundDue (n : Nat)
  /-- `BALANCE_TARGET_RECOMPUTE` (R252): Every BAL.PERIOD the balancing targets of each pack segment are recomputed. -/
  | balanceTargetRecompute
  /-- `BALANCE_REFRESH_DUE` (R255): A monitor has had no BALANCE for 100 ms and is sent one. -/
  | balanceRefreshDue (n : Nat) (p : Nat)
  /-- `COUNT_SOURCE_LOSS` (R266): The shunt channel fails or shows no transitions for 10 µs; counting moves to Hall
  or none. -/
  | countSourceLoss (r : Nat) (hall : Bool)
  /-- `COUNT_SOURCE_RESTORE` (R266): The shunt has shown transitions for 60 s, and counting returns to code 0. -/
  | countSourceRestore (r : Nat)
  /-- `HALL_MISMATCH_TIMEOUT` (R267): Shunt and Hall currents disagree for 1 s, and ME.13 is raised. -/
  | hallMismatchTimeout (r : Nat)
  /-- `FULL_ANCHOR` (R272): The full condition has held for EST.FULL_TIME; E_b is set to Q_b minus C_b. -/
  | fullAnchor (b : Nat)
  /-- `EMPTY_ANCHOR` (R272): The empty condition has held for EST.EMPTY_SWEEPS sweeps; E_b is set from the cut point. -/
  | emptyAnchor (b : Nat)
  /-- `REST_HOLD_REACHED` (R282): A rail rest timer reaches REST_TIME minus REST_HOLD, and automatic shuttles of the
  rail stop. -/
  | restHoldReached (r : Nat)
  /-- `REST_TIME_REACHED` (R282): A rail rest timer reaches EST.REST_TIME, and rest points are taken and balancing
  resumes. -/
  | restTimeReached (r : Nat)
  /-- `DIRECTION_SET` (R283): Rail current beyond the rest threshold in one direction for 60 s sets
  RAIL[r].DIRECTION. -/
  | directionSet (r : Nat) (charge : Bool)
  /-- `DRIFT_TIMEOUT` (R286): Count and voltage disagree at empty or full for EST.DRIFT_TIME; ME.10 is raised and
  CAPACITY_SUSPECT is set. -/
  | driftTimeout (b : Nat) (full : Bool)
  /-- `WARNING_EVALUATION` (R280): Every 100 ms the string position is tested against the warning levels, and
  CHARGE_WARNING is sent. -/
  | warningEvaluation
  /-- `CHECKPOINT_DUE` (R288): Every 100th sweep each Tally core writes a balance checkpoint. -/
  | checkpointDue
  /-- `LEARNED_PERIOD_EXPIRY` (R298): REC.LEARNED_PERIOD since the last generation has passed, and a write-back is
  queued. -/
  | learnedPeriodExpiry
  /-- `WRITE_HOLDOFF_EXPIRY` (R298): EST.WRITE_HOLDOFF after an anchor or learn has passed, and a write-back is
  queued. -/
  | writeHoldoffExpiry
  /-- `SURVEY_WINDOW_OPEN` (R306): The nightly survey window opens, and the first enabled rail is tried. -/
  | surveyWindowOpen
  /-- `SURVEY_RETRY_TIMER` (R306): SURV.RETRY passes, or 10 s after a survey ends, and the scheduled rail is tried
  again or the next one taken. -/
  | surveyRetryTimer
  /-- `SURVEY_WINDOW_CLOSE` (R306): The window closes, and each unsurveyed rail gets SURVEY_END code 13. -/
  | surveyWindowClose
  /-- `SURVEY_T0` (R315): The table is built and every monitor applies 0, and mode-2 SAMPLE and injection start. -/
  | surveyT0
  /-- `SURVEY_T0_TIMEOUT` (R315): T0 is not reached within 1 s, and the survey ends with code 12. -/
  | surveyT0Timeout
  /-- `SURVEY_PERIOD_END` (R315): A 10 s survey period ends, with the ripple check after period 1 and ramp-down
  after the last period. -/
  | surveyPeriodEnd
  /-- `SURVEY_RAMP_END` (R315): Injection weight reaches 0; loop r is restored, CLEAR is broadcast and fitting
  starts. -/
  | surveyRampEnd
  /-- `SURVEY_FIT_COMPLETE` (R321): Fitting completes; fits are taken and checked, and SURVEY_END is sent. -/
  | surveyFitComplete
  /-- `TRIM_STATUS_FRAME` (R341): A trim stage status frame is checked and updates TRIM_STATE and the fault bits. -/
  | trimStatusFrame (r : Nat) (x : TrimFrame)
  /-- `TRIM_STATUS_TIMEOUT` (R341): No valid status frame for 1 ms; TRIM_STATE reads 0 and LK.20 is raised. -/
  | trimStatusTimeout (r : Nat)
  /-- `FALLBACK_EXIT_TIMER` (R357): Sources have cleared and TRIM_STATE has read 2 or 5 for 10 s, and the rail
  leaves fall-back. -/
  | fallbackExitTimer (r : Nat)
  /-- `TRIM_MISMATCH_TIMEOUT` (R358): Measured insertion departs from the command for RAIL[r].TRIM_MISMATCH_TIME,
  and PW.21 is raised. -/
  | trimMismatchTimeout (r : Nat)
  /-- `OUTPUT_LIMIT_TIMEOUT` (R358): A rail loop has stood at its output limit for 10 s, and PW.23 is raised. -/
  | outputLimitTimeout (k : Nat)
  /-- `TRIM_CURRENT_MISMATCH_TIMEOUT` (R358): Stage current and count-source current have differed for 1 s, and
  ME.22 is raised. -/
  | trimCurrentMismatchTimeout (r : Nat)
  /-- `AUX_LOOP_RUN` (R355): Every 10th sweep the auxiliary loops run and set their PWM duties. -/
  | auxLoopRun
  /-- `LOOP_TEST_CAPTURE_COMPLETE` (R353): 65,536 capture samples are taken, and the test ends with code 0. -/
  | loopTestCaptureComplete
  /-- `SECTION_ORDER` (R366): An order frame is checked and handled at its profile step. -/
  | sectionOrder (f : SectionFrame) (order : Nat) (value : Int) (ack : Nat)
  /-- `MASTER_STREAM_FRAME` (R376): A master stream frame is accepted, and the gearing segment is updated. -/
  | masterStreamFrame (f : SectionFrame) (master : Int) (position reserved : Nat)
  /-- `RULING` (R481): A newer ruling is followed and may move the active role. -/
  | ruling (f : SectionFrame) (ruling active : Nat)
  /-- `PARTNER_STANDING_MESSAGE` (R364): A standing message of the partner is heard, which serves fitted and orphan
  detection. -/
  | partnerStandingMessage (f : SectionFrame) (payload : List Byte)
  /-- `ORDER_TIMEOUT` (R367): No order frame for SEC.ORDER_TIMEOUT in M5; RT.30 is raised and CURRENT 0 is taken. -/
  | orderTimeout
  /-- `STREAM_TIMEOUT` (R377): No master frame for SEC.STREAM_TIMEOUT under FOLLOW; RT.31 is raised and I_q is 0. -/
  | streamTimeout
  /-- `CONVERTER_STATUS_FRAME` (R386): A converter status frame updates the converter limits, or is rejected with
  LK.31. -/
  | converterStatusFrame (crc count convState dis chg : Nat)
  /-- `CONVERTER_STATUS_TIMEOUT` (R386): No converter status for PRF.STATUS_TIMEOUT; the limits become 0 and LK.30
  is raised in M5 or M6. -/
  | converterStatusTimeout
  /-- `NOTICE_REPEAT_DUE` (R388): An unacknowledged notice is repeated every 10 ms or every 100 ms. -/
  | noticeRepeatDue (number : Nat)
  /-- `STOP_RAMP_COMPLETE` (R379): The stop ramp reaches 0, and the wait before the controlled opening starts. -/
  | stopRampComplete
  /-- `OPEN_WAIT_END` (R443): String current is below SAF.OPEN_CURRENT, or SAF.OPEN_WAIT has passed, and the
  controlled opening starts. -/
  | openWaitEnd
  /-- `CONTROLLED_OPENING_STEP` (R445): A timed step of the controlled opening opens the mains, the poles or the
  discharge path, and ends with DISARM. -/
  | controlledOpeningStep
  /-- `STANDBY_FOLLOW_TIMEOUT` (R444): The standby has not followed an opening; a TRIP is sent to the own Strongroom
  and SI.34 is raised. -/
  | standbyFollowTimeout (p : Nat)
  /-- `CLOSE_SEQUENCE_STEP` (R436): A timed step of the close sequence switches contactors or evaluates a weld check
  window. -/
  | closeSequenceStep
  /-- `PRECHARGE_REACHED` (R436): The link reaches SAF.PRECHARGE_RATIO of the bus, and main positive is closed. -/
  | prechargeReached
  /-- `PRECHARGE_TIMEOUT` (R436): Precharge is not reached within SAF.PRECHARGE_TIME, and SI.51 is raised. -/
  | prechargeTimeout
  /-- `ECONOMY_CHOP_START` (R440): SAF.PICKUP_TIME after a path closes, its P-switch starts chopping at
  SAF.ECONOMY_DUTY. -/
  | economyChopStart (p : Nat)
  /-- `BRICK_THERMAL_EVALUATION` (R394): The Wicket core evaluates filtered thermistor values against the warning
  and throttle levels. -/
  | brickThermalEvaluation
  /-- `FAST_RATE_RETURN_TIMER` (R394): A thermistor has stayed below the fast band for 1 s and returns to 10 Hz. -/
  | fastRateReturnTimer (k : Nat)
  /-- `GUARD_THERMAL_EVALUATION` (R395): The Guard core evaluates every thermistor at 100 Hz against the brick
  shutdown level. -/
  | guardThermalEvaluation
  /-- `THERMISTOR_FAILED_TIMEOUT` (R396): A thermistor has given no valid reading for 2 s and is taken as failed. -/
  | thermistorFailedTimeout (k : Nat)
  /-- `PACK_THERMISTOR_GRACE_EXPIRY` (R397): All thermistors of a pack have been failed for TH.BRICK_GRACE, and
  TH.05 is raised. -/
  | packThermistorGraceExpiry (n : Nat)
  /-- `THS_SOURCE_INVALID_TIMEOUT` (R399): A busbar sensor source has been invalid for 1 s; TH.33 is raised and the
  sensor counts as in throttle. -/
  | thsSourceInvalidTimeout (i : Nat)
  /-- `DIE_COOL_VAULT_RESUME` (R405): Die sensors have stayed cool for 60 s, and the writes held back after a
  shutdown are made. -/
  | dieCoolVaultResume
  /-- `SAFE_INPUT_CHANGE` (R419): A safe input channel changes level and may demand SF1. -/
  | safeInputChange (k : Nat) (guard : Bool) (ch1 ch2 : Int)
  /-- `DISCREPANCY_TIMEOUT` (R419): Channels have disagreed for SI[k].DISCREPANCY, and a latched discrepancy is
  raised. -/
  | discrepancyTimeout (k : Nat) (guard : Bool)
  /-- `AUTO_RESET_TIMEOUT` (R420): Channels have been closed together for D with auto reset set, and the input
  demand resets. -/
  | autoResetTimeout (k : Nat) (guard : Bool)
  /-- `SAFETY_DISAGREE_TIMEOUT` (R421): Strongroom and Guard have disagreed on a discrepancy for 20 ms, and SI.28 is
  raised. -/
  | safetyDisagreeTimeout (k : Nat)
  /-- `HALL_THRESHOLD_CROSSED` (R426): A Hall input crosses the SF4 threshold, and the rail overcurrent trip acts. -/
  | hallThresholdCrossed (r : Nat) (guard : Bool) (before now : Int)
  /-- `TRIP_REQUEST` (R414): Strongroom receives TRIP on its line and opens and disarms every H-switch. -/
  | tripRequest
  /-- `ARM_REQUEST` (R414): Strongroom receives ARM with a path mask and arms and closes those H-switches. -/
  | armRequest (mask : Nat)
  /-- `DISARM_REQUEST` (R414): Strongroom receives DISARM and opens and disarms every H-switch. -/
  | disarmRequest
  /-- `PULSE_PERMIT` (R430): Strongroom receives a pulse permit and runs an H-switch off-pulse. -/
  | pulsePermit (p : Nat)
  /-- `OFF_PULSE_START` (R429): An off-pulse test of one closed switch starts in the module's window. -/
  | offPulseStart (j : Nat)
  /-- `OFF_PULSE_OFF_CHECK` (R432): At W minus 20 µs the tested switch must read off. -/
  | offPulseOffCheck (mv : Int)
  /-- `OFF_PULSE_RESTORE` (R430): At W the switch is commanded on again, unless a demand won. -/
  | offPulseRestore
  /-- `OFF_PULSE_ON_CHECK` (R432): At W plus 50 µs the switch must read on, and the chop resumes. -/
  | offPulseOnCheck (mv : Int)
  /-- `READBACK_DISAGREE_COUNT` (R433): Read-back has disagreed with command for 3 sweeps, and SI.30, SI.31 or SI.32
  is raised. -/
  | readbackDisagreeCount (p : Nat) (h : Bool)
  /-- `PAIR_OFFSET_MEASURE` (R434): Once per second the time offset to the partner is measured, which may defer
  off-pulse tests. -/
  | pairOffsetMeasure
  /-- `PROGRAM_CLOSE_REQUEST` (R446): The program requests a close, and the Guard core honours or refuses it. -/
  | programCloseRequest
  /-- `PROGRAM_STOP_REQUEST` (R446): The program requests a stop. -/
  | programStopRequest
  /-- `RAIL_CONNECT` (R446): The program requests both poles of a matching rail closed in M5. -/
  | railConnect (r : Nat)
  /-- `RAIL_DISCONNECT` (R446): The program requests both poles of a rail opened in M5. -/
  | railDisconnect (r : Nat)
  /-- `BROKEN_SIGNAL` (R453): An error source pair shows 00 or 11, and a signal-integrity fault is raised at G2. -/
  | brokenSignal (source item : Nat)
  /-- `SIGNAL_INTEGRITY_RESTORED` (R453): The pair has held valid codes for 10 ms, and the signal-integrity
  condition ends. -/
  | signalIntegrityRestored (source item : Nat)
  /-- `MIRROR_FRAGMENT` (R476): A twin link mirror fragment is received and its blocks are applied at sweep
  boundaries. -/
  | mirrorFragment (x : MirrorFrame)
  /-- `TWIN_REQUEST_STRAPS` (R65): The partner asks for the exchange of straps and variant. -/
  | twinRequestStraps (str pos variant : Nat)
  /-- `TWIN_REQUEST_ENUMERATE` (R203): Position A asks position B to carry out one ENUMERATE on a link. -/
  | twinRequestEnumerate (n : Nat)
  /-- `TWIN_REQUEST_IDENTIFY` (R223): The standby asks the active module to send IDENTIFY on named links. -/
  | twinRequestIdentify (l : List Nat)
  /-- `TWIN_REQUEST_OFFSET` (R434): The partner makes an OFFSET exchange for the time offset measurement. -/
  | twinRequestOffset (rx : Nat)
  /-- `TWIN_REQUEST_CHARGE_TOTAL` (R292): The partner asks for logged CHARGE_TOTAL of a rail at two boundaries. -/
  | twinRequestChargeTotal (r b1 b2 : Nat)
  /-- `TWIN_REQUEST_IMAGE` (R474): The standby asks for a full image of one kind in BULK blocks. -/
  | twinRequestImage (kind : Nat)
  /-- `TWIN_REQUEST_SETTINGS` (R494): A joining module asks for the sealed settings and safety set. -/
  | twinRequestSettings
  /-- `TWIN_REPLY` (R475): A reply frame from the partner to a twin request is received. -/
  | twinReply (r : TwinReply)
  /-- `TWIN_LINK_UP` (R493): The twin link comes up, and joining starts. -/
  | twinLinkUp
  /-- `PARTNER_SILENT` (R477): No fragment 0 has arrived for 3 sweep cycles, and PARTNER_SILENT is set. -/
  | partnerSilent
  /-- `TWIN_LINK_DOWN_TIMEOUT` (R477): The twin link has been down or silent for 1 s with the partner fitted, and
  RT.10 is raised. -/
  | twinLinkDownTimeout (down : Bool)
  /-- `ROLE_TAKE_TIMEOUT` (R483): With no fragment since the ruling, the READY standby takes the role at the third
  sweep boundary. -/
  | roleTakeTimeout
  /-- `ORPHAN_TIMEOUT` (R490): The standby has heard no partner, ruling or order for 2 s; it raises RT.12 and makes
  a controlled stop. -/
  | orphanTimeout
  /-- `RECONCILE_ROUND_DUE` (R491): Every TWIN.RECONCILE_PERIOD the active module starts a reconciliation round. -/
  | reconcileRoundDue
  /-- `PTP_SYNC` (R513): A Sync message is received and stamped on its port. -/
  | ptpSync (h : PtpHead) (twoStep : Bool) (rx origin : Nat) (corr : Int)
  /-- `PTP_FOLLOW_UP` (R515): A Follow_Up completes an offset, and the servo adjusts the rate or steps the time base. -/
  | ptpFollowUp (h : PtpHead) (origin : Nat) (corr : Int)
  /-- `PTP_ANNOUNCE` (R512): An Announce message feeds the port's best master clock algorithm. -/
  | ptpAnnounce (h : PtpHead) (a : Announce)
  /-- `PTP_ANNOUNCE_TIMEOUT` (R513): No Announce within the receipt timeout, and the port is not synchronised. -/
  | ptpAnnounceTimeout (i : Nat)
  /-- `PTP_PDELAY_REQ` (R512): A received Pdelay_Req is answered with Pdelay_Resp and its follow-up. -/
  | ptpPdelayReq (h : PtpHead) (rx : Nat)
  /-- `PTP_PDELAY_RESP` (R512): A Pdelay_Resp to the module's own request is received. -/
  | ptpPdelayResp (h : PtpHead) (t2 rx : Nat)
  /-- `PTP_PDELAY_RESP_FOLLOW_UP` (R512): A Pdelay_Resp_Follow_Up completes the peer delay measurement. -/
  | ptpPdelayRespFollowUp (h : PtpHead) (t3 : Nat) (corr : Int)
  /-- `PTP_PDELAY_REQ_DUE` (R512): Each second each port sends a Pdelay_Req. -/
  | ptpPdelayReqDue (i : Nat)
  /-- `PTP_MASTER_SEND_DUE` (R519): As grandmaster candidate in MASTER, the port sends Announce and Sync with
  Follow_Up each second. -/
  | ptpMasterSendDue (i : Nat)
  /-- `GM_QUALIFY_COMPLETE` (R517): A new grandmaster's offsets have held for PTP.QUALIFY_TIME, and it is followed. -/
  | gmQualifyComplete
  /-- `LEAP_SECOND` (R509): An announced leap second is applied at the end of its UTC day. -/
  | leapSecond
  /-- `NIGHT_SAFE_TIME_COPY` (R510): Once per second Night Safe takes native time from the time base. -/
  | nightSafeTimeCopy
  /-- `PRP_SUPERVISION_DUE` (R500): Every NET.PRP_LIFE_CHECK a supervision frame is sent on both ports. -/
  | prpSupervisionDue
  /-- `PRP_SUPERVISION_FRAME` (R502): A supervision frame from another node is heard on a port. -/
  | prpSupervisionFrame (x : UplinkFrame)
  /-- `PORT_LINK_CHANGE` (R502): An uplink port gains or loses its link. -/
  | portLinkChange (i : Nat) (up compliant : Bool)
  /-- `ARP_REQUEST` (R503): An ARP request for a module address is answered. -/
  | arpRequest (x : UplinkFrame) (addr : Nat)
  /-- `ICMP_ECHO_REQUEST` (R503): An ICMP echo request is answered. -/
  | icmpEchoRequest (x : UplinkFrame) (addr sender : Nat)
  /-- `GRATUITOUS_ARP_REPEAT` (R504): 100 ms and 1 s after a take, the gratuitous ARP for the role address is
  repeated. -/
  | gratuitousArpRepeat
  /-- `RECEIPT_STAMP` (R525): A transmit stamp arrives at a receipt queue, or is dropped when the queue is full with
  RT.22. -/
  | receiptStamp (q tag stamp : Nat)
  /-- `CAN_TX_COMPLETE` (R531): A CAN frame is sent without error, and the next frame is offered. -/
  | canTxComplete (x : CanSent)
  /-- `CAN_TX_ATTEMPT_FAILED` (R535): A transmit attempt ends in error or no acknowledgement, and the frame is
  retried or dropped with LK.40. -/
  | canTxAttemptFailed (b : Nat) (lost : Bool)
  /-- `CAN_BUS_OFF` (R536): A controller goes bus-off; LK.41 is raised and its queues are emptied. -/
  | canBusOff (b : Nat)
  /-- `CAN_BUS_OFF_RECOVERY` (R536): 100 ms after bus-off the recovery sequence starts. -/
  | canBusOffRecovery (b : Nat)
  /-- `AUX_BOOTUP` (R539): A station boot-up message is received, and Start remote node is sent. -/
  | auxBootup (node : Nat)
  /-- `AUX_HEARTBEAT` (R540): A station heartbeat is received; it may prompt a Start and ends a loss. -/
  | auxHeartbeat (node nmt : Nat)
  /-- `AUX_HEARTBEAT_LOSS` (R540): No heartbeat for AUX[s].HB_TIME; LK.42 is raised and the station's values become
  invalid. -/
  | auxHeartbeatLoss (st : Nat)
  /-- `HEARTBEAT_PRODUCE_DUE` (R539): Every CAN[1].HB_PRODUCER the module sends its heartbeat. -/
  | heartbeatProduceDue
  /-- `SDO_RESPONSE` (R541): An SDO response advances or completes the running transfer. -/
  | sdoResponse (b node : Nat) (d : List Byte)
  /-- `SDO_TIMEOUT` (R541): No response within CAN[1].SDO_TIMEOUT, and the transfer is aborted. -/
  | sdoTimeout (b : Nat)
  /-- `RX_PDO` (R542): A receive PDO fills the process values mapped to its COB-ID. -/
  | rxPdo (id : Nat) (data : List Byte)
  /-- `TX_PDO_REFRESH_DUE` (R542): A transmit PDO unsent for 1 s is written to the FIFO. -/
  | txPdoRefreshDue (id : Nat)
  /-- `PROGRAM_CAN_RECEIVE` (R568): A bus frame matching an enabled receive filter is held for the program. -/
  | programCanReceive (b : Nat) (x : CanFrame)
  /-- `PROGRAM_CYCLE_START` (R547): A program cycle starts at its epoch and takes the input snapshot. -/
  | programCycleStart
  /-- `PROGRAM_EXECUTION_END` (R548): Execution ends, and the outputs and retained data are written. -/
  | programExecutionEnd (o : ProgramOutput)
  /-- `PROGRAM_DEADLINE_OVERRUN` (R549): Execution has not ended at C minus 100 µs; the next start is skipped and
  PR.30 is raised. -/
  | programDeadlineOverrun
  /-- `PROGRAM_BREAKPOINT_HIT` (R559): Execution reaches a breakpoint and the program holds, which takes M5 to M6. -/
  | programBreakpointHit (i : Nat)
  /-- `PROGRAM_RUNTIME_ERROR` (R570): A checked run-time error stops the program and raises PR.31. -/
  | programRuntimeError (offset : Nat)
  /-- `EXCHANGE_PREPARED` (R563): Exchange preparation completes, and the new image starts at the next cycle start. -/
  | exchangePrepared
  /-- `LEDGER_SECOND` (R586): Every 1,000th sweep the active module adds one second to the Ledger bins. -/
  | ledgerSecond
  /-- `CLOSE_OF_BOOKS` (R588): At the first epoch after 00:00 UTC a daily Ledger generation is written. -/
  | closeOfBooks
  /-- `BUDGET_PERIOD_START` (R594): Every 100th sweep the Treasury forms the allowances of the new period. -/
  | budgetPeriodStart (m : Metering)
  /-- `ALLOWANCE_SPENT` (R598): An engine's P2 to P4 energy reaches its allowance, and its discretionary work is
  held. -/
  | allowanceSpent (e : Nat)
  /-- `THRIFT_SUPPLY_TIMER` (R599): Supply below TRS.THRIFT_SUPPLY for 1 s, or above it for 10 s, sets or ends that
  Thrift cause. -/
  | thriftSupplyTimer (low : Bool)
  /-- `RING_OSCILLATOR_MEASURE` (R607): Hourly the process monitors are read, and the slowdown is formed. -/
  | ringOscillatorMeasure (counts : List Nat)
  /-- `FLASH_MARGIN_TEST` (R607): Every AGE.FLASH_TEST_DAYS a 1 MiB Vault sample is margin-read. -/
  | flashMarginTest (errors : Nat)
  /-- `HOLDUP_BANK_TEST_START` (R608): The periodic bank test pauses charging and loads the bank. -/
  | holdupBankTestStart
  /-- `HOLDUP_BANK_TEST_END` (R608): The bank reaches 44 V; capacitance and energy are computed and charging resumes. -/
  | holdupBankTestEnd (us : Nat)
  /-- `TCXO_DAILY` (R607): At 00:00 UTC the day's mean TCXO rate is taken. -/
  | tcxoDaily
  /-- `REPLAN_PERIOD_EXPIRY` (R610): AGE.REPLAN_PERIOD since the last plan has passed, and a re-plan is triggered. -/
  | replanPeriodExpiry
  /-- `REPLAN` (R611): A waiting re-plan runs: it computes the decisions and seals the margin plan. -/
  | replan
  /-- `VAULT_WRITE_START` (R620): The next queued Vault write starts with its snapshot and erase. -/
  | vaultWriteStart
  /-- `VAULT_ERASE_COMPLETE` (R618): The slot erase completes, and the energy rule test is applied. -/
  | vaultEraseComplete
  /-- `VAULT_PAGE_PROGRAMMED` (R618): A page program completes, and the next page starts or the write yields. -/
  | vaultPageProgrammed
  /-- `VAULT_READBACK_COMPLETE` (R618): Content read-back completes and is matched, or the write is abandoned with
  ST.03. -/
  | vaultReadbackComplete (x : ReadBack)
  /-- `VAULT_SEAL_COMPLETE` (R618): The seal page is programmed and read back, and the record becomes the newest. -/
  | vaultSealComplete
  /-- `VAULT_ENERGY_RETEST` (R623): A protected write refused by the energy rule is tested again after 1 s. -/
  | vaultEnergyRetest
  /-- `VAULT_REFUSAL_TIMEOUT` (R623): Refusal has lasted 60 s, and ST.03 is raised. -/
  | vaultRefusalTimeout
  /-- `VAULT_REFRESH_DUE` (R624): AGE.REFRESH_DAYS since the last refresh have passed, and every region is refreshed. -/
  | vaultRefreshDue
  /-- `LEASE_EXPIRY` (R632): UPD.LEASE_TIME without an issue command from the holder, and the lease ends. -/
  | leaseExpiry
  /-- `TRIAL_WINDOW_EXPIRY` (R638): UPD.TRIAL_WINDOW expires, and the module falls back. -/
  | trialWindowExpiry
  /-- `HEARD_COMMAND_FRAME` (R230): A listening module accepts a SAMPLE, OPEN_WIRE or other command frame sent by
  the transmitting end of a link and runs its own sweep, counter and tests from it. -/
  | heardCommandFrame (n hop opcode : Nat) (x : LineHead) (payload : List Nat)
  /-- `CAN_WAKE_UP_PATTERN` (R112): A CAN transceiver in low-power mode detects an ISO 11898-2 wake-up pattern on
  bus 0 or 1 in M0 and gives Night Safe a wake cause. -/
  | canWakeUpPattern (b : Nat)
  /-- `FABRIC_CLOCK_RETURN` (R28): The fabric clock comes back within 5 % of 200 MHz, Strongroom releases the main
  domain reset, and the module makes a warm restart and records PR.04 at G4. -/
  | fabricClockReturn
  /-- `PRESENCE_LOOP_CLOSED` (R58): The PRES_OUT to PRES_IN loop is closed again, ending the SI.06 condition so that
  Strongroom may honour a later ARM. -/
  | presenceLoopClosed
  /-- `BANK_CHARGE_30V_TO_40V` (R608): During the charge after a start, the hold-up bank reaches 40 V, and the time
  taken from 30 V gives the bank capacitance and AGE.HOLDUP_CAP. -/
  | bankCharge30vTo40v (t : Nat)
  /-- `KEEP_ALIVE_LOST` (R21): KA_12V disappears while the main domain is off, so Night Safe stops and retained SRAM
  and Night Safe memory are lost. -/
  | keepAliveLost
  /-- `PRP_SUPERVISION_TIMEOUT` (R502): A port with a link has heard no supervision frame from another node for 3 ×
  NET.PRP_LIFE_CHECK, and NET.PORT_STATE falls from 2 to 1. -/
  | prpSupervisionTimeout (i : Nat)
  deriving DecidableEq, Repr

end Sys2Proof
end

