-- ==== Sys2Proof/Decode.lean ====
section
/-! DEFINITION. The command that a word of bits spells. The opcode table of the spec gives no row any bits, so no word spells one. -/

namespace Sys2Proof

/-- The command that the `nbits` bits `w` spell by the table: none, as no row of the table has an encoding. -/
def decodeTableWord (_nbits _w : Nat) : Option Instr := none

end Sys2Proof
end

