-- ==== Sys2Proof/Machine/Digest.lean ====
section
/-! DEFINITION. SHA-384 (FIPS 180-4), by which images are named and verified (R627, R633, R634). -/

namespace Sys2Proof.Machine

open Sys2Proof

/-- The 80 round constants. -/
def shaRounds : List (BitVec 64) :=
  [0x428A2F98D728AE22, 0x7137449123EF65CD, 0xB5C0FBCFEC4D3B2F, 0xE9B5DBA58189DBBC, 0x3956C25BF348B538,
   0x59F111F1B605D019, 0x923F82A4AF194F9B, 0xAB1C5ED5DA6D8118, 0xD807AA98A3030242, 0x12835B0145706FBE] ++
  [0x243185BE4EE4B28C, 0x550C7DC3D5FFB4E2, 0x72BE5D74F27B896F, 0x80DEB1FE3B1696B1, 0x9BDC06A725C71235,
   0xC19BF174CF692694, 0xE49B69C19EF14AD2, 0xEFBE4786384F25E3, 0x0FC19DC68B8CD5B5, 0x240CA1CC77AC9C65] ++
  [0x2DE92C6F592B0275, 0x4A7484AA6EA6E483, 0x5CB0A9DCBD41FBD4, 0x76F988DA831153B5, 0x983E5152EE66DFAB,
   0xA831C66D2DB43210, 0xB00327C898FB213F, 0xBF597FC7BEEF0EE4, 0xC6E00BF33DA88FC2, 0xD5A79147930AA725] ++
  [0x06CA6351E003826F, 0x142929670A0E6E70, 0x27B70A8546D22FFC, 0x2E1B21385C26C926, 0x4D2C6DFC5AC42AED,
   0x53380D139D95B3DF, 0x650A73548BAF63DE, 0x766A0ABB3C77B2A8, 0x81C2C92E47EDAEE6, 0x92722C851482353B] ++
  [0xA2BFE8A14CF10364, 0xA81A664BBC423001, 0xC24B8B70D0F89791, 0xC76C51A30654BE30, 0xD192E819D6EF5218,
   0xD69906245565A910, 0xF40E35855771202A, 0x106AA07032BBD1B8, 0x19A4C116B8D2D0C8, 0x1E376C085141AB53] ++
  [0x2748774CDF8EEB99, 0x34B0BCB5E19B48A8, 0x391C0CB3C5C95A63, 0x4ED8AA4AE3418ACB, 0x5B9CCA4F7763E373,
   0x682E6FF3D6B2B8A3, 0x748F82EE5DEFB2FC, 0x78A5636F43172F60, 0x84C87814A1F0AB72, 0x8CC702081A6439EC] ++
  [0x90BEFFFA23631E28, 0xA4506CEBDE82BDE9, 0xBEF9A3F7B2C67915, 0xC67178F2E372532B, 0xCA273ECEEA26619C,
   0xD186B8C721C0C207, 0xEADA7DD6CDE0EB1E, 0xF57D4F7FEE6ED178, 0x06F067AA72176FBA, 0x0A637DC5A2C898A6] ++
  [0x113F9804BEF90DAE, 0x1B710B35131C471B, 0x28DB77F523047D84, 0x32CAAB7B40C72493, 0x3C9EBE0A15C9BEBC,
   0x431D67C49C100D4C, 0x4CC5D4BECB3E42B6, 0x597F299CFC657E2A, 0x5FCB6FAB3AD6FAEC, 0x6C44198C4A475817]

/-- The initial hash value of SHA-384. -/
def shaStart : List (BitVec 64) :=
  [0xCBBB9D5DC1059ED8, 0x629A292A367CD507, 0x9159015A3070DD17, 0x152FECD8F70E5939,
   0x67332667FFC00B31, 0x8EB44A8768581511, 0xDB0C2E0D64F98FA7, 0x47B5481DBEFA4FA4]

/-- The next word of the message schedule, from its last sixteen, newest first. -/
def shaNext (w : List (BitVec 64)) : BitVec 64 :=
  let x := w.getD 14 0
  let y := w.getD 1 0
  w.getD 15 0 + (x.rotateRight 1 ^^^ x.rotateRight 8 ^^^ x >>> 7) + w.getD 6 0
    + (y.rotateRight 19 ^^^ y.rotateRight 61 ^^^ y >>> 6)

/-- The working variables a to h. -/
structure ShaVars where
  a : BitVec 64
  b : BitVec 64
  c : BitVec 64
  d : BitVec 64
  e : BitVec 64
  f : BitVec 64
  g : BitVec 64
  h : BitVec 64

/-- One round, with its constant and its word of the schedule. -/
def shaRound (v : ShaVars) (k w : BitVec 64) : ShaVars :=
  let t := v.h + (v.e.rotateRight 14 ^^^ v.e.rotateRight 18 ^^^ v.e.rotateRight 41) + ((v.e &&& v.f) ^^^ (~~~v.e &&& v.g)) + k + w
  let u := (v.a.rotateRight 28 ^^^ v.a.rotateRight 34 ^^^ v.a.rotateRight 39) + ((v.a &&& v.b) ^^^ (v.a &&& v.c) ^^^ (v.b &&& v.c))
  { a := t + u, b := v.a, c := v.b, d := v.c, e := v.d + t, f := v.e, g := v.f, h := v.g }

/-- The rounds on a block: each takes the oldest of the sixteen words kept, newest first, and adds the next. -/
def shaRoundsOf : List (BitVec 64) → ShaVars → List (BitVec 64) → ShaVars
  | [], v, _ => v
  | k :: t, v, w => shaRoundsOf t (shaRound v k (w.getD 15 0)) ((shaNext w :: w).take 16)

/-- The big-endian number of some bytes. -/
def beNat (l : List Byte) : Nat := l.foldl (fun n b => 256 * n + b.toNat) 0

/-- One block of 128 bytes into the hash value. -/
def shaBlock (h : List (BitVec 64)) (block : List Byte) : List (BitVec 64) :=
  let w := (List.range 16).map fun i => BitVec.ofNat 64 (beNat ((block.drop (8 * i)).take 8))
  let x := fun (i : Nat) => h.getD i 0
  let v := shaRoundsOf shaRounds { a := x 0, b := x 1, c := x 2, d := x 3, e := x 4, f := x 5, g := x 6, h := x 7 } w.reverse
  [x 0 + v.a, x 1 + v.b, x 2 + v.c, x 3 + v.d, x 4 + v.e, x 5 + v.f, x 6 + v.g, x 7 + v.h]

/-- A message with its padding: the bit 1, zeros, and its length in bits as 16 bytes. -/
def shaPadded (l : List Byte) : List Byte :=
  l ++ [0x80#8] ++ List.replicate ((239 - l.length % 128) % 128) 0#8 ++ (leBytes 16 (8 * l.length)).reverse

/-- The SHA-384 of some bytes, as a big-endian number. -/
def sha384 (l : List Byte) : Nat :=
  let m := shaPadded l
  let h := (List.range (m.length / 128)).foldl (fun h i => shaBlock h ((m.drop (128 * i)).take 128)) shaStart
  (h.take 6).foldl (fun n x => 2 ^ 64 * n + x.toNat) 0

end Sys2Proof.Machine
end

