-- ==== Sys2Proof/Config.lean ====
section
/-! DEFINITION. What the spec leaves open: constants without a body, so that nothing can be proved about their values. -/

namespace Sys2Proof

/-- A value the spec leaves open, for each moment at which one is taken: the step reads and advances `State.freeCtr`. -/
opaque Config.freeValue : Nat → Nat

/-- What SEQ, COMMAND, PRIORITY, OUTCOME and EPOCH (0 to 4) hold in a slip frame (log 183). -/
opaque Config.slipHeader : Nat → Nat

/-- Which of the flat slots that no table of the manual names are among the 6,650 defined indices (R162): the successive choices. -/
opaque Config.otherDefined : Nat → Nat

/-- The type code and the value of a defined parameter that the manual does not describe. -/
opaque Config.otherType : Nat → Nat

/-- The value such a parameter reads. -/
opaque Config.otherValue : Nat → Nat

/-- The sine, in double precision, of an angle given as a fraction of a full turn (R308, R317, R351). -/
opaque Config.sin64 : Rat → Rat

/-- The natural logarithm in double precision (R351). -/
opaque Config.ln64 : Rat → Rat

/-- The first number to the power of the second, in double precision (R351). -/
opaque Config.pow64 : Rat → Rat → Rat

/-- sinc(pi x) = sin(pi x) ÷ (pi x) of R317, in double precision. -/
opaque Config.sinc : Rat → Rat

/-- pi in double precision (R319). -/
opaque Config.pi : Rat

/-- The numbers r0, ra, rb, tau_a and tau_b at which the fit of R319 ends, from its start and the used points (frequency, real
and imaginary part): the manual names the quantity that the fit minimises and no method. -/
opaque Config.fit : List Rat → List (Rat × Rat × Rat) → List Rat

/-- The settings CRC-32 of a settings generation (R171, R616), from the values that differ from their defaults, the CRC-32 of
the present program image and the trust anchors: the manual does not list every parameter the CRC covers (log 16). -/
opaque Config.settingsCrc : List (Nat × Int) → Nat → List (Option (List Byte)) → Nat

end Sys2Proof
end

