-- ==== Sys2Proof/Machine/SoftFloat.lean ====
section
/-! DEFINITION. float32 and float64 arithmetic by exact rational values: a result is the exact value rounded to nearest,
ties to even (R343, R344), a subnormal result is a zero of its sign, an overflow saturates at the largest finite value. -/

namespace Sys2Proof.Machine

open Sys2Proof

/-- The sign bit is set. -/
def f32Neg (x : U32) : Bool := x.toNat.testBit 31

/-- The exponent field. -/
def f32Exp (x : U32) : Nat := x.toNat / 2 ^ 23 % 256

/-- Neither a NaN nor an infinity. -/
def f32Finite (x : U32) : Bool := decide (f32Exp x ≠ 255)

/-- 2 to an integer power. -/
def pow2 (e : Int) : Rat := if 0 ≤ e then ((2 ^ e.toNat : Nat) : Rat) else 1 / ((2 ^ (-e).toNat : Nat) : Rat)

/-- The exact value of a finite pattern; a subnormal counts as 0 (R344). -/
def f32Val (x : U32) : Rat :=
  if f32Exp x = 0 then 0
  else
    let a : Rat := ((2 ^ 23 + x.toNat % 2 ^ 23 : Nat) : Rat) * pow2 ((f32Exp x : Int) - 150)
    if f32Neg x then -a else a

/-- Round a nonnegative rational to the nearest natural number, ties to even. -/
def rneNat (q : Rat) : Nat :=
  let n := q.num.toNat / q.den
  let r := q.num.toNat % q.den
  if 2 * r < q.den then n else if q.den < 2 * r then n + 1 else if n % 2 = 0 then n else n + 1

/-- The exponent e with 2^e ≤ a < 2^(e+1) of a positive rational. -/
def ilog2 (a : Rat) : Int :=
  let e : Int := (Nat.log2 a.num.toNat : Int) - (Nat.log2 a.den : Int)
  if a < pow2 e then e - 1 else e

/-- A rational rounded to `p` significant bits, ties to even. -/
def roundBits (p : Nat) (q : Rat) : Rat :=
  if q = 0 then 0
  else
    let a : Rat := if q < 0 then -q else q
    let e := ilog2 a
    let m := rneNat (a * pow2 ((p : Int) - 1 - e))
    let v : Rat := (m : Rat) * pow2 (e - (p : Int) + 1)
    if q < 0 then -v else v

/-- The largest finite float32 of a sign. -/
def f32Max (neg : Bool) : U32 := if neg then 0xFF7FFFFF#32 else 0x7F7FFFFF#32

/-- The float32 pattern nearest to `q`; `neg` is the sign of a zero result. -/
def f32OfRat (q : Rat) (neg : Bool := false) : U32 :=
  if q = 0 then (if neg then 0x80000000#32 else 0#32)
  else
    let s : Bool := decide (q < 0)
    let a : Rat := if s then -q else q
    let v := roundBits 24 a
    let e := ilog2 v
    let top : Nat := if s then 2 ^ 31 else 0
    if e < -126 then BitVec.ofNat 32 top
    else if 127 < e then f32Max s
    else
      let m := (v * pow2 (23 - e)).num.toNat
      BitVec.ofNat 32 (top + (e + 127).toNat * 2 ^ 23 + (m - 2 ^ 23))

/-- a + b in float32. -/
def f32Add (a b : U32) : U32 :=
  f32OfRat (f32Val a + f32Val b) (f32Neg a && f32Neg b && decide (f32Val a = 0) && decide (f32Val b = 0))

/-- −a. -/
def f32Minus (a : U32) : U32 := a ^^^ 0x80000000#32

/-- a − b in float32. -/
def f32Sub (a b : U32) : U32 := f32Add a (f32Minus b)

/-- a × b in float32. -/
def f32Mul (a b : U32) : U32 := f32OfRat (f32Val a * f32Val b) (f32Neg a != f32Neg b)

/-- a ÷ b in float32; a zero divisor gives the largest finite value of the quotient's sign. -/
def f32Div (a b : U32) : U32 :=
  if f32Val b = 0 then f32Max (f32Neg a != f32Neg b)
  else f32OfRat (f32Val a / f32Val b) (f32Neg a != f32Neg b)

/-- A rational rounded to float64 (53 bits; the profile's values stay far inside the exponent range). -/
def r64 (q : Rat) : Rat := roundBits 53 q

/-- The value of a rational rounded to float32. -/
def r32 (q : Rat) : Rat := f32Val (f32OfRat q)

/-- Nearest integer, halves away from zero. -/
def roundAway (q : Rat) : Int := divNear q.num q.den

/-- Largest natural number whose square is at most n. -/
def isqrt (n : Nat) : Nat := Nat.sqrt n

/-- The square root of a nonnegative rational, rounded to 53 bits (DEDUCED: correctly rounded, log 11). -/
def sqrt64 (q : Rat) : Rat :=
  if q ≤ 0 then 0
  else
    let e := ilog2 q
    let k : Int := 2 * 60 - (e - e % 2)
    let n := (q * pow2 k).floor.toNat
    let r := Nat.sqrt n
    -- a sticky half marks an inexact root
    let exact : Bool := decide (((r * r : Nat) : Rat) = q * pow2 k)
    r64 ((((2 * r + (if exact then 0 else 1) : Nat) : Rat)) / 2 * pow2 (-(k / 2)))

/-- Integer cube root by bisection on bits, from the highest of `b` bits down. -/
def icbrt : Nat → Nat → Nat → Nat
  | 0, _, r => r
  | b + 1, n, r =>
    let r' := r + 2 ^ b
    if r' * r' * r' ≤ n then icbrt b n r' else icbrt b n r

/-- The cube root of a nonnegative rational, rounded to 53 bits (DEDUCED: correctly rounded, log 11). -/
def cbrt64 (q : Rat) : Rat :=
  if q ≤ 0 then 0
  else
    let e := ilog2 q
    let k : Int := 3 * 60 - (e - e % 3)
    let n := (q * pow2 k).floor.toNat
    let r := icbrt 64 n 0
    let exact : Bool := decide (((r * r * r : Nat) : Rat) = q * pow2 k)
    r64 ((((2 * r + (if exact then 0 else 1) : Nat) : Rat)) / 2 * pow2 (-(k / 3)))

end Sys2Proof.Machine
end

