-- ==== Sys2Proof/Machine/Params.lean ====
section
/-! DEFINITION. The parameter dictionary of chapter 05 and of the tables of the other chapters: for every named index
its type, access, persistence, default and range, and the names of the writable parameters. -/

namespace Sys2Proof.Machine

open Sys2Proof

/-- The Access column (R165). -/
inductive Access where
  | ro | rw | co | sl
  deriving DecidableEq, Repr

/-- The Range column, with the conditions that concern one value alone. -/
inductive Rng where
  | any
  | span (lo hi : Int)
  /-- these values only -/
  | list (vals : List Int)
  /-- one value outside an interval -/
  | spanOr (extra lo hi : Int)
  /-- float32 limits as patterns -/
  | real (lo hi : Nat)
  | finite
  /-- two finite float32 values -/
  | pair
  /-- a rule of its own: 4 R356, 6 R392, 8 R503, 11 R543, 12 PDO scale, 15 R281 -/
  | special (n : Nat)
  deriving DecidableEq, Repr

/-- A row of the dictionary: `count` elements `stride` indices apart, each of `sub` consecutive slots (R172). -/
structure PRow where
  base : Nat
  stride : Nat
  count : Nat
  sub : Nat
  ty : Nat
  acc : Access
  /-- Kept column: 0 –, 1 R, 2 V (R167) -/
  kept : Nat
  dflt : Int
  rng : Rng
  deriving DecidableEq, Repr

/-- The row covers index `i`. -/
def PRow.has (r : PRow) (i : Nat) : Bool :=
  decide (r.base ≤ i) && decide ((i - r.base) / r.stride < r.count) && decide ((i - r.base) % r.stride < r.sub)

namespace P

abbrev modeSettleSweeps : Nat := 0x0110
abbrev modeHoldEnable : Nat := 0x0111
abbrev modeHoldTimeout : Nat := 0x0112
abbrev modeDormantIdle : Nat := 0x0113
abbrev modeBootRetries : Nat := 0x0114
abbrev nsWakeMask : Nat := 0x0120
abbrev nsWakeCurrent : Nat := 0x0121
abbrev nsWakeCurrentCount : Nat := 0x0122
abbrev nsInputFilter : Nat := 0x0123
abbrev nsHousekeepingPeriod : Nat := 0x0124
abbrev nsHousekeepingStay : Nat := 0x0125
abbrev wktUdpPort : Nat := 0x0380
abbrev wktSessionTimeout : Nat := 0x0381
abbrev wktDeferLimit : Nat := 0x0382
abbrev wktSlipBatch : Nat := 0x0383
abbrev wktControlAllow (e : Nat) : Nat := 0x0388 + 1 * e
abbrev lnkRail (e : Nat) : Nat := 0x0800 + 16 * e
abbrev lnkBricks (e : Nat) : Nat := 0x0801 + 16 * e
abbrev lnkSweepPhase (e : Nat) : Nat := 0x0802 + 16 * e
abbrev lnkMonitorId (e : Nat) : Nat := 0x0803 + 16 * e
abbrev lnkBalanceEnable (e : Nat) : Nat := 0x0805 + 16 * e
abbrev lnkSampleMode (e : Nat) : Nat := 0x0806 + 16 * e
abbrev railSteerMode (e : Nat) : Nat := 0x1000 + 128 * e
abbrev railManualShare (e : Nat) : Nat := 0x1001 + 128 * e
abbrev railShuntScale (e : Nat) : Nat := 0x1040 + 128 * e
abbrev railHallScale (e : Nat) : Nat := 0x1041 + 128 * e
abbrev railHallOffset (e : Nat) : Nat := 0x1042 + 128 * e
abbrev loopEnable (e : Nat) : Nat := 0x1800 + 32 * e
abbrev loopSections (e : Nat) : Nat := 0x1801 + 32 * e
abbrev loopOutLimit (k : Nat) : Nat := 0x1802 + 32 * k
abbrev loopOutSlew (e : Nat) : Nat := 0x1803 + 32 * e
abbrev loopFeedback (k : Nat) : Nat := 0x1804 + 32 * k
abbrev loopReference (e : Nat) : Nat := 0x1805 + 32 * e
abbrev loopOutputDest (k : Nat) : Nat := 0x1806 + 32 * k
abbrev loopCoef (e f : Nat) : Nat := 0x180C + 32 * e + f
abbrev trsThriftSupply : Nat := 0x0141
abbrev ageReplanPeriod : Nat := 0x0201
abbrev ptpDomain : Nat := 0x0300
abbrev ptpRole : Nat := 0x0301
abbrev netPosAddr (e : Nat) : Nat := 0x0340 + 1 * e
abbrev netRoleAddr : Nat := 0x0342
abbrev canNominalRate (e : Nat) : Nat := 0x03C0 + 16 * e
abbrev canDataRate (e : Nat) : Nat := 0x03C1 + 16 * e
abbrev safPulseWidth : Nat := 0x0510
abbrev safPulsePeriod : Nat := 0x0511
abbrev siDiscrepancy (e : Nat) : Nat := 0x0520 + 1 * e
abbrev ocTripCurrent (e : Nat) : Nat := 0x0540 + 1 * e
abbrev brkOvLimit : Nat := 0x0550
abbrev brkUvLimit : Nat := 0x0551
abbrev thBrickWarning : Nat := 0x0700
abbrev thBrickThrottle : Nat := 0x0701
abbrev thBrickShutdown : Nat := 0x0702
abbrev thBrickHysteresis : Nat := 0x0703
abbrev estGlide : Nat := 0x1400
abbrev estRestDivisor : Nat := 0x1401
abbrev estRestTime : Nat := 0x1402
abbrev estFullDivisor : Nat := 0x1403
abbrev estFullTime : Nat := 0x1404
abbrev estLearnSpan : Nat := 0x1405
abbrev prfRate : Nat := 0x1A00
abbrev prfAccel : Nat := 0x1A01
abbrev prfJerk : Nat := 0x1A02
abbrev prfFramePeriod : Nat := 0x1A03
abbrev gearPosition (i : Nat) : Nat := 0x1A10 + 2 * i
abbrev gearRatio (i : Nat) : Nat := 0x1A11 + 2 * i
abbrev gearHysteresis : Nat := 0x1A20
abbrev recLearnedPeriod : Nat := 0x1B00
abbrev prgCycle : Nat := 0x1D00
abbrev brkPairMargin : Nat := 0x0552
abbrev measStackTol : Nat := 0x1420
abbrev measStackCount : Nat := 0x1421
abbrev measOwPeriod : Nat := 0x1422
abbrev measOwOnTime : Nat := 0x1423
abbrev measOwThreshold : Nat := 0x1424
abbrev measPairStep : Nat := 0x1425
abbrev measPairSumTol : Nat := 0x1426
abbrev measSeriesResDefault : Nat := 0x1427
abbrev measShuttleEfficiency : Nat := 0x1428
abbrev measRepairPasses : Nat := 0x1429
abbrev balStrategy : Nat := 0x1430
abbrev balCurrent : Nat := 0x1431
abbrev balDeadband : Nat := 0x1432
abbrev balPeriod : Nat := 0x1433
abbrev estStopVoltage : Nat := 0x1406
abbrev estFullVoltage : Nat := 0x1407
abbrev estEmptySweeps : Nat := 0x1408
abbrev estLearnStep : Nat := 0x1409
abbrev estRatedCapacity : Nat := 0x140A
abbrev estCapacityMin : Nat := 0x140B
abbrev estCapacityMax : Nat := 0x140C
abbrev estRestAnchorTol : Nat := 0x140D
abbrev estOcvMinSlope : Nat := 0x140E
abbrev estRestHold : Nat := 0x140F
abbrev estCutFilter : Nat := 0x1410
abbrev estDriftMargin : Nat := 0x1411
abbrev estDriftTime : Nat := 0x1412
abbrev estGapLimit : Nat := 0x1413
abbrev estEodLevel (i : Nat) : Nat := 0x1414 + i
abbrev estEocLevel (i : Nat) : Nat := 0x1417 + i
abbrev estWarnHyst : Nat := 0x1419
abbrev estWarnNotice : Nat := 0x141A
abbrev estWriteHoldoff : Nat := 0x141B
abbrev estHallTol : Nat := 0x141C
abbrev survEnableMask : Nat := 0x1460
abbrev survNightStart : Nat := 0x1461
abbrev survNightWindow : Nat := 0x1462
abbrev survRetry : Nat := 0x1463
abbrev survAmplitude : Nat := 0x1464
abbrev survPeriods : Nat := 0x1465
abbrev survSteadyBand : Nat := 0x1466
abbrev survCurrentLimit : Nat := 0x1467
abbrev survShareBand : Nat := 0x1468
abbrev survMinRipple : Nat := 0x1469
abbrev survPointTol : Nat := 0x146A
abbrev survFitTol : Nat := 0x146B
abbrev survMinPoints : Nat := 0x146C
abbrev survOutlier : Nat := 0x146D
abbrev survRise : Nat := 0x146E
abbrev survCaptureBuffer : Nat := 0x146F
abbrev survFreqCount : Nat := 0x1470
abbrev survHarmonic (i : Nat) : Nat := 0x1480 + i
abbrev railRatedCurrent (e : Nat) : Nat := 0x1007 + 128 * e
abbrev railTrimMismatchLimit (e : Nat) : Nat := 0x1028 + 128 * e
abbrev railTrimMismatchTime (e : Nat) : Nat := 0x1029 + 128 * e
abbrev railTrimCurrentTol (e : Nat) : Nat := 0x102A + 128 * e
abbrev tuneCaptureBuffer : Nat := 0x14C0
abbrev tuneDecimation : Nat := 0x14C1
abbrev tuneChirpStart : Nat := 0x14C2
abbrev steerShareSlew : Nat := 0x1A30
abbrev steerDirBand : Nat := 0x1A31
abbrev steerHandoverTime : Nat := 0x1A32
abbrev prfStopRate : Nat := 0x1A04
abbrev prfStopAccel : Nat := 0x1A05
abbrev prfStopJerk : Nat := 0x1A06
abbrev prfG2Derate : Nat := 0x1A07
abbrev prfPowerDeadband : Nat := 0x1A08
abbrev prfConverterEnable : Nat := 0x1A09
abbrev prfSetpointId : Nat := 0x1A0A
abbrev prfLimitsId : Nat := 0x1A0B
abbrev prfStatusId : Nat := 0x1A0C
abbrev prfStatusTimeout : Nat := 0x1A0D
abbrev secPort : Nat := 0x0488
abbrev secManagerAddr (e : Nat) : Nat := 0x0489 + 1 * e
abbrev secStreamGroup : Nat := 0x048B
abbrev secOrderTimeout : Nat := 0x048C
abbrev secStreamTimeout : Nat := 0x048D
abbrev thBrickFastBand : Nat := 0x0704
abbrev thBrickGrace : Nat := 0x0705
abbrev thThrottleFloor : Nat := 0x0706
abbrev thForceMask : Nat := 0x0707
abbrev thDieWarning : Nat := 0x0708
abbrev thDieThrottle : Nat := 0x0709
abbrev thDieShutdown : Nat := 0x070A
abbrev thDieHysteresis : Nat := 0x070B
abbrev thBoardWarning : Nat := 0x070D
abbrev thPwmFreq (e : Nat) : Nat := 0x0720 + 1 * e
abbrev thsSource (e : Nat) : Nat := 0x0740 + 6 * e
abbrev thsWarning (e : Nat) : Nat := 0x0741 + 6 * e
abbrev thsThrottle (e : Nat) : Nat := 0x0742 + 6 * e
abbrev thsShutdown (e : Nat) : Nat := 0x0743 + 6 * e
abbrev thsHysteresis (e : Nat) : Nat := 0x0744 + 6 * e
abbrev safInputKind (e : Nat) : Nat := 0x0528 + 1 * e
abbrev safInputAutoReset : Nat := 0x0530
abbrev safWeldVoltage : Nat := 0x0560
abbrev safWeldCurrent : Nat := 0x0561
abbrev safPickupTime : Nat := 0x0562
abbrev safReleaseTime : Nat := 0x0563
abbrev safWeldWindow : Nat := 0x0564
abbrev safDischargeTime : Nat := 0x0565
abbrev safPrechargeTime : Nat := 0x0566
abbrev safPrechargeRatio : Nat := 0x0567
abbrev safRailMatch : Nat := 0x0568
abbrev safEconomyDuty : Nat := 0x0569
abbrev safOpenCurrent : Nat := 0x056A
abbrev safOpenWait : Nat := 0x056B
abbrev twinReconcilePeriod : Nat := 0x044B
abbrev twinReconcileTol : Nat := 0x044C
abbrev twinPaired : Nat := 0x0451
abbrev ptpPriority1 : Nat := 0x0302
abbrev ptpPriority2 : Nat := 0x0303
abbrev ptpStepThreshold : Nat := 0x0304
abbrev ptpSlewLimit : Nat := 0x0305
abbrev ptpQualifyTime : Nat := 0x0306
abbrev ptpAnnounceTimeout : Nat := 0x0307
abbrev ptpSyncTol : Nat := 0x0308
abbrev ptpPortDiff : Nat := 0x0309
abbrev ptpPdelayLimit : Nat := 0x030A
abbrev netNetmask : Nat := 0x0343
abbrev netGateway : Nat := 0x0344
abbrev netPrpLifeCheck : Nat := 0x0347
abbrev netPrpForget : Nat := 0x0348
abbrev timeReceiptSticky : Nat := 0x0360
abbrev canNominalSp (e : Nat) : Nat := 0x03C2 + 16 * e
abbrev canDataSp (e : Nat) : Nat := 0x03C3 + 16 * e
abbrev canTriple (e : Nat) : Nat := 0x03C4 + 16 * e
abbrev canMode (e : Nat) : Nat := 0x03C5 + 16 * e
abbrev canRetryLimit (e : Nat) : Nat := 0x03C6 + 16 * e
abbrev canNodeId (e : Nat) : Nat := 0x03C7 + 16 * e
abbrev canHbProducer (e : Nat) : Nat := 0x03C8 + 16 * e
abbrev canSdoTimeout (e : Nat) : Nat := 0x03C9 + 16 * e
abbrev canProgramSlots (e : Nat) : Nat := 0x03CE + 16 * e
abbrev pdoCob (e : Nat) : Nat := 0x03E0 + 3 * e
abbrev pdoField (e : Nat) : Nat := 0x03E1 + 3 * e
abbrev pdoScale (e : Nat) : Nat := 0x03E2 + 3 * e
abbrev auxNodeId (e : Nat) : Nat := 0x0490 + 4 * e
abbrev auxHbTime (e : Nat) : Nat := 0x0491 + 4 * e
abbrev prgAutoStart : Nat := 0x1D02
abbrev prgPwmClaim : Nat := 0x1D08
abbrev prgBreakpoint (e : Nat) : Nat := 0x1D10 + 1 * e
abbrev prgRxFilter (e : Nat) : Nat := 0x1D20 + 1 * e
abbrev recMergeWindow : Nat := 0x1B02
abbrev trsPowerCap : Nat := 0x0142
abbrev trsThriftFraction : Nat := 0x0143
abbrev trsForceThrift : Nat := 0x0145
abbrev trsWeight (i : Nat) : Nat := 0x0160 + i
abbrev ageReplanRequest : Nat := 0x0202
abbrev ageHoldupTestDays : Nat := 0x0208
abbrev ageFlashTestDays : Nat := 0x0209
abbrev updLeaseTime : Nat := 0x0241
abbrev updTrialWindow : Nat := 0x0244
abbrev netServiceAddr : Nat := 0x034E
abbrev ocvTemperature (e : Nat) : Nat := 0x1500 + 128 * e
abbrev ocvPoint (e f : Nat) : Nat := 0x1501 + 128 * e + f
abbrev ocvHyst (e f : Nat) : Nat := 0x1566 + 128 * e + f

end P

/-- The writable rows of the dictionary, part 0. -/
def dictW0 : List PRow :=
  [⟨0x0110, 1, 1, 1, 0x02, .rw, 2, 2500, .span (100) (10000)⟩,
   ⟨0x0111, 1, 1, 1, 0x01, .rw, 2, 0, .span (0) (1)⟩,
   ⟨0x0112, 1, 1, 1, 0x02, .rw, 2, 600, .span (10) (3600)⟩,
   ⟨0x0113, 1, 1, 1, 0x02, .rw, 2, 0, .spanOr 0 10 10080⟩,
   ⟨0x0114, 1, 1, 1, 0x01, .rw, 2, 3, .span (0) (10)⟩,
   ⟨0x0120, 1, 1, 1, 0x02, .rw, 2, 255, .any⟩,
   ⟨0x0121, 1, 1, 1, 0x13, .rw, 2, 2000, .span (500) (50000)⟩,
   ⟨0x0122, 1, 1, 1, 0x01, .rw, 2, 3, .span (1) (20)⟩,
   ⟨0x0123, 1, 1, 1, 0x02, .rw, 2, 50, .span (10) (1000)⟩,
   ⟨0x0124, 1, 1, 1, 0x02, .rw, 2, 360, .span (60) (1440)⟩,
   ⟨0x0125, 1, 1, 1, 0x02, .rw, 2, 120, .span (30) (3600)⟩,
   ⟨0x0380, 1, 1, 1, 0x02, .co, 2, 48110, .span (1024) (65535)⟩,
   ⟨0x0381, 1, 1, 1, 0x02, .rw, 2, 10, .span (2) (300)⟩,
   ⟨0x0382, 1, 1, 1, 0x02, .rw, 2, 60, .span (1) (600)⟩,
   ⟨0x0383, 1, 1, 1, 0x02, .rw, 2, 10, .span (1) (100)⟩,
   ⟨0x0388, 1, 8, 1, 0x03, .co, 2, 0, .any⟩,
   ⟨0x0800, 16, 128, 1, 0x01, .co, 2, 255, .spanOr 255 0 7⟩,
   ⟨0x0801, 16, 128, 1, 0x01, .co, 2, 24, .list [12, 24]⟩,
   ⟨0x0802, 16, 128, 1, 0x12, .rw, 2, 0, .span (-500) (500)⟩,
   ⟨0x0803, 16, 128, 1, 0x03, .co, 2, 0, .any⟩,
   ⟨0x0804, 16, 128, 1, 0x03, .co, 2, 0, .any⟩,
   ⟨0x0805, 16, 128, 1, 0x01, .rw, 2, 1, .span (0) (1)⟩,
   ⟨0x0806, 16, 128, 1, 0x01, .rw, 2, 0, .span (0) (1)⟩,
   ⟨0x1000, 128, 8, 1, 0x01, .rw, 2, 1, .span (0) (2)⟩,
   ⟨0x1001, 128, 8, 1, 0x02, .rw, 2, 1250, .span (0) (10000)⟩,
   ⟨0x1040, 128, 8, 1, 0x21, .co, 2, 1148846080, .real 0x42C80000 0x461C4000⟩,
   ⟨0x1041, 128, 8, 1, 0x21, .co, 2, 1109393408, .real 0x3F800000 0x447A0000⟩,
   ⟨0x1042, 128, 8, 1, 0x12, .rw, 2, 0, .span (-500) (500)⟩,
   ⟨0x1800, 32, 16, 1, 0x01, .rw, 2, 0, .span (0) (1)⟩,
   ⟨0x1801, 32, 16, 1, 0x01, .rw, 2, 0, .span (0) (8)⟩,
   ⟨0x1802, 32, 8, 1, 0x21, .rw, 2, 1114636288, .real 0x00000000 0x42700000⟩,
   ⟨0x1902, 32, 8, 1, 0x21, .rw, 2, 1120403456, .real 0x00000000 0x42C80000⟩,
   ⟨0x1803, 32, 16, 1, 0x21, .rw, 2, 0, .real 0x00000000 0x447A0000⟩,
   ⟨0x1804, 32, 1, 1, 0x02, .co, 2, 256, .span (256) (256)⟩,
   ⟨0x1824, 32, 1, 1, 0x02, .co, 2, 257, .span (257) (257)⟩,
   ⟨0x1844, 32, 1, 1, 0x02, .co, 2, 258, .span (258) (258)⟩,
   ⟨0x1864, 32, 1, 1, 0x02, .co, 2, 259, .span (259) (259)⟩,
   ⟨0x1884, 32, 1, 1, 0x02, .co, 2, 260, .span (260) (260)⟩,
   ⟨0x18A4, 32, 1, 1, 0x02, .co, 2, 261, .span (261) (261)⟩,
   ⟨0x18C4, 32, 1, 1, 0x02, .co, 2, 262, .span (262) (262)⟩]

/-- The writable rows of the dictionary, part 1. -/
def dictW1 : List PRow :=
  [⟨0x18E4, 32, 1, 1, 0x02, .co, 2, 263, .span (263) (263)⟩,
   ⟨0x1904, 32, 8, 1, 0x02, .co, 2, 0, .special 4⟩,
   ⟨0x1805, 32, 16, 1, 0x21, .rw, 0, 0, .finite⟩,
   ⟨0x1806, 32, 1, 1, 0x01, .co, 2, 0, .span (0) (0)⟩,
   ⟨0x1826, 32, 1, 1, 0x01, .co, 2, 1, .span (1) (1)⟩,
   ⟨0x1846, 32, 1, 1, 0x01, .co, 2, 2, .span (2) (2)⟩,
   ⟨0x1866, 32, 1, 1, 0x01, .co, 2, 3, .span (3) (3)⟩,
   ⟨0x1886, 32, 1, 1, 0x01, .co, 2, 4, .span (4) (4)⟩,
   ⟨0x18A6, 32, 1, 1, 0x01, .co, 2, 5, .span (5) (5)⟩,
   ⟨0x18C6, 32, 1, 1, 0x01, .co, 2, 6, .span (6) (6)⟩,
   ⟨0x18E6, 32, 1, 1, 0x01, .co, 2, 7, .span (7) (7)⟩,
   ⟨0x1906, 32, 1, 1, 0x01, .co, 2, 0, .spanOr 255 0 7⟩,
   ⟨0x1926, 32, 1, 1, 0x01, .co, 2, 1, .spanOr 255 0 7⟩,
   ⟨0x1946, 32, 1, 1, 0x01, .co, 2, 2, .spanOr 255 0 7⟩,
   ⟨0x1966, 32, 1, 1, 0x01, .co, 2, 3, .spanOr 255 0 7⟩,
   ⟨0x1986, 32, 1, 1, 0x01, .co, 2, 4, .spanOr 255 0 7⟩,
   ⟨0x19A6, 32, 1, 1, 0x01, .co, 2, 5, .spanOr 255 0 7⟩,
   ⟨0x19C6, 32, 1, 1, 0x01, .co, 2, 6, .spanOr 255 0 7⟩,
   ⟨0x19E6, 32, 1, 1, 0x01, .co, 2, 7, .spanOr 255 0 7⟩,
   ⟨0x180C, 32, 16, 20, 0x22, .rw, 2, 0, .pair⟩,
   ⟨0x0141, 1, 1, 1, 0x02, .rw, 2, 1900, .span (1700) (2200)⟩,
   ⟨0x0201, 1, 1, 1, 0x02, .rw, 2, 365, .span (30) (366)⟩,
   ⟨0x0300, 1, 1, 1, 0x01, .co, 2, 0, .span (0) (255)⟩,
   ⟨0x0301, 1, 1, 1, 0x01, .co, 2, 0, .span (0) (1)⟩,
   ⟨0x0340, 1, 2, 1, 0x03, .co, 2, 0, .any⟩,
   ⟨0x0342, 1, 1, 1, 0x03, .co, 2, 0, .any⟩,
   ⟨0x03C0, 16, 2, 1, 0x03, .co, 2, 500000, .span (125000) (1000000)⟩,
   ⟨0x03C1, 16, 2, 1, 0x03, .co, 2, 2000000, .span (0) (5000000)⟩,
   ⟨0x0510, 1, 1, 1, 0x02, .sl, 2, 200, .span (100) (400)⟩,
   ⟨0x0511, 1, 1, 1, 0x02, .sl, 2, 10, .span (1) (60)⟩,
   ⟨0x0520, 1, 8, 1, 0x02, .sl, 2, 100, .span (10) (500)⟩,
   ⟨0x0540, 1, 8, 1, 0x13, .sl, 2, 480000, .span (50000) (600000)⟩,
   ⟨0x0550, 1, 1, 1, 0x02, .sl, 2, 42500, .span (20000) (50000)⟩,
   ⟨0x0551, 1, 1, 1, 0x02, .sl, 2, 25000, .span (15000) (35000)⟩,
   ⟨0x0700, 1, 1, 1, 0x12, .rw, 2, 5000, .span (3000) (7000)⟩,
   ⟨0x0701, 1, 1, 1, 0x12, .rw, 2, 5500, .span (3000) (7500)⟩,
   ⟨0x0702, 1, 1, 1, 0x12, .sl, 2, 6500, .span (4000) (8000)⟩,
   ⟨0x0703, 1, 1, 1, 0x12, .rw, 2, 300, .span (100) (1000)⟩,
   ⟨0x1400, 1, 1, 1, 0x02, .rw, 2, 30, .span (1) (240)⟩,
   ⟨0x1401, 1, 1, 1, 0x02, .rw, 2, 200, .span (50) (2000)⟩]

/-- The writable rows of the dictionary, part 2. -/
def dictW2 : List PRow :=
  [⟨0x1402, 1, 1, 1, 0x02, .rw, 2, 30, .span (5) (240)⟩,
   ⟨0x1403, 1, 1, 1, 0x02, .rw, 2, 50, .span (10) (500)⟩,
   ⟨0x1404, 1, 1, 1, 0x02, .rw, 2, 60, .span (10) (600)⟩,
   ⟨0x1405, 1, 1, 1, 0x02, .rw, 2, 4000, .span (2000) (9000)⟩,
   ⟨0x1A00, 1, 1, 1, 0x03, .rw, 2, 2000, .span (10) (20000)⟩,
   ⟨0x1A01, 1, 1, 1, 0x03, .rw, 2, 20000, .span (100) (200000)⟩,
   ⟨0x1A02, 1, 1, 1, 0x03, .rw, 2, 200000, .span (1000) (2000000)⟩,
   ⟨0x1A03, 1, 1, 1, 0x01, .rw, 2, 1, .span (1) (20)⟩,
   ⟨0x1A10, 2, 1, 1, 0x02, .co, 2, 0, .span (0) (10000)⟩,
   ⟨0x1A12, 2, 1, 1, 0x02, .co, 2, 1250, .span (0) (10000)⟩,
   ⟨0x1A14, 2, 1, 1, 0x02, .co, 2, 2500, .span (0) (10000)⟩,
   ⟨0x1A16, 2, 1, 1, 0x02, .co, 2, 3750, .span (0) (10000)⟩,
   ⟨0x1A18, 2, 1, 1, 0x02, .co, 2, 5000, .span (0) (10000)⟩,
   ⟨0x1A1A, 2, 1, 1, 0x02, .co, 2, 6250, .span (0) (10000)⟩,
   ⟨0x1A1C, 2, 1, 1, 0x02, .co, 2, 7500, .span (0) (10000)⟩,
   ⟨0x1A1E, 2, 1, 1, 0x02, .co, 2, 8750, .span (0) (10000)⟩,
   ⟨0x1A11, 2, 8, 1, 0x21, .co, 2, 1065353216, .real 0x00000000 0x40800000⟩,
   ⟨0x1A20, 1, 1, 1, 0x02, .rw, 2, 20, .span (0) (100)⟩,
   ⟨0x1B00, 1, 1, 1, 0x02, .rw, 2, 6, .span (1) (24)⟩,
   ⟨0x1D00, 1, 1, 1, 0x01, .rw, 2, 10, .span (1) (100)⟩,
   ⟨0x0552, 1, 1, 1, 0x02, .sl, 2, 1000, .span (200) (5000)⟩,
   ⟨0x1420, 1, 1, 1, 0x02, .rw, 2, 40, .span (10) (500)⟩,
   ⟨0x1421, 1, 1, 1, 0x02, .rw, 2, 20, .span (1) (1000)⟩,
   ⟨0x1422, 1, 1, 1, 0x02, .rw, 2, 10, .span (1) (600)⟩,
   ⟨0x1423, 1, 1, 1, 0x02, .rw, 2, 850, .span (850) (2000)⟩,
   ⟨0x1424, 1, 1, 1, 0x02, .rw, 2, 500, .span (200) (5000)⟩,
   ⟨0x1425, 1, 1, 1, 0x02, .rw, 2, 300, .span (50) (5000)⟩,
   ⟨0x1426, 1, 1, 1, 0x02, .rw, 2, 50, .span (10) (500)⟩,
   ⟨0x1427, 1, 1, 1, 0x02, .rw, 2, 100, .span (1) (10000)⟩,
   ⟨0x1428, 1, 1, 1, 0x21, .rw, 2, 1064011039, .real 0x3F4CCCCD 0x3F800000⟩,
   ⟨0x1429, 1, 1, 1, 0x01, .rw, 2, 3, .span (1) (10)⟩,
   ⟨0x1430, 1, 1, 1, 0x01, .rw, 2, 0, .span (0) (1)⟩,
   ⟨0x1431, 1, 1, 1, 0x02, .rw, 2, 2000, .span (100) (2000)⟩,
   ⟨0x1432, 1, 1, 1, 0x03, .rw, 2, 100, .span (10) (100000)⟩,
   ⟨0x1433, 1, 1, 1, 0x02, .rw, 2, 1000, .span (100) (10000)⟩,
   ⟨0x1406, 1, 1, 1, 0x02, .rw, 2, 28000, .span (15000) (40000)⟩,
   ⟨0x1407, 1, 1, 1, 0x02, .rw, 2, 41500, .span (30000) (50000)⟩,
   ⟨0x1408, 1, 1, 1, 0x01, .rw, 2, 3, .span (1) (100)⟩,
   ⟨0x1409, 1, 1, 1, 0x02, .rw, 2, 300, .span (50) (2000)⟩,
   ⟨0x140A, 1, 1, 1, 0x03, .co, 2, 11520000, .span (10000) (200000000)⟩]

/-- The writable rows of the dictionary, part 3. -/
def dictW3 : List PRow :=
  [⟨0x140B, 1, 1, 1, 0x02, .rw, 2, 5000, .span (2000) (10000)⟩,
   ⟨0x140C, 1, 1, 1, 0x02, .rw, 2, 12000, .span (10000) (15000)⟩,
   ⟨0x140D, 1, 1, 1, 0x02, .rw, 2, 300, .span (50) (2000)⟩,
   ⟨0x140E, 1, 1, 1, 0x02, .rw, 2, 20, .span (1) (500)⟩,
   ⟨0x140F, 1, 1, 1, 0x02, .rw, 2, 5, .span (1) (30)⟩,
   ⟨0x1410, 1, 1, 1, 0x02, .rw, 2, 60, .span (1) (600)⟩,
   ⟨0x1411, 1, 1, 1, 0x02, .rw, 2, 1000, .span (100) (5000)⟩,
   ⟨0x1412, 1, 1, 1, 0x02, .rw, 2, 10, .span (1) (600)⟩,
   ⟨0x1413, 1, 1, 1, 0x02, .rw, 2, 50, .span (10) (1000)⟩,
   ⟨0x1414, 1, 1, 1, 0x02, .rw, 2, 1000, .span (0) (5000)⟩,
   ⟨0x1415, 1, 1, 1, 0x02, .rw, 2, 500, .span (0) (5000)⟩,
   ⟨0x1416, 1, 1, 1, 0x02, .rw, 2, 200, .span (0) (5000)⟩,
   ⟨0x1417, 1, 1, 1, 0x02, .rw, 2, 9500, .span (5000) (10000)⟩,
   ⟨0x1418, 1, 1, 1, 0x02, .rw, 2, 9800, .span (5000) (10000)⟩,
   ⟨0x1419, 1, 1, 1, 0x02, .rw, 2, 100, .span (10) (1000)⟩,
   ⟨0x141A, 1, 1, 1, 0x02, .rw, 2, 292, .special 15⟩,
   ⟨0x141B, 1, 1, 1, 0x02, .rw, 2, 60, .span (10) (600)⟩,
   ⟨0x141C, 1, 1, 1, 0x02, .rw, 2, 5, .span (1) (100)⟩,
   ⟨0x1460, 1, 1, 1, 0x01, .rw, 2, 255, .any⟩,
   ⟨0x1461, 1, 1, 1, 0x02, .rw, 2, 60, .span (0) (1439)⟩,
   ⟨0x1462, 1, 1, 1, 0x02, .rw, 2, 240, .span (30) (720)⟩,
   ⟨0x1463, 1, 1, 1, 0x02, .rw, 2, 5, .span (1) (60)⟩,
   ⟨0x1464, 1, 1, 1, 0x21, .rw, 2, 1073741824, .real 0x3DCCCCCD 0x40000000⟩,
   ⟨0x1465, 1, 1, 1, 0x01, .rw, 2, 10, .span (2) (30)⟩,
   ⟨0x1466, 1, 1, 1, 0x02, .rw, 2, 10, .span (1) (100)⟩,
   ⟨0x1467, 1, 1, 1, 0x02, .rw, 2, 50, .span (5) (50)⟩,
   ⟨0x1468, 1, 1, 1, 0x02, .rw, 2, 20, .span (1) (100)⟩,
   ⟨0x1469, 1, 1, 1, 0x02, .rw, 2, 2000, .span (500) (20000)⟩,
   ⟨0x146A, 1, 1, 1, 0x02, .rw, 2, 200, .span (50) (2000)⟩,
   ⟨0x146B, 1, 1, 1, 0x02, .rw, 2, 500, .span (100) (2000)⟩,
   ⟨0x146C, 1, 1, 1, 0x01, .rw, 2, 12, .span (8) (24)⟩,
   ⟨0x146D, 1, 1, 1, 0x02, .rw, 2, 3000, .span (500) (10000)⟩,
   ⟨0x146E, 1, 1, 1, 0x02, .rw, 2, 2000, .span (500) (10000)⟩,
   ⟨0x146F, 1, 1, 1, 0x01, .co, 2, 0, .span (0) (1)⟩,
   ⟨0x1470, 1, 1, 1, 0x01, .rw, 2, 24, .span (8) (24)⟩,
   ⟨0x1480, 1, 1, 1, 0x02, .rw, 2, 1, .any⟩,
   ⟨0x1481, 1, 1, 1, 0x02, .rw, 2, 3, .any⟩,
   ⟨0x1482, 1, 1, 1, 0x02, .rw, 2, 5, .any⟩,
   ⟨0x1483, 1, 1, 1, 0x02, .rw, 2, 7, .any⟩,
   ⟨0x1484, 1, 1, 1, 0x02, .rw, 2, 11, .any⟩]

/-- The writable rows of the dictionary, part 4. -/
def dictW4 : List PRow :=
  [⟨0x1485, 1, 1, 1, 0x02, .rw, 2, 17, .any⟩,
   ⟨0x1486, 1, 1, 1, 0x02, .rw, 2, 25, .any⟩,
   ⟨0x1487, 1, 1, 1, 0x02, .rw, 2, 35, .any⟩,
   ⟨0x1488, 1, 1, 1, 0x02, .rw, 2, 53, .any⟩,
   ⟨0x1489, 1, 1, 1, 0x02, .rw, 2, 79, .any⟩,
   ⟨0x148A, 1, 1, 1, 0x02, .rw, 2, 117, .any⟩,
   ⟨0x148B, 1, 1, 1, 0x02, .rw, 2, 175, .any⟩,
   ⟨0x148C, 1, 1, 1, 0x02, .rw, 2, 259, .any⟩,
   ⟨0x148D, 1, 1, 1, 0x02, .rw, 2, 385, .any⟩,
   ⟨0x148E, 1, 1, 1, 0x02, .rw, 2, 571, .any⟩,
   ⟨0x148F, 1, 1, 1, 0x02, .rw, 2, 849, .any⟩,
   ⟨0x1490, 1, 1, 1, 0x02, .rw, 2, 1259, .any⟩,
   ⟨0x1491, 1, 1, 1, 0x02, .rw, 2, 1869, .any⟩,
   ⟨0x1492, 1, 1, 1, 0x02, .rw, 2, 2775, .any⟩,
   ⟨0x1493, 1, 1, 1, 0x02, .rw, 2, 4119, .any⟩,
   ⟨0x1494, 1, 1, 1, 0x02, .rw, 2, 6113, .any⟩,
   ⟨0x1495, 1, 1, 1, 0x02, .rw, 2, 9073, .any⟩,
   ⟨0x1496, 1, 1, 1, 0x02, .rw, 2, 13469, .any⟩,
   ⟨0x1497, 1, 1, 1, 0x02, .rw, 2, 19999, .any⟩,
   ⟨0x1007, 128, 8, 1, 0x03, .co, 2, 400000, .span (50000) (400000)⟩,
   ⟨0x1028, 128, 8, 1, 0x02, .rw, 2, 2000, .span (500) (10000)⟩,
   ⟨0x1029, 128, 8, 1, 0x02, .rw, 2, 10, .span (1) (1000)⟩,
   ⟨0x102A, 128, 8, 1, 0x02, .rw, 2, 10, .span (1) (100)⟩,
   ⟨0x14C0, 1, 1, 1, 0x01, .co, 2, 1, .span (0) (1)⟩,
   ⟨0x14C1, 1, 1, 1, 0x01, .rw, 2, 1, .span (1) (64)⟩,
   ⟨0x14C2, 1, 1, 1, 0x21, .rw, 2, 1065353216, .real 0x3A83126F 0x42C80000⟩,
   ⟨0x1A30, 1, 1, 1, 0x02, .rw, 2, 100, .span (1) (10000)⟩,
   ⟨0x1A31, 1, 1, 1, 0x02, .rw, 2, 10, .span (1) (100)⟩,
   ⟨0x1A32, 1, 1, 1, 0x02, .rw, 2, 2000, .span (100) (10000)⟩,
   ⟨0x1A04, 1, 1, 1, 0x03, .rw, 2, 4000, .span (10) (20000)⟩,
   ⟨0x1A05, 1, 1, 1, 0x03, .rw, 2, 40000, .span (100) (200000)⟩,
   ⟨0x1A06, 1, 1, 1, 0x03, .rw, 2, 400000, .span (1000) (2000000)⟩,
   ⟨0x1A07, 1, 1, 1, 0x02, .rw, 2, 5000, .span (0) (10000)⟩,
   ⟨0x1A08, 1, 1, 1, 0x02, .rw, 2, 2, .span (1) (100)⟩,
   ⟨0x1A09, 1, 1, 1, 0x01, .co, 2, 1, .span (0) (1)⟩,
   ⟨0x1A0A, 1, 1, 1, 0x02, .co, 2, 128, .span (0) (2047)⟩,
   ⟨0x1A0B, 1, 1, 1, 0x02, .co, 2, 129, .span (0) (2047)⟩,
   ⟨0x1A0C, 1, 1, 1, 0x02, .co, 2, 144, .span (0) (2047)⟩,
   ⟨0x1A0D, 1, 1, 1, 0x02, .rw, 2, 50, .span (10) (1000)⟩,
   ⟨0x0488, 1, 1, 1, 0x02, .co, 2, 48120, .span (1024) (65535)⟩]

/-- The writable rows of the dictionary, part 5. -/
def dictW5 : List PRow :=
  [⟨0x0489, 1, 2, 1, 0x03, .co, 2, 0, .any⟩,
   ⟨0x048B, 1, 1, 1, 0x03, .co, 2, 0, .spanOr 0 3758096384 4026531839⟩,
   ⟨0x048C, 1, 1, 1, 0x02, .rw, 2, 1000, .span (100) (10000)⟩,
   ⟨0x048D, 1, 1, 1, 0x02, .rw, 2, 50, .span (20) (1000)⟩,
   ⟨0x0704, 1, 1, 1, 0x12, .rw, 2, 500, .span (100) (1500)⟩,
   ⟨0x0705, 1, 1, 1, 0x02, .rw, 2, 10, .span (1) (60)⟩,
   ⟨0x0706, 1, 1, 1, 0x02, .rw, 2, 2000, .span (0) (10000)⟩,
   ⟨0x0707, 1, 1, 1, 0x01, .rw, 2, 0, .any⟩,
   ⟨0x0708, 1, 1, 1, 0x12, .rw, 2, 10500, .span (8500) (11500)⟩,
   ⟨0x0709, 1, 1, 1, 0x12, .rw, 2, 11500, .span (9500) (12000)⟩,
   ⟨0x070A, 1, 1, 1, 0x12, .rw, 2, 12500, .span (10500) (12500)⟩,
   ⟨0x070B, 1, 1, 1, 0x12, .rw, 2, 500, .span (200) (1000)⟩,
   ⟨0x070D, 1, 1, 1, 0x12, .rw, 2, 9000, .span (6000) (10000)⟩,
   ⟨0x0720, 1, 8, 1, 0x02, .rw, 2, 1000, .span (100) (25000)⟩,
   ⟨0x0740, 6, 32, 1, 0x02, .co, 2, 0, .special 6⟩,
   ⟨0x0741, 6, 32, 1, 0x12, .rw, 2, 8000, .span (-4000) (20000)⟩,
   ⟨0x0742, 6, 32, 1, 0x12, .rw, 2, 9000, .span (-4000) (20000)⟩,
   ⟨0x0743, 6, 32, 1, 0x12, .rw, 2, 11000, .span (-4000) (20000)⟩,
   ⟨0x0744, 6, 32, 1, 0x12, .rw, 2, 300, .span (100) (1000)⟩,
   ⟨0x0528, 1, 8, 1, 0x01, .sl, 2, 0, .span (0) (6)⟩,
   ⟨0x0530, 1, 1, 1, 0x01, .sl, 2, 0, .any⟩,
   ⟨0x0560, 1, 1, 1, 0x02, .sl, 2, 50, .span (10) (200)⟩,
   ⟨0x0561, 1, 1, 1, 0x02, .sl, 2, 5, .span (1) (50)⟩,
   ⟨0x0562, 1, 1, 1, 0x02, .rw, 2, 100, .span (20) (500)⟩,
   ⟨0x0563, 1, 1, 1, 0x02, .rw, 2, 100, .span (20) (500)⟩,
   ⟨0x0564, 1, 1, 1, 0x02, .rw, 2, 50, .span (10) (500)⟩,
   ⟨0x0565, 1, 1, 1, 0x02, .rw, 2, 500, .span (100) (10000)⟩,
   ⟨0x0566, 1, 1, 1, 0x02, .rw, 2, 2000, .span (100) (20000)⟩,
   ⟨0x0567, 1, 1, 1, 0x02, .rw, 2, 9500, .span (8000) (9900)⟩,
   ⟨0x0568, 1, 1, 1, 0x02, .rw, 2, 10, .span (1) (100)⟩,
   ⟨0x0569, 1, 1, 1, 0x02, .rw, 2, 600, .span (300) (1000)⟩,
   ⟨0x056A, 1, 1, 1, 0x02, .rw, 2, 10, .span (1) (100)⟩,
   ⟨0x056B, 1, 1, 1, 0x02, .rw, 2, 200, .span (10) (2000)⟩,
   ⟨0x044B, 1, 1, 1, 0x02, .rw, 2, 60, .span (10) (3600)⟩,
   ⟨0x044C, 1, 1, 1, 0x02, .rw, 2, 50, .span (10) (1000)⟩,
   ⟨0x0451, 1, 1, 1, 0x01, .co, 2, 1, .span (0) (1)⟩,
   ⟨0x0302, 1, 1, 1, 0x01, .co, 2, 128, .span (0) (255)⟩,
   ⟨0x0303, 1, 1, 1, 0x01, .co, 2, 128, .span (0) (255)⟩,
   ⟨0x0304, 1, 1, 1, 0x03, .rw, 2, 10000, .span (1000) (100000000)⟩,
   ⟨0x0305, 1, 1, 1, 0x03, .rw, 2, 50000, .span (1000) (200000)⟩]

/-- The writable rows of the dictionary, part 6. -/
def dictW6 : List PRow :=
  [⟨0x0306, 1, 1, 1, 0x02, .rw, 2, 16, .span (4) (60)⟩,
   ⟨0x0307, 1, 1, 1, 0x01, .co, 2, 3, .span (2) (10)⟩,
   ⟨0x0308, 1, 1, 1, 0x03, .rw, 2, 1000, .span (100) (100000)⟩,
   ⟨0x0309, 1, 1, 1, 0x03, .rw, 2, 2000, .span (200) (100000)⟩,
   ⟨0x030A, 1, 1, 1, 0x03, .rw, 2, 10000, .span (100) (100000)⟩,
   ⟨0x0343, 1, 1, 1, 0x03, .co, 2, 4294967040, .special 8⟩,
   ⟨0x0344, 1, 1, 1, 0x03, .co, 2, 0, .any⟩,
   ⟨0x0347, 1, 1, 1, 0x02, .co, 2, 2000, .span (100) (10000)⟩,
   ⟨0x0348, 1, 1, 1, 0x02, .co, 2, 400, .span (10) (1000)⟩,
   ⟨0x0360, 1, 1, 1, 0x01, .rw, 1, 0, .list [0]⟩,
   ⟨0x03C2, 16, 2, 1, 0x02, .co, 2, 800, .span (500) (900)⟩,
   ⟨0x03C3, 16, 2, 1, 0x02, .co, 2, 750, .span (500) (900)⟩,
   ⟨0x03C4, 16, 2, 1, 0x01, .co, 2, 0, .span (0) (1)⟩,
   ⟨0x03C5, 16, 2, 1, 0x01, .co, 2, 0, .span (0) (1)⟩,
   ⟨0x03C6, 16, 2, 1, 0x01, .rw, 2, 3, .span (0) (15)⟩,
   ⟨0x03C7, 16, 2, 1, 0x01, .co, 2, 1, .span (1) (127)⟩,
   ⟨0x03C8, 16, 2, 1, 0x02, .rw, 2, 100, .spanOr 0 10 10000⟩,
   ⟨0x03C9, 16, 2, 1, 0x02, .rw, 2, 500, .span (10) (5000)⟩,
   ⟨0x03CE, 16, 2, 1, 0x01, .co, 2, 0, .span (0) (3)⟩,
   ⟨0x03E0, 3, 32, 1, 0x03, .co, 2, 0, .any⟩,
   ⟨0x03E1, 3, 32, 1, 0x03, .co, 2, 256, .special 11⟩,
   ⟨0x03E2, 3, 32, 1, 0x22, .co, 2, 1065353216, .special 12⟩,
   ⟨0x0490, 4, 16, 1, 0x01, .co, 2, 0, .span (0) (127)⟩,
   ⟨0x0491, 4, 16, 1, 0x02, .rw, 2, 500, .span (50) (10000)⟩,
   ⟨0x1D02, 1, 1, 1, 0x01, .rw, 2, 1, .span (0) (1)⟩,
   ⟨0x1D08, 1, 1, 1, 0x01, .co, 2, 0, .any⟩,
   ⟨0x1D10, 1, 4, 1, 0x03, .rw, 0, 4294967295, .any⟩,
   ⟨0x1D20, 1, 8, 1, 0x04, .co, 2, 0, .any⟩,
   ⟨0x1B02, 1, 1, 1, 0x02, .rw, 2, 1000, .span (0) (60000)⟩,
   ⟨0x0142, 1, 1, 1, 0x02, .rw, 2, -1, .span (10) (60)⟩,
   ⟨0x0143, 1, 1, 1, 0x02, .rw, 2, 7000, .span (2000) (10000)⟩,
   ⟨0x0145, 1, 1, 1, 0x01, .rw, 0, 0, .span (0) (1)⟩,
   ⟨0x0160, 1, 1, 1, 0x01, .rw, 2, 20, .span (0) (100)⟩,
   ⟨0x0161, 1, 1, 1, 0x01, .rw, 2, 5, .span (0) (100)⟩,
   ⟨0x0162, 1, 1, 1, 0x01, .rw, 2, 15, .span (0) (100)⟩,
   ⟨0x0163, 1, 1, 1, 0x01, .rw, 2, 15, .span (0) (100)⟩,
   ⟨0x0164, 1, 1, 1, 0x01, .rw, 2, 5, .span (0) (100)⟩,
   ⟨0x0165, 1, 1, 1, 0x01, .rw, 2, 15, .span (0) (100)⟩,
   ⟨0x0166, 1, 1, 1, 0x01, .rw, 2, 20, .span (0) (100)⟩,
   ⟨0x0167, 1, 1, 1, 0x01, .rw, 2, 5, .span (0) (100)⟩]

/-- The writable rows of the dictionary, part 7. -/
def dictW7 : List PRow :=
  [⟨0x1500, 128, 6, 1, 0x12, .co, 2, 0, .span (-4000) (8000)⟩,
   ⟨0x1501, 128, 6, 101, 0x02, .co, 2, 0, .any⟩,
   ⟨0x1566, 128, 6, 21, 0x12, .co, 2, 0, .any⟩,
   ⟨0x0202, 1, 1, 1, 0x01, .rw, 0, 0, .list [1]⟩,
   ⟨0x0208, 1, 1, 1, 0x02, .rw, 2, 30, .span (7) (90)⟩,
   ⟨0x0209, 1, 1, 1, 0x02, .rw, 2, 7, .span (1) (30)⟩,
   ⟨0x0241, 1, 1, 1, 0x02, .rw, 2, 600, .span (60) (3600)⟩,
   ⟨0x0244, 1, 1, 1, 0x02, .rw, 2, 30, .span (5) (240)⟩,
   ⟨0x034E, 1, 1, 1, 0x03, .co, 2, 2852015361, .any⟩]

/-- The writable rows of the dictionary. -/
def dictW : List PRow :=
  dictW7 ++ dictW0 ++ dictW1 ++ dictW2 ++ dictW3 ++ dictW4 ++ dictW5 ++ dictW6

/-- The read-only rows of the dictionary, part 0. -/
def dictR0 : List PRow :=
  [⟨0x0010, 1, 1, 1, 0x03, .ro, 0, 0, .any⟩,
   ⟨0x0011, 1, 1, 1, 0x02, .ro, 0, 0, .any⟩,
   ⟨0x0012, 1, 1, 1, 0x02, .ro, 0, 0, .any⟩,
   ⟨0x0013, 1, 1, 1, 0x02, .ro, 0, 0, .any⟩,
   ⟨0x0014, 1, 1, 1, 0x02, .ro, 0, 0, .any⟩,
   ⟨0x0100, 1, 1, 1, 0x01, .ro, 0, 0, .any⟩,
   ⟨0x0101, 1, 1, 1, 0x01, .ro, 1, 0, .any⟩,
   ⟨0x0102, 1, 1, 1, 0x01, .ro, 0, 0, .any⟩,
   ⟨0x0103, 1, 1, 1, 0x03, .ro, 2, 0, .any⟩,
   ⟨0x0104, 1, 1, 1, 0x02, .ro, 2, 0, .any⟩,
   ⟨0x0126, 1, 1, 1, 0x02, .ro, 1, 0, .any⟩,
   ⟨0x0127, 1, 1, 1, 0x03, .ro, 1, 0, .any⟩,
   ⟨0x0390, 1, 1, 1, 0x03, .ro, 1, 0, .any⟩,
   ⟨0x0391, 1, 1, 1, 0x03, .ro, 1, 0, .any⟩,
   ⟨0x0392, 1, 1, 1, 0x03, .ro, 1, 0, .any⟩,
   ⟨0x0393, 1, 1, 1, 0x03, .ro, 1, 0, .any⟩,
   ⟨0x0394, 1, 4, 1, 0x03, .ro, 1, 0, .any⟩,
   ⟨0x0000, 1, 2, 1, 0x31, .ro, 0, 0, .any⟩,
   ⟨0x0002, 1, 1, 1, 0x03, .ro, 0, 0, .any⟩,
   ⟨0x0003, 1, 1, 1, 0x02, .ro, 0, 0, .any⟩,
   ⟨0x0004, 1, 1, 1, 0x04, .ro, 0, 0, .any⟩,
   ⟨0x0005, 1, 1, 1, 0x02, .ro, 0, 0, .any⟩,
   ⟨0x0006, 1, 1, 1, 0x01, .ro, 0, 0, .any⟩,
   ⟨0x0007, 1, 1, 1, 0x02, .ro, 0, 0, .any⟩,
   ⟨0x0008, 1, 1, 1, 0x02, .ro, 0, 0, .any⟩,
   ⟨0x0009, 1, 1, 1, 0x02, .ro, 0, 0, .any⟩,
   ⟨0x000A, 1, 1, 1, 0x01, .ro, 0, 0, .any⟩,
   ⟨0x000B, 1, 1, 1, 0x01, .ro, 0, 0, .any⟩,
   ⟨0x000C, 1, 1, 1, 0x04, .ro, 0, 0, .any⟩,
   ⟨0x0015, 1, 1, 1, 0x02, .ro, 0, 0, .any⟩,
   ⟨0x0016, 1, 1, 1, 0x02, .ro, 0, 0, .any⟩,
   ⟨0x0017, 1, 1, 1, 0x02, .ro, 0, 0, .any⟩,
   ⟨0x0018, 1, 1, 1, 0x02, .ro, 0, 0, .any⟩,
   ⟨0x0019, 1, 1, 1, 0x02, .ro, 0, 0, .any⟩,
   ⟨0x001A, 1, 1, 1, 0x02, .ro, 0, 0, .any⟩,
   ⟨0x001B, 1, 1, 1, 0x02, .ro, 0, 0, .any⟩,
   ⟨0x001C, 1, 1, 1, 0x02, .ro, 0, 0, .any⟩,
   ⟨0x0040, 1, 120, 1, 0x04, .ro, 0, 0, .any⟩,
   ⟨0x0807, 16, 128, 1, 0x01, .ro, 0, 0, .any⟩,
   ⟨0x0808, 16, 128, 1, 0x03, .ro, 1, 0, .any⟩]

/-- The read-only rows of the dictionary, part 1. -/
def dictR1 : List PRow :=
  [⟨0x0809, 16, 128, 1, 0x03, .ro, 1, 0, .any⟩,
   ⟨0x080A, 16, 128, 1, 0x02, .ro, 2, 0, .any⟩,
   ⟨0x080B, 16, 128, 1, 0x03, .ro, 0, 0, .any⟩,
   ⟨0x080C, 16, 128, 1, 0x01, .ro, 0, 0, .any⟩,
   ⟨0x080D, 16, 128, 1, 0x02, .ro, 0, 0, .any⟩,
   ⟨0x1002, 128, 8, 1, 0x02, .ro, 0, 0, .any⟩,
   ⟨0x1010, 128, 8, 1, 0x01, .ro, 0, 0, .any⟩,
   ⟨0x1020, 128, 8, 1, 0x01, .ro, 0, 0, .any⟩,
   ⟨0x1048, 128, 8, 1, 0x13, .ro, 0, 0, .any⟩,
   ⟨0x1049, 128, 8, 1, 0x03, .ro, 0, 0, .any⟩,
   ⟨0x1060, 128, 8, 1, 0x13, .ro, 0, 0, .any⟩,
   ⟨0x1061, 128, 8, 1, 0x02, .ro, 0, 0, .any⟩,
   ⟨0x1807, 32, 16, 1, 0x01, .ro, 1, 0, .any⟩,
   ⟨0x1808, 32, 16, 1, 0x21, .ro, 0, 0, .any⟩,
   ⟨0x1809, 32, 16, 1, 0x21, .ro, 0, 0, .any⟩,
   ⟨0x180A, 32, 16, 1, 0x03, .ro, 1, 0, .any⟩,
   ⟨0x180B, 32, 16, 1, 0x03, .ro, 0, 0, .any⟩,
   ⟨0x0140, 1, 1, 1, 0x01, .ro, 0, 0, .any⟩,
   ⟨0x0200, 1, 1, 1, 0x03, .ro, 2, 0, .any⟩,
   ⟨0x0480, 1, 1, 1, 0x03, .ro, 1, 0, .any⟩,
   ⟨0x0500, 1, 1, 1, 0x03, .ro, 2, 0, .any⟩,
   ⟨0x0501, 1, 1, 1, 0x03, .ro, 2, 0, .any⟩,
   ⟨0x0502, 1, 1, 1, 0x03, .ro, 0, 0, .any⟩,
   ⟨0x1B01, 1, 1, 1, 0x03, .ro, 1, 0, .any⟩,
   ⟨0x1C00, 1, 8, 1, 0x03, .ro, 1, 0, .any⟩,
   ⟨0x1C08, 1, 1, 1, 0x01, .ro, 1, 0, .any⟩,
   ⟨0x1D01, 1, 1, 1, 0x01, .ro, 0, 0, .any⟩,
   ⟨0x1440, 1, 1, 1, 0x02, .ro, 0, 0, .any⟩,
   ⟨0x1441, 1, 1, 1, 0x13, .ro, 0, 0, .any⟩,
   ⟨0x1442, 1, 1, 1, 0x13, .ro, 0, 0, .any⟩,
   ⟨0x1443, 1, 1, 1, 0x01, .ro, 0, 0, .any⟩,
   ⟨0x1444, 1, 1, 1, 0x02, .ro, 0, 0, .any⟩,
   ⟨0x1445, 1, 1, 1, 0x01, .ro, 0, 0, .any⟩,
   ⟨0x1446, 1, 1, 1, 0x03, .ro, 2, 0, .any⟩,
   ⟨0x1447, 1, 1, 1, 0x02, .ro, 0, 0, .any⟩,
   ⟨0x1043, 128, 8, 1, 0x01, .ro, 0, 0, .any⟩,
   ⟨0x1044, 128, 8, 1, 0x14, .ro, 0, 0, .any⟩,
   ⟨0x1062, 128, 8, 1, 0x13, .ro, 0, 0, .any⟩,
   ⟨0x1063, 128, 8, 1, 0x02, .ro, 1, 0, .any⟩,
   ⟨0x1064, 128, 8, 1, 0x01, .ro, 1, 0, .any⟩]

/-- The read-only rows of the dictionary, part 2. -/
def dictR2 : List PRow :=
  [⟨0x1065, 128, 8, 1, 0x02, .ro, 0, 0, .any⟩,
   ⟨0x1471, 1, 1, 1, 0x03, .ro, 2, 0, .any⟩,
   ⟨0x1472, 1, 1, 1, 0x01, .ro, 0, 0, .any⟩,
   ⟨0x1473, 1, 1, 1, 0x01, .ro, 0, 0, .any⟩,
   ⟨0x14A0, 1, 8, 1, 0x01, .ro, 2, 0, .any⟩,
   ⟨0x14A8, 1, 8, 1, 0x03, .ro, 2, 0, .any⟩,
   ⟨0x14B0, 1, 8, 1, 0x03, .ro, 2, 0, .any⟩,
   ⟨0x1003, 128, 8, 1, 0x02, .ro, 0, 0, .any⟩,
   ⟨0x1004, 128, 8, 1, 0x01, .ro, 0, 0, .any⟩,
   ⟨0x1005, 128, 8, 1, 0x13, .ro, 0, 0, .any⟩,
   ⟨0x1006, 128, 8, 1, 0x13, .ro, 0, 0, .any⟩,
   ⟨0x1008, 128, 8, 1, 0x02, .ro, 0, 0, .any⟩,
   ⟨0x1009, 128, 8, 1, 0x02, .ro, 2, 0, .any⟩,
   ⟨0x100A, 128, 8, 1, 0x02, .ro, 2, 0, .any⟩,
   ⟨0x100B, 128, 8, 1, 0x03, .ro, 2, 0, .any⟩,
   ⟨0x1021, 128, 8, 1, 0x02, .ro, 0, 0, .any⟩,
   ⟨0x1022, 128, 8, 1, 0x13, .ro, 0, 0, .any⟩,
   ⟨0x1023, 128, 8, 1, 0x13, .ro, 0, 0, .any⟩,
   ⟨0x1024, 128, 8, 1, 0x12, .ro, 0, 0, .any⟩,
   ⟨0x1025, 128, 8, 1, 0x01, .ro, 0, 0, .any⟩,
   ⟨0x1026, 128, 8, 1, 0x03, .ro, 1, 0, .any⟩,
   ⟨0x1027, 128, 8, 1, 0x03, .ro, 1, 0, .any⟩,
   ⟨0x102B, 128, 8, 1, 0x02, .ro, 2, 0, .any⟩,
   ⟨0x102C, 128, 8, 1, 0x12, .ro, 2, 0, .any⟩,
   ⟨0x102D, 128, 8, 1, 0x03, .ro, 2, 0, .any⟩,
   ⟨0x102E, 128, 8, 1, 0x03, .ro, 2, 0, .any⟩,
   ⟨0x102F, 128, 8, 1, 0x02, .ro, 2, 0, .any⟩,
   ⟨0x1030, 128, 8, 12, 0x02, .ro, 2, 0, .any⟩,
   ⟨0x14C3, 1, 1, 1, 0x01, .ro, 0, 0, .any⟩,
   ⟨0x14C4, 1, 1, 1, 0x03, .ro, 0, 0, .any⟩,
   ⟨0x14C5, 1, 1, 1, 0x03, .ro, 0, 0, .any⟩,
   ⟨0x14C6, 1, 1, 1, 0x01, .ro, 0, 0, .any⟩,
   ⟨0x14C7, 1, 1, 1, 0x01, .ro, 0, 0, .any⟩,
   ⟨0x1A21, 1, 1, 1, 0x01, .ro, 0, 0, .any⟩,
   ⟨0x1A23, 1, 1, 1, 0x13, .ro, 0, 0, .any⟩,
   ⟨0x1A24, 1, 1, 1, 0x13, .ro, 0, 0, .any⟩,
   ⟨0x1A25, 1, 1, 1, 0x13, .ro, 0, 0, .any⟩,
   ⟨0x1A26, 1, 1, 1, 0x21, .ro, 0, 0, .any⟩,
   ⟨0x1A27, 1, 1, 1, 0x21, .ro, 0, 0, .any⟩,
   ⟨0x1A28, 1, 1, 1, 0x01, .ro, 0, 0, .any⟩]

/-- The read-only rows of the dictionary, part 3. -/
def dictR3 : List PRow :=
  [⟨0x1A29, 1, 1, 1, 0x13, .ro, 0, 0, .any⟩,
   ⟨0x1A2A, 1, 1, 1, 0x13, .ro, 0, 0, .any⟩,
   ⟨0x1A2B, 1, 1, 1, 0x03, .ro, 1, 0, .any⟩,
   ⟨0x048E, 1, 1, 1, 0x03, .ro, 1, 0, .any⟩,
   ⟨0x048F, 1, 1, 1, 0x03, .ro, 1, 0, .any⟩,
   ⟨0x070C, 1, 1, 1, 0x12, .ro, 2, 0, .any⟩,
   ⟨0x0710, 1, 1, 1, 0x02, .ro, 0, 0, .any⟩,
   ⟨0x0711, 1, 1, 1, 0x13, .ro, 0, 0, .any⟩,
   ⟨0x0712, 1, 1, 1, 0x02, .ro, 0, 0, .any⟩,
   ⟨0x0713, 1, 1, 1, 0x02, .ro, 0, 0, .any⟩,
   ⟨0x0714, 1, 1, 1, 0x12, .ro, 0, 0, .any⟩,
   ⟨0x0715, 1, 1, 1, 0x02, .ro, 2, 0, .any⟩,
   ⟨0x0718, 1, 4, 1, 0x12, .ro, 0, 0, .any⟩,
   ⟨0x071C, 1, 2, 1, 0x12, .ro, 0, 0, .any⟩,
   ⟨0x0745, 6, 32, 1, 0x12, .ro, 0, 0, .any⟩,
   ⟨0x0503, 1, 1, 1, 0x02, .ro, 0, 0, .any⟩,
   ⟨0x0504, 1, 1, 1, 0x03, .ro, 0, 0, .any⟩,
   ⟨0x0505, 1, 1, 1, 0x03, .ro, 0, 0, .any⟩,
   ⟨0x0506, 1, 1, 1, 0x03, .ro, 0, 0, .any⟩,
   ⟨0x0512, 1, 1, 1, 0x03, .ro, 1, 0, .any⟩,
   ⟨0x0513, 1, 1, 1, 0x03, .ro, 1, 0, .any⟩,
   ⟨0x0514, 1, 1, 1, 0x13, .ro, 0, 0, .any⟩,
   ⟨0x0531, 1, 1, 1, 0x02, .ro, 0, 0, .any⟩,
   ⟨0x0548, 1, 8, 1, 0x21, .ro, 2, 0, .any⟩,
   ⟨0x1C09, 1, 1, 1, 0x01, .ro, 1, 0, .any⟩,
   ⟨0x1C0A, 1, 1, 1, 0x02, .ro, 1, 0, .any⟩,
   ⟨0x1C10, 1, 8, 1, 0x03, .ro, 1, 0, .any⟩,
   ⟨0x1C18, 1, 8, 1, 0x04, .ro, 1, 0, .any⟩,
   ⟨0x1C20, 1, 8, 1, 0x03, .ro, 1, 0, .any⟩,
   ⟨0x1C28, 1, 1, 1, 0x03, .ro, 1, 0, .any⟩,
   ⟨0x1C29, 1, 1, 1, 0x03, .ro, 1, 0, .any⟩,
   ⟨0x1C2A, 1, 1, 1, 0x03, .ro, 1, 0, .any⟩,
   ⟨0x1C30, 1, 6, 1, 0x02, .ro, 1, 0, .any⟩,
   ⟨0x1C40, 1, 128, 1, 0x04, .ro, 1, 0, .any⟩,
   ⟨0x0440, 1, 1, 1, 0x01, .ro, 0, 0, .any⟩,
   ⟨0x0441, 1, 1, 1, 0x01, .ro, 0, 0, .any⟩,
   ⟨0x0442, 1, 1, 1, 0x01, .ro, 0, 0, .any⟩,
   ⟨0x0443, 1, 1, 1, 0x02, .ro, 0, 0, .any⟩,
   ⟨0x0444, 1, 1, 1, 0x01, .ro, 0, 0, .any⟩,
   ⟨0x0445, 1, 1, 1, 0x02, .ro, 0, 0, .any⟩]

/-- The read-only rows of the dictionary, part 4. -/
def dictR4 : List PRow :=
  [⟨0x0446, 1, 1, 1, 0x03, .ro, 1, 0, .any⟩,
   ⟨0x0447, 1, 1, 1, 0x03, .ro, 1, 0, .any⟩,
   ⟨0x0448, 1, 1, 1, 0x03, .ro, 2, 0, .any⟩,
   ⟨0x0449, 1, 1, 1, 0x01, .ro, 2, 0, .any⟩,
   ⟨0x044A, 1, 1, 1, 0x03, .ro, 2, 0, .any⟩,
   ⟨0x044D, 1, 1, 1, 0x02, .ro, 0, 0, .any⟩,
   ⟨0x044E, 1, 1, 1, 0x01, .ro, 0, 0, .any⟩,
   ⟨0x044F, 1, 1, 1, 0x03, .ro, 1, 0, .any⟩,
   ⟨0x0450, 1, 1, 1, 0x03, .ro, 1, 0, .any⟩,
   ⟨0x0452, 1, 1, 1, 0x02, .ro, 2, 0, .any⟩,
   ⟨0x0481, 1, 1, 1, 0x01, .ro, 1, 0, .any⟩,
   ⟨0x0482, 1, 1, 1, 0x01, .ro, 1, 0, .any⟩,
   ⟨0x0483, 1, 1, 1, 0x02, .ro, 1, 0, .any⟩,
   ⟨0x0310, 1, 1, 1, 0x01, .ro, 0, 0, .any⟩,
   ⟨0x0311, 1, 1, 1, 0x01, .ro, 0, 0, .any⟩,
   ⟨0x0312, 1, 2, 1, 0x13, .ro, 0, 0, .any⟩,
   ⟨0x0314, 1, 2, 1, 0x03, .ro, 0, 0, .any⟩,
   ⟨0x0316, 1, 1, 1, 0x13, .ro, 0, 0, .any⟩,
   ⟨0x0317, 1, 1, 1, 0x04, .ro, 0, 0, .any⟩,
   ⟨0x0318, 1, 1, 1, 0x03, .ro, 0, 0, .any⟩,
   ⟨0x0319, 1, 1, 1, 0x03, .ro, 2, 0, .any⟩,
   ⟨0x031A, 1, 1, 1, 0x12, .ro, 2, 0, .any⟩,
   ⟨0x0345, 1, 2, 1, 0x01, .ro, 0, 0, .any⟩,
   ⟨0x0349, 1, 2, 1, 0x03, .ro, 1, 0, .any⟩,
   ⟨0x034B, 1, 2, 1, 0x03, .ro, 1, 0, .any⟩,
   ⟨0x034D, 1, 1, 1, 0x01, .ro, 0, 0, .any⟩,
   ⟨0x0361, 1, 3, 1, 0x03, .ro, 1, 0, .any⟩,
   ⟨0x0364, 1, 1, 1, 0x03, .ro, 1, 0, .any⟩,
   ⟨0x03CA, 16, 2, 1, 0x01, .ro, 0, 0, .any⟩,
   ⟨0x03CB, 16, 2, 1, 0x03, .ro, 0, 0, .any⟩,
   ⟨0x03CC, 16, 2, 1, 0x03, .ro, 1, 0, .any⟩,
   ⟨0x03CD, 16, 2, 1, 0x03, .ro, 1, 0, .any⟩,
   ⟨0x03CF, 16, 2, 1, 0x03, .ro, 1, 0, .any⟩,
   ⟨0x04D0, 1, 32, 1, 0x21, .ro, 0, 0, .any⟩,
   ⟨0x0492, 4, 16, 1, 0x01, .ro, 0, 0, .any⟩,
   ⟨0x0493, 4, 16, 1, 0x02, .ro, 2, 0, .any⟩,
   ⟨0x1D03, 1, 1, 1, 0x03, .ro, 1, 0, .any⟩,
   ⟨0x1D04, 1, 1, 1, 0x03, .ro, 0, 0, .any⟩,
   ⟨0x1D05, 1, 1, 1, 0x03, .ro, 0, 0, .any⟩,
   ⟨0x1D06, 1, 1, 1, 0x03, .ro, 2, 0, .any⟩]

/-- The read-only rows of the dictionary, part 5. -/
def dictR5 : List PRow :=
  [⟨0x1D07, 1, 1, 1, 0x03, .ro, 2, 0, .any⟩,
   ⟨0x1D09, 1, 1, 1, 0x02, .ro, 0, 0, .any⟩,
   ⟨0x1D0A, 1, 1, 1, 0x03, .ro, 2, 0, .any⟩,
   ⟨0x1D0B, 1, 1, 1, 0x01, .ro, 1, 0, .any⟩,
   ⟨0x1D0C, 1, 1, 1, 0x03, .ro, 1, 0, .any⟩,
   ⟨0x1D40, 1, 32, 1, 0x21, .ro, 0, 0, .any⟩,
   ⟨0x1B03, 1, 1, 1, 0x03, .ro, 1, 0, .any⟩,
   ⟨0x1B04, 1, 1, 1, 0x03, .ro, 2, 0, .any⟩,
   ⟨0x1B05, 1, 1, 1, 0x04, .ro, 2, 0, .any⟩,
   ⟨0x1B06, 1, 1, 1, 0x01, .ro, 2, 0, .any⟩,
   ⟨0x1B07, 1, 1, 1, 0x01, .ro, 0, 0, .any⟩,
   ⟨0x1B08, 1, 1, 1, 0x02, .ro, 0, 0, .any⟩,
   ⟨0x0144, 1, 1, 1, 0x01, .ro, 0, 0, .any⟩,
   ⟨0x0146, 1, 1, 1, 0x03, .ro, 0, 0, .any⟩,
   ⟨0x0147, 1, 8, 1, 0x03, .ro, 0, 0, .any⟩,
   ⟨0x014F, 1, 8, 1, 0x03, .ro, 0, 0, .any⟩,
   ⟨0x0157, 1, 8, 1, 0x03, .ro, 0, 0, .any⟩,
   ⟨0x0168, 1, 1, 1, 0x13, .ro, 0, 0, .any⟩,
   ⟨0x0169, 1, 1, 1, 0x02, .ro, 0, 0, .any⟩,
   ⟨0x016A, 1, 1, 1, 0x03, .ro, 1, 0, .any⟩,
   ⟨0x016B, 1, 1, 1, 0x03, .ro, 1, 0, .any⟩,
   ⟨0x016C, 1, 1, 1, 0x03, .ro, 2, 0, .any⟩,
   ⟨0x0180, 1, 12, 1, 0x03, .ro, 0, 0, .any⟩,
   ⟨0x018C, 1, 1, 1, 0x02, .ro, 0, 0, .any⟩,
   ⟨0x0203, 1, 1, 1, 0x04, .ro, 2, 0, .any⟩,
   ⟨0x0204, 1, 1, 1, 0x01, .ro, 2, 0, .any⟩,
   ⟨0x0205, 1, 1, 1, 0x02, .ro, 2, 0, .any⟩,
   ⟨0x0206, 1, 1, 1, 0x02, .ro, 2, 0, .any⟩,
   ⟨0x0207, 1, 1, 1, 0x03, .ro, 2, 0, .any⟩,
   ⟨0x0210, 1, 4, 1, 0x12, .ro, 2, 0, .any⟩,
   ⟨0x0214, 1, 1, 1, 0x03, .ro, 2, 0, .any⟩,
   ⟨0x0215, 1, 1, 1, 0x02, .ro, 2, 0, .any⟩,
   ⟨0x0216, 1, 1, 1, 0x03, .ro, 2, 0, .any⟩,
   ⟨0x0217, 1, 1, 1, 0x13, .ro, 2, 0, .any⟩,
   ⟨0x0218, 1, 1, 1, 0x13, .ro, 2, 0, .any⟩,
   ⟨0x0240, 1, 1, 1, 0x01, .ro, 0, 0, .any⟩,
   ⟨0x0242, 1, 1, 1, 0x03, .ro, 0, 0, .any⟩,
   ⟨0x0243, 1, 1, 1, 0x03, .ro, 0, 0, .any⟩,
   ⟨0x0245, 1, 1, 1, 0x02, .ro, 0, 0, .any⟩,
   ⟨0x0246, 1, 1, 1, 0x01, .ro, 2, 0, .any⟩]

/-- The read-only rows of the dictionary, part 6. -/
def dictR6 : List PRow :=
  [⟨0x0247, 1, 2, 1, 0x01, .ro, 2, 0, .any⟩,
   ⟨0x0249, 1, 2, 1, 0x02, .ro, 2, 0, .any⟩,
   ⟨0x024B, 1, 1, 1, 0x01, .ro, 2, 0, .any⟩,
   ⟨0x024C, 1, 1, 1, 0x01, .ro, 0, 0, .any⟩,
   ⟨0x024D, 1, 1, 1, 0x01, .ro, 0, 0, .any⟩,
   ⟨0x024E, 1, 1, 1, 0x03, .ro, 2, 0, .any⟩,
   ⟨0x024F, 1, 1, 1, 0x01, .ro, 2, 0, .any⟩,
   ⟨0x0260, 1, 1, 1, 0x01, .ro, 0, 0, .any⟩,
   ⟨0x0261, 1, 1, 1, 0x02, .ro, 0, 0, .any⟩,
   ⟨0x0262, 1, 1, 1, 0x13, .ro, 0, 0, .any⟩,
   ⟨0x0263, 1, 1, 1, 0x03, .ro, 1, 0, .any⟩,
   ⟨0x0264, 1, 1, 1, 0x03, .ro, 1, 0, .any⟩,
   ⟨0x0265, 1, 1, 1, 0x04, .ro, 2, 0, .any⟩,
   ⟨0x0266, 1, 1, 1, 0x03, .ro, 2, 0, .any⟩]

/-- The read-only rows of the dictionary. -/
def dictR : List PRow :=
  dictR0 ++ dictR1 ++ dictR2 ++ dictR3 ++ dictR4 ++ dictR5 ++ dictR6

/-- The writable row of an index, if any. -/
def wRow (i : Nat) : Option PRow := dictW.find? (fun r => r.has i)

/-- The read-only row of an index, if any. -/
def rRow (i : Nat) : Option PRow := dictR.find? (fun r => r.has i)

/-- A slot of a rail block that R175 counts as defined although no table of the manual names it. -/
def railUnnamed (i : Nat) : Bool :=
  decide (0x1000 ≤ i) && decide (i < 0x1400) &&
    (let f := i % 128
     (decide (0x10 ≤ f) && decide (f ≤ 0x1B)) || (decide (0x40 ≤ f) && decide (f ≤ 0x5B)) ||
       (decide (0x60 ≤ f) && decide (f ≤ 0x7B)))

/-- An index of the flat ranges of R161, where the manual does not say which slots are reserved. -/
def flatSlot (i : Nat) : Bool :=
  (decide (0x100 ≤ i) && decide (i < 0x800)) || (decide (0x1400 ≤ i) && decide (i < 0x1500)) ||
    (decide (0x1A00 ≤ i) && decide (i < 0x1E00))

/-- Index `i` is defined by the manual itself: named by a table, or counted by R175. -/
def listed (i : Nat) : Bool := (wRow i).isSome || (rRow i).isSome || railUnnamed i

/-- `k` elements of a list, by free choices (log 10). -/
def pickSlots : Nat → List Nat → List Nat
  | 0, _ => []
  | k + 1, l =>
    let j := Config.otherDefined k % l.length
    l.getD j 0 :: pickSlots k (l.eraseIdx j)

/-- The further flat slots that only `CAP.DEFINED_MAP` of the issue lists: as many as make 6,650 defined indices of the 7,680 (R162). -/
def otherSlots : List Nat :=
  let all := List.range 0x1E00
  pickSlots (6650 - (all.filter listed).length) (all.filter fun i => flatSlot i && !listed i)

/-- Index `i` is defined (R162). -/
def defined (i : Nat) : Bool := listed i || (flatSlot i && otherSlots.contains i)

/-- P_max of the variant in W (R72), with the -F addition. -/
def pMax (v : Variant) (fibre : Bool) : Nat :=
  (match v with | .s128A => 55 | .s128C => 49 | .s128D => 44 | .s064B => 33) + (if fibre then 2 else 0)

/-- The default of a writable parameter; `TRS.POWER_CAP` takes P_max of the variant (R613). -/
def dfltOf (id : Identity) (i : Nat) : Int :=
  if i = P.trsPowerCap then pMax id.variant id.fibre
  else match wRow i with
    | some r =>
      if r.rng = .special 12 then 0x3F800000 else r.dflt
    | none => 0

/-- `CAP.LINK_COUNT` of a variant (R49). -/
def linkCount (v : Variant) : Nat := match v with | .s064B => 64 | _ => 128

/-- `CAP.STEER_LOOPS` of a variant (R49). -/
def steerLoops (v : Variant) : Nat := match v with | .s128D => 0 | .s064B => 4 | _ => 8

/-- `CAP.CAN_COUNT` of a variant (R49). -/
def canCount (v : Variant) : Nat := match v with | .s064B => 1 | _ => 2

/-- The impedance survey unit is present (R49, R303). -/
def hasIsu (v : Variant) : Bool := decide (v = .s128A)

/-- `CAP.UNITS` (R49). -/
def capUnits (id : Identity) : Nat :=
  (match id.variant with | .s128A => 0xF | .s128C => 0xE | .s128D => 0xC | .s064B => 0x2) +
    (if id.fibre then 0x10 else 0)

/-- The absent unit a parameter belongs to (R4, R175, R177, R181, R303, R572): the bit of `CAP.UNITS`, the rail or link
(none 0xFFFFFFFF) and whether it is a link. Of the auxiliary bus R181 names `CAN[1]` and its receive filters alone: `PDO[i]`,
`AUX[s]` and `PDO.VALUE[i]` stay present where CAN controller 1 is absent (DESIGN CHOICE, log 176). -/
def absentUnit (id : Identity) (i : Nat) : Option (Nat × Nat × Bool) :=
  let v := id.variant
  if 0x800 ≤ i ∧ i < 0x1000 then
    if linkCount v ≤ (i - 0x800) / 16 then some (3, (i - 0x800) / 16, true) else none
  else if 0x1000 ≤ i ∧ i < 0x1400 then
    let r := (i - 0x1000) / 128
    let f := i % 128
    if steerLoops v ≤ r ∧ (f < 0x10 ∨ (0x20 ≤ f ∧ f < 0x40)) then some (1, r, false) else none
  else if 0x1800 ≤ i ∧ i < 0x1900 then
    if steerLoops v ≤ (i - 0x1800) / 32 then some (1, (i - 0x1800) / 32, false) else none
  else if 0x3D0 ≤ i ∧ i < 0x3E0 ∨ 0x1D24 ≤ i ∧ i < 0x1D28 then
    if canCount v ≤ 1 then some (2, 0xFFFFFFFF, false) else none
  else if 0x1460 ≤ i ∧ i < 0x14B8 then
    if hasIsu v then none else some (0, 0xFFFFFFFF, false)
  else none


end Sys2Proof.Machine
end

