-- ==== Sys2Proof/Machine/State.lean ====
section
/-! DEFINITION. The state of the block as plain data, the reasons a step can stop, and the state after reset. -/

namespace Sys2Proof.Machine

open Sys2Proof

/-- A request that waits (R141, R143): its frame, class, serving engine and the time since which it waits, ns, and the
request itself. -/
structure Deferred where
  frame : Frame := {}
  code : Nat := 0
  cls : Nat := 2
  engine : Nat := 1
  since : Nat := 0
  /-- of its message in the fabric: the epoch of the Wicket core, and the epoch it expects of the engine (R25) -/
  senderEpoch : Nat := 0
  expected : Nat := 0
  req : Instr
  deriving DecidableEq, Repr

/-- A request that waits for its sweep boundary: a checked parameter write with its entries (R166), a PARAM_READ with its indices
(R168), a FAULT_ACK with its source (R459), or a request `later` behind an earlier one of its class that waits so (R136). -/
structure PendingWrite where
  frame : Frame := {}
  code : Nat := 0
  entries : List (Nat × Int) := []
  reads : List Nat := []
  ack : Option Nat := none
  later : Option Deferred := none
  deriving DecidableEq, Repr, Inhabited

/-- The wickets (chapter 04). -/
structure Wickets where
  /-- host slots 0 to 3; 04 R132; reset empty -/
  slots : Table HostSlot := []
  /-- deferred queue of at most 32, by class then arrival; 04 R141; reset empty -/
  deferred : List Deferred := []
  /-- requests waiting for the sweep boundary, in arrival order; 04 R136, 05 R168; reset empty -/
  writes : List PendingWrite := []
  /-- requests waiting in the fabric for an engine in reset; 04 R143; reset empty -/
  fabric : List Deferred := []
  /-- the SEALED_SET_CONFIRM that waits for its Vault write and sweep boundary; 05_parameter_dictionary.md R184; reset none -/
  confirming : Option Frame := none
  /-- the RESTART cold whose write-back comes before its reply; 08_charge_estimation.md R298; reset none -/
  restarting : Option Frame := none
  /-- `WKT.FRAME_DISCARDS` u32 saturating; 04 R159; reset 0 -/
  frameDiscards : Nat := 0
  /-- `WKT.CRC_DISCARDS`; 04 R159; reset 0 -/
  crcDiscards : Nat := 0
  /-- `WKT.LENGTH_REJECTS`; 04 R159; reset 0 -/
  lengthRejects : Nat := 0
  /-- `WKT.ABORTED`; 04 R159; reset 0 -/
  aborted : Nat := 0
  deriving DecidableEq, Repr

/-- A frame or signal that the latest command sent or set, for whoever listens outside the block. -/
inductive Output where
  /-- a frame on a pack link: HOP, OPCODE, TAG, ORIGIN and payload bytes (R195 to R197); Output.lineBytes is what goes on the line -/
  | line (link hop opcode tag origin : Nat) (payload : List Nat)
  | trim (rail seq mode : Nat) (insertion : Int)
  | can (bus : Nat) (frame : CanFrame)
  | wicketReply (dest : Frame) (code : Nat) (reply : Reply)
  /-- a batch of slips of a host slot: the address and port of the session, its token, service port or uplinks, FLAGS, the slips (R147) -/
  | slips (slot addr port token : Nat) (service : Bool) (flags : Nat) (slips : List Slip)
  /-- a section frame of a KIND to a manager address: SEQ, EPOCH, STRING, POSITION, the native time in ns, and the payload as (bytes,
  value) fields (R363, R387, R388, R478); Output.sectionBytes is the datagram -/
  | sectionFrame (dest kind seq epoch str position time : Nat) (body : List (Nat × Nat))
  | mirror (sweep : Nat) (blocks : List MirrorBlock)
  | twin (request : Nat) (isReply : Bool) (args : List Int)
  | ptp (port kind seq : Nat) (args : List Int)
  | arp (ports addr : Nat) (gratuitous : Bool)
  | echo (port addr : Nat)
  /-- a PRP supervision frame on both uplinks, to 01-15-4E-00-01-00 (R500) -/
  | supervision
  | strongroom (line : Nat) (mask : Nat)
  deriving DecidableEq, Repr

/-- What a step stops on. No command of the block stops on ordinary operands: every fault is raised by the model itself. -/
inductive Fault where
  /-- A command whose operands lie outside the ranges its row can carry (WellFormed.lean refuses it). Raised by the
  meanings that check their operand list; safe: the machine stops where no such frame or event exists. -/
  | illFormed
  deriving DecidableEq, Repr

/-- Why a command has no meaning. -/
inductive Refusal where
  /-- The arm of `exec` has no meaning yet. Raised by no meaning; safe. -/
  | notModelled (mnemonic : String)
  deriving DecidableEq, Repr

/-- The whole state of the block: every register, queue, counter, mode and pin of the spec, and the queue of waiting commands. -/
structure State where
  /-- commands that wait, front first -/
  pending : List Instr := []
  /-- what the latest command sent -/
  out : List Output := []
  /-- counter that the free values are applied to (the model's own field) -/
  freeCtr : Nat := 0
  ident : Identity := {}
  power : Power := {}
  arch : Arch := {}
  modes : Modes := {}
  night : NightSafe := {}
  wk : Wickets := {}
  par : Params := {}
  links : Table Link := []
  bricks : Table Brick := []
  /-- published brick table; 01_architecture.md R42; reset every row at its defaults -/
  rows : Table Brick := []
  /-- the table of the newest whole cycle, that of `arch.readSweep`; 05 R189; reset every row at its defaults -/
  readRows : Table Brick := []
  rails : Table Rail := []
  est : Estimate := {}
  survey : Survey := {}
  loops : Table Loop := []
  trims : Table Trim := []
  steer : Steer := {}
  prof : Profile := {}
  sec : Sectionm := {}
  therm : Thermal := {}
  saf : Safety := {}
  flt : Faults := {}
  twin : Twin := {}
  time : TimeBase := {}
  net : Net := {}
  bus : Buses := {}
  prg : Program := {}
  recs : Records := {}
  trs : Treasury := {}
  age : Ageing := {}
  vault : Vault := {}
  upd : Update := {}
  deriving DecidableEq, Repr

/-- The control record of a delivered module (log 3): issue 1 confirmed in slot 0, slot 1 empty. -/
def Control.delivered : Control := { generation := 1, confirmed := 0, slotState := [3, 0], slotIssue := [1, 0] }

/-- What the Vault of a delivered module holds: the control record (log 3), the safety set of defaults written at final test
(R427), and the issue it runs (log 3); no settings, no learned values, no Ledger, no plan (R167). -/
def deliveredRecords : Table (Option VaultRec) :=
  [(0, some { generation := 1, content := .control Control.delivered }),
   (128, some { content := .safety 0 [] (List.replicate 8 9990) }),
   (384, some { generation := 1, content := .issue {} })]

/-- The module right after reset: a cold power-up at main domain power good, as delivered (R93, R100, R102). -/
def State.reset : State :=
  { vault := { records := deliveredRecords }, upd := { control := Control.delivered } }

end Sys2Proof.Machine
end

