-- ==== Sys2Proof/Machine/Upd.lean ====
section
/-! DEFINITION. One updater per part of the state: each changes its own part and nothing else. -/

namespace Sys2Proof.Machine

open Sys2Proof

/-- Change `ident`. -/
def State.modIdent (s : State) (f : Identity → Identity) : State := { s with ident := f s.ident }

/-- Change `power`. -/
def State.modPower (s : State) (f : Power → Power) : State := { s with power := f s.power }

/-- Change `arch`. -/
def State.modArch (s : State) (f : Arch → Arch) : State := { s with arch := f s.arch }

/-- Change `modes`. -/
def State.modModes (s : State) (f : Modes → Modes) : State := { s with modes := f s.modes }

/-- Change `night`. -/
def State.modNight (s : State) (f : NightSafe → NightSafe) : State := { s with night := f s.night }

/-- Change `wk`. -/
def State.modWk (s : State) (f : Wickets → Wickets) : State := { s with wk := f s.wk }

/-- Change `par`. -/
def State.modPar (s : State) (f : Params → Params) : State := { s with par := f s.par }

/-- Change `est`. -/
def State.modEst (s : State) (f : Estimate → Estimate) : State := { s with est := f s.est }

/-- Change `survey`. -/
def State.modSurvey (s : State) (f : Survey → Survey) : State := { s with survey := f s.survey }

/-- Change `steer`. -/
def State.modSteer (s : State) (f : Steer → Steer) : State := { s with steer := f s.steer }

/-- Change `prof`. -/
def State.modProf (s : State) (f : Profile → Profile) : State := { s with prof := f s.prof }

/-- Change `sec`. -/
def State.modSec (s : State) (f : Sectionm → Sectionm) : State := { s with sec := f s.sec }

/-- Change `therm`. -/
def State.modTherm (s : State) (f : Thermal → Thermal) : State := { s with therm := f s.therm }

/-- Change `saf`. -/
def State.modSaf (s : State) (f : Safety → Safety) : State := { s with saf := f s.saf }

/-- Change `flt`. -/
def State.modFlt (s : State) (f : Faults → Faults) : State := { s with flt := f s.flt }

/-- Change `twin`. -/
def State.modTwin (s : State) (f : Twin → Twin) : State := { s with twin := f s.twin }

/-- Change `time`. -/
def State.modTime (s : State) (f : TimeBase → TimeBase) : State := { s with time := f s.time }

/-- Change `net`. -/
def State.modNet (s : State) (f : Net → Net) : State := { s with net := f s.net }

/-- Change `bus`. -/
def State.modBus (s : State) (f : Buses → Buses) : State := { s with bus := f s.bus }

/-- Change `prg`. -/
def State.modPrg (s : State) (f : Program → Program) : State := { s with prg := f s.prg }

/-- Change `recs`. -/
def State.modRecs (s : State) (f : Records → Records) : State := { s with recs := f s.recs }

/-- Change `trs`. -/
def State.modTrs (s : State) (f : Treasury → Treasury) : State := { s with trs := f s.trs }

/-- Change `age`. -/
def State.modAge (s : State) (f : Ageing → Ageing) : State := { s with age := f s.age }

/-- Change `vault`. -/
def State.modVault (s : State) (f : Vault → Vault) : State := { s with vault := f s.vault }

/-- Change `upd`. -/
def State.modUpd (s : State) (f : Update → Update) : State := { s with upd := f s.upd }

/-- Change entry `i` of `links`. -/
def State.modLink (s : State) (i : Nat) (f : Link → Link) : State := { s with links := s.links.modify i f }

/-- Change entry `i` of `bricks`. -/
def State.modBrick (s : State) (i : Nat) (f : Brick → Brick) : State := { s with bricks := s.bricks.modify i f }

/-- Change entry `i` of `rows`. -/
def State.modRow (s : State) (i : Nat) (f : Brick → Brick) : State := { s with rows := s.rows.modify i f }

/-- Change entry `i` of `rails`. -/
def State.modRail (s : State) (i : Nat) (f : Rail → Rail) : State := { s with rails := s.rails.modify i f }

/-- Change entry `i` of `loops`. -/
def State.modLoop (s : State) (i : Nat) (f : Loop → Loop) : State := { s with loops := s.loops.modify i f }

/-- Change entry `i` of `trims`. -/
def State.modTrim (s : State) (i : Nat) (f : Trim → Trim) : State := { s with trims := s.trims.modify i f }

end Sys2Proof.Machine
end

