-- ==== Sys2Proof/Machine/Wire.lean ====
section
/-! DEFINITION. Frames as bytes. Wicket frames (R126 to R130, R148): the CRC-32, the header, what a frame carries, the replies and
slip frames that the module sends, and what a request's payload spells. Frames of the pack links (R195 to R199): the CRC-16, the
header, acceptance, and the payloads of the replies. -/

namespace Sys2Proof.Machine

open Sys2Proof

/-- One bit step of the reflected IEEE 802.3 polynomial. -/
def crc32Bit (c : U32) : U32 := if c.getLsbD 0 then (c >>> 1) ^^^ 0xEDB88320#32 else c >>> 1

/-- One byte into the running CRC-32. -/
def crc32Byte (c : U32) (b : Byte) : U32 :=
  (List.range 8).foldl (fun c _ => crc32Bit c) (c ^^^ b.setWidth 32)

/-- CRC-32 with the parameters of R127. -/
def crc32 (l : List Byte) : Nat := (l.foldl crc32Byte 0xFFFFFFFF#32 ^^^ 0xFFFFFFFF#32).toNat

/-- One byte into the CRC-16 of R198. -/
def crc16Byte (c : U16) (b : Byte) : U16 :=
  (List.range 8).foldl (fun c _ => if c.getLsbD 15 then (c <<< 1) ^^^ 0x1021#16 else c <<< 1) (c ^^^ (b.setWidth 16 <<< 8))

/-- The CRC-16 of R198. -/
def crc16 (l : List Byte) : Nat := (l.foldl crc16Byte 0xFFFF#16).toNat

end Sys2Proof.Machine

namespace Sys2Proof

open Sys2Proof.Machine

/-- The 24 header bytes in transmission order (R127). -/
def Frame.header (f : Frame) : List Byte :=
  leBytes 2 f.magic ++ leBytes 1 f.version ++ leBytes 1 f.kind ++ leBytes 1 f.host ++ leBytes 1 f.wicket ++ leBytes 2 f.seq
    ++ leBytes 4 f.session ++ leBytes 2 f.code ++ leBytes 1 f.priority ++ leBytes 1 f.outcome ++ leBytes 2 f.length
    ++ leBytes 2 f.epoch ++ leBytes 2 f.flags ++ leBytes 2 f.reserved

/-- What the CRC-32 covers: every byte from offset 0 to the end of the payload (R127). -/
def Frame.covered (f : Frame) : List Byte := f.header ++ f.payload

/-- The bytes of the datagram that R129 looks at; on the service port the frame length tells them (R126). -/
def Frame.bytes (f : Frame) : Nat :=
  if f.via = 2 then f.tcpLen else f.cut.getD (28 + f.payload.length)

/-- MAGIC, VERSION and KIND of a request (R129 step 1). -/
def Frame.head (f : Frame) : Bool := decide (f.magic = 0x574B) && decide (f.version = 1) && decide (f.kind = 1)

/-- The CRC-32 of the frame is right (R129 step 2). -/
def Frame.crcOk (f : Frame) : Bool := decide (f.crc = crc32 f.covered)

/-- The frame with LENGTH and CRC-32 as its payload needs them, and the frame length before it on the service port. -/
def Frame.closed (f : Frame) : Frame :=
  let f := { f with length := f.payload.length, tcpLen := if f.via = 2 then 28 + f.payload.length else 0 }
  { f with crc := crc32 f.covered }

/-- The datagram of a frame, behind its uint16 frame length on the service port (R126, R127). -/
def Frame.datagram (f : Frame) : List Byte :=
  (if f.via = 2 then leBytes 2 f.tcpLen else []) ++ f.covered ++ leBytes 4 f.crc

/-- An unsigned payload field of `n` bytes at an offset; bytes the payload does not have read as 0. -/
def Frame.field (f : Frame) (off n : Nat) : Nat := leNat ((f.payload.drop off).take n)

/-- The parameter entries behind `head` bytes of a payload (R153). -/
def Frame.entries (f : Frame) (head : Nat) : List ParamEntry :=
  (List.range ((f.payload.length - head) / 12)).map fun k =>
    let o := head + 12 * k
    { index := f.field o 2, ty := f.field (o + 2) 1, res := f.field (o + 3) 1, value := f.field (o + 4) 8 }

/-- Two frames that a host means as one request (R131); SESSION_OPEN names no session, so its address counts. -/
def Frame.sameRequest (a b : Frame) : Bool :=
  a.session == b.session && a.wicket == b.wicket && a.seq == b.seq && (a.session != 0 || (a.src == b.src && a.port == b.port))

namespace Machine

/-- The bytes of a list of (bytes, value) fields. -/
def wireBytes (l : List (Nat × Nat)) : List Byte := l.flatMap fun x => leBytes x.1 x.2

/-- The payload of a reply: that of the catalogue with DONE, else the detail block (R137, R138); none with SHORT_REPLAY (R146). -/
def Reply.body (r : Reply) : List Byte :=
  if bitOf r.flags 4 then []
  else if r.outcome = 0 then wireBytes r.payload
  else wireBytes [(2, r.detail), (2, r.fieldOffset), (4, r.arg0), (4, r.arg1), (4, r.arg2)]

/-- The frame of a reply to `f` (R123, R127): it goes back the way the request came, and echoes what names the request. -/
def Reply.frame (r : Reply) (f : Frame) (code : Nat) : Frame :=
  { src := f.src, port := f.dport, dport := f.port, via := f.via, kind := 2, host := f.host, wicket := f.wicket, seq := f.seq
    session := f.session, code := code, priority := f.priority, outcome := r.outcome, epoch := r.epoch, flags := r.flags
    payload := r.body : Frame }.closed

/-- The 32 bytes of a slip as fields (R148). -/
def Slip.fields (x : Slip) : List (Nat × Nat) :=
  [(4, x.seq), (2, x.code), (2, x.source), (6, x.time / 1000000000), (4, x.time % 1000000000), (1, x.grade), (1, 0),
   (2, x.repeats)] ++ x.args ++ [(10 - (x.args.map (·.1)).sum, 0)]

/-- The frame of a slip batch (R127, R147). What SEQ, COMMAND, PRIORITY, OUTCOME and EPOCH hold in it the spec does not say: free
values (log 183). -/
def slipFrame (slot addr dport token : Nat) (service : Bool) (flags : Nat) (l : List Slip) : Frame :=
  { src := addr, dport := dport, via := if service then 2 else 0, kind := 3, host := slot, wicket := 0xFF, session := token
    seq := Config.slipHeader 0 % 2 ^ 16, code := Config.slipHeader 1 % 2 ^ 16, priority := Config.slipHeader 2 % 256
    outcome := Config.slipHeader 3 % 256, epoch := Config.slipHeader 4 % 2 ^ 16, flags := flags
    payload := wireBytes (l.flatMap Slip.fields) : Frame }.closed

/-- The bytes that an output puts on the uplinks or the service port, where it is a wicket frame. -/
def Output.wicketBytes : Output → Option (List Byte)
  | .wicketReply f code r => some (r.frame f code).datagram
  | .slips slot addr port token service flags l => some (slipFrame slot addr port token service flags l).datagram
  | _ => none

/-! ### Pack links (R195 to R199) -/

/-- The CRC of a link frame: over header and payload with bits 7:2 of CTRL taken as 0 (R198). -/
def lineCrc (origin kind opcode tag len : Nat) (payload : List Byte) : Nat :=
  crc16 (wireBytes [(1, 2 * (origin % 2) + kind), (1, opcode), (2, tag), (1, len)] ++ payload)

/-- SYNC of the frames of an opcode (R195). -/
def lineSync (opcode : Nat) : Nat := if opcode = 0x01 then 0xB3 else 0x4D

/-- A frame in the order in which it goes on the line (R195 to R198). -/
def lineBytes (hop opcode tag origin kind : Nat) (payload : List Byte) : List Byte :=
  let n := payload.length
  [0x55, 0x55] ++ wireBytes [(1, lineSync opcode), (1, 32 * hop + 4 * (7 - hop) + 2 * (origin % 2) + kind), (1, opcode), (2, tag), (1, n)]
    ++ payload ++ leBytes 2 (lineCrc origin kind opcode tag n payload)

/-- The bytes that an output puts on a pack link. -/
def Output.lineBytes : Output → Option (List Byte)
  | .line _ hop opcode tag origin payload => some (Machine.lineBytes hop opcode tag origin 0 (payload.flatMap (leBytes 1)))
  | _ => none

/-- A node accepts the frame: the five conditions of R199. `payload` is what the frame holds between header and CRC. -/
def LineHead.accepts (x : LineHead) (kind hop opcode : Nat) (payload : List Byte) : Bool :=
  (decide (x.sync = 0xB3) || decide (x.sync = 0x4D)) && decide (hop + x.hopN = 7) && decide (x.len ≤ 64)
    && decide (x.bytes = 5 + x.len + 2) && decide (payload.length = x.len)
    && decide (x.crc = lineCrc x.origin kind opcode x.tag x.len payload)

/-- The payload of an IDENTIFY or ENUMERATE reply (R205). -/
def Found.bytes (f : Found) : List Byte :=
  wireBytes [(4, f.identity), (1, b2n f.upper), (1, f.channels), (2, f.firmware), (1, f.posA), (1, f.posB), (2, 0)]

/-- The payload of a register block (R205, READ_CONFIG and WRITE_CONFIG). -/
def regBytes (first : Nat) (regs : List Nat) : List Byte :=
  wireBytes ([(1, first), (1, regs.length)] ++ regs.map fun x => (2, x))

/-- The payload of a BALANCE reply (R254). -/
def balanceBytes (flags : Nat) (applied : List Int) (status : Nat) : List Byte :=
  wireBytes ([(1, flags), (1, 0)] ++ (applied.map fun x => (1, patI 8 x)) ++ [(2, status)])

/-- The payload of a SAMPLE reply (R208). -/
def sampleBytes (r : SampleReply) : List Byte :=
  wireBytes ((r.volt.map fun x => (2, x)) ++ [(2, r.stack)] ++ (r.therm.map fun x => (2, patI 16 x))
    ++ (r.shuttleQ.map fun x => (2, patI 16 x)) ++ [(2, r.status)])

end Machine

/-- Bytes 1 to 13 of a status frame (R337). -/
def TrimFrame.body (x : TrimFrame) : List Byte :=
  wireBytes [(1, x.kind), (1, x.seq), (1, x.state), (1, x.port), (1, x.res), (2, patI 16 x.insertion), (2, patI 16 x.current),
    (2, patI 16 x.temperature), (2, x.faults)]

/-- The module accepts a status frame (R335, R341). -/
def TrimFrame.accepts (x : TrimFrame) : Bool :=
  decide (x.sync = 0x5A) && decide (x.kind = 0x81) && decide (x.bytes = 16) && decide (x.crc = crc16 x.body)

/-- The 24 bytes before the payload of a section frame (R363). -/
def SectionFrame.header (f : SectionFrame) : List Byte :=
  wireBytes [(2, f.magic), (1, f.version), (1, f.kind), (1, f.str), (1, f.position), (2, f.seq), (4, f.epoch), (6, f.seconds),
    (4, f.nanos), (2, f.length)]

/-- The checks of R364 on the frame itself, for a KIND whose payload has these bytes: MAGIC, VERSION and CRC-32, KIND, LENGTH. -/
def SectionFrame.accepts (f : SectionFrame) (kind : Nat) (payload : List Byte) : Bool :=
  decide (f.magic = 0x4553) && decide (f.version = 1) && decide (f.kind = kind) && decide (f.length = payload.length)
    && decide (f.bytes = f.length + 28) && decide (f.crc = crc32 (f.header ++ payload))

/-- The 16 header bytes of a mirror fragment (R472). -/
def MirrorFrame.header (x : MirrorFrame) : List Byte :=
  wireBytes [(2, x.magic), (1, x.version), (1, 1), (2, x.format), (1, x.frag), (1, x.frags), (4, x.sweep), (1, x.position), (1, 0),
    (2, x.length)]

/-- MAGIC, VERSION and the CRC-32 over header and blocks pass (R472). -/
def MirrorFrame.accepts (x : MirrorFrame) : Bool :=
  decide (x.magic = 0x5754) && decide (x.version = 1) && decide (x.length = x.bytes.length) && decide (x.crc = crc32 (x.header ++ x.bytes))

namespace Machine

/-! ### Trim links (R335 to R337) -/

/-- A trim frame: its bytes after SYNC are under the CRC-16, which follows them (R335). -/
def trimBytes (sync : Nat) (body : List Byte) : List Byte := leBytes 1 sync ++ body ++ leBytes 2 (crc16 body)

/-- The bytes that an output puts on a trim link (R336). -/
def Output.trimBytes : Output → Option (List Byte)
  | .trim _ q m x => some (Machine.trimBytes 0xA5 (wireBytes [(1, 1), (1, q), (1, m), (2, patI 16 x), (2, 0)]))
  | _ => none

/-! ### Section frames (R363, R364) -/

/-- The payload bytes of an order, a master stream frame and a ruling (R365, R376, R480). -/
def orderBytes (order : Nat) (value : Int) (ack : Nat) : List Byte :=
  wireBytes [(1, order), (3, 0), (4, patI 32 value), (4, ack), (4, 0)]
def masterBytes (master : Int) (position reserved : Nat) : List Byte :=
  wireBytes [(4, patI 32 master), (2, position), (2, reserved)]
def rulingBytes (ruling active : Nat) : List Byte := wireBytes [(1, ruling), (1, active), (2, 0)]

/-- The datagram that an output sends to a manager (R363). -/
def Output.sectionBytes : Output → Option (List Byte)
  | .sectionFrame _ kind seq epoch str pos time body =>
    let f : SectionFrame := { kind := kind, str := str, position := pos, seq := seq, epoch := epoch, seconds := time / 1000000000
                              nanos := time % 1000000000, length := (wireBytes body).length }
    let d := SectionFrame.header f ++ wireBytes body
    some (d ++ leBytes 4 (crc32 d))
  | _ => none

end Machine

end Sys2Proof
end

