-- ==== Sys2Proof/Machine/Ops.lean ====
section
/-! DEFINITION. The shared operations of the module: parameter values, time stamps, CRCs, the Daybook, slips, notices,
changes of mode and role, the Vault queue, the opening demand and the lockout. -/

namespace Sys2Proof

/-- Change every listed entry of a table, keeping its form. -/
def Table.mapVals {α : Type} [Inhabited α] [DecidableEq α] (t : Table α) (f : α → α) : Table α :=
  t.foldl (fun r x => Table.set r x.1 (f x.2)) []

end Sys2Proof

namespace Sys2Proof.Machine

open Sys2Proof

/-- A meaning: `out` holds what this command sends, and nothing of the command before. -/
def run (f : State → State) (s : State) : Host.Outcome State Fault Refusal := .next (f { s with out := [] })

/-- Do `f` when `c` holds. -/
def State.when (s : State) (c : Bool) (f : State → State) : State := if c then f s else s

/-- Do `f` for every element of a list, first element first. -/
def State.forAll {α : Type} (s : State) (l : List α) (f : α → State → State) : State :=
  l.foldl (fun t a => f a t) s

/-- Put `a` into a list sorted by `le`, behind its equals. -/
def insertBy {α : Type} (le : α → α → Bool) (a : α) : List α → List α
  | [] => [a]
  | b :: t => if le b a then b :: insertBy le a t else a :: b :: t

/-- A list sorted by `le`. -/
def sortBy {α : Type} (le : α → α → Bool) (l : List α) : List α := l.foldl (fun t a => insertBy le a t) []

/-- A free value of `w` bits. -/
def State.free (s : State) (w : Nat) : Nat := Config.freeValue s.freeCtr % 2 ^ w

/-! ### Parameters in force (R165 to R169) -/

/-- The value in force of a writable parameter; one of an absent unit reads 0 (R4). -/
def State.val (s : State) (i : Nat) : Int :=
  if (absentUnit s.ident i).isSome then 0
  else match s.par.force.get i with
    | some v => v
    | none => dfltOf s.ident i

/-- The value in force as a natural number. -/
def State.nat (s : State) (i : Nat) : Nat := (s.val i).toNat

/-- The value in force as a flag. -/
def State.flag (s : State) (i : Nat) : Bool := decide (s.val i ≠ 0)

/-- The value in force of a float32 parameter, as its pattern. -/
def State.f32 (s : State) (i : Nat) : U32 := BitVec.ofInt 32 (s.val i)

/-- The exact value of a float32 parameter. -/
def State.real (s : State) (i : Nat) : Rat := f32Val (s.f32 i)

/-- Bring a value into force; the default is not listed. -/
def State.force (s : State) (i : Nat) (v : Int) : State :=
  s.modPar fun p => { p with force := p.force.set i (if v = dfltOf s.ident i then none else some v) }

/-! ### Straps, roles and links -/

/-- The string number of the straps (R62). -/
def State.stringNo (s : State) : Nat := ofIdx ((List.range 5).filter fun i => s.power.straps.sid.getD i 0 == 1)

/-- Twin position: 0 for A, 1 for B (R62). -/
def State.pos (s : State) : Nat := if s.power.straps.twposB == 1 then 1 else 0

/-- A frame on the uplinks that is no PTP frame: it carries an RCT (R499). -/
def State.carriesRct (s : State) (o : Output) : Bool := match o with
  | .wicketReply f _ _ => decide (f.via ≠ 2)
  | .slips _ _ _ _ service _ _ => !service
  | .sectionFrame .. | .arp .. | .echo .. | .supervision => true
  | _ => false

/-- The source MAC address of an Ethernet frame that the module sends (R173, R499): both uplink ports share the base, the twin link has
the base + 1 and the service port the base + 2. -/
def State.sourceMac (s : State) (o : Output) : Option Nat :=
  let mac := fun (k : Nat) => some ((s.ident.macBase + k) % 2 ^ 48)
  match o with
  | .wicketReply f _ _ => mac (if f.via = 2 then 2 else 0)
  | .slips _ _ _ _ service _ _ => mac (if service then 2 else 0)
  | .sectionFrame .. | .ptp .. | .arp .. | .echo .. | .supervision => mac 0
  | .mirror .. | .twin .. => mac 1
  | .line .. | .trim .. | .can .. | .strongroom .. => none

/-- An address of the module's subnet (R503). -/
def State.inSubnet (s : State) (a : Nat) : Bool :=
  decide (a &&& s.nat P.netNetmask = s.nat (P.netPosAddr s.pos) &&& s.nat P.netNetmask)

/-- The module sends IPv4 at all, and the address can be reached: in the subnet, or through a gateway that lies in it (R503). -/
def State.reaches (s : State) (a : Nat) : Bool :=
  decide (s.val (P.netPosAddr s.pos) ≠ 0)
    && (s.inSubnet a || (decide (s.val P.netGateway ≠ 0) && s.inSubnet (s.nat P.netGateway)))

/-- A frame to an IPv4 address of the uplinks leaves the module only where that address can be reached (R503). -/
def State.leaves (s : State) (o : Output) : Bool := match o with
  | .wicketReply f _ _ => decide (f.via = 2) || s.reaches f.src
  | .slips _ addr _ _ service _ _ => service || s.reaches addr
  | .sectionFrame dest .. => s.reaches dest
  | _ => true

/-- Send `o`; the two copies of a frame with an RCT take one sequence number (R500). -/
def State.emit (s : State) (o : Output) : State :=
  if s.leaves o then { s with
    out := s.out ++ [o]
    net := if s.carriesRct o then { s.net with rctSeq := wrapU 16 (s.net.rctSeq + 1) } else s.net }
  else s

/-- Advance the counter that the free values are applied to. -/
def State.nextFree (s : State) : State := { s with freeCtr := s.freeCtr + 1 }

/-- The module holds the active role. -/
def State.active (s : State) : Bool := decide (s.twin.role = .active)

/-- The partner counts as fitted (R477): a twin link, its standing messages, or a frame of it on a pack ring within 2 s
(the same 2 s for standing messages, log 17). -/
def State.fitted (s : State) : Bool :=
  let near := fun (t : Option Nat) => match t with | some t => decide (s.time.ns ≤ t + 2000000000) | none => false
  s.twin.linkUp || near s.twin.standingAt || near s.twin.ringAt

/-- `TWIN.LINK_STATE` (R477). -/
def State.twinState (s : State) : Nat := if !s.twin.linkUp then 0 else if 3 ≤ s.twin.silentCycles then 1 else 2

/-- Mode M5 or M6. -/
def State.onString (s : State) : Bool := decide (s.modes.mode = .m5) || decide (s.modes.mode = .m6)

/-- Modes M3 to M6. -/
def Mode.runs (m : Mode) : Bool := decide (3 ≤ m.num) && decide (m.num ≤ 6)

/-- The rail a link is assigned to, none for 0xFF (R174). -/
def State.railOf (s : State) (n : Nat) : Option Nat := if s.nat (P.lnkRail n) = 0xFF then none else some (s.nat (P.lnkRail n))

/-- Links of the variant that are assigned to a rail. -/
def State.usedLinks (s : State) : List Nat := (List.range (linkCount s.ident.variant)).filter fun n => (s.railOf n).isSome

/-- The links of rail `r`. -/
def State.linksOf (s : State) (r : Nat) : List Nat := (List.range (linkCount s.ident.variant)).filter fun n => s.railOf n == some r

/-- A rail with at least one link (R8). -/
def State.railUsed (s : State) (r : Nat) : Bool := !(s.linksOf r).isEmpty

/-- Bricks per pack monitor position 0 and 1 of a link: `LNK[n].BRICKS` (R174) is the number of bricks of the link. -/
def State.brickUsed (s : State) (b : Nat) : Bool := (s.railOf (b / 24)).isSome && decide (b % 24 < s.nat (P.lnkBricks (b / 24)))

/-- The bricks of a link. -/
def State.bricksOfLink (s : State) (n : Nat) : List Nat := (List.range (s.nat (P.lnkBricks n))).map (24 * n + ·)

/-- The bricks of a rail, rising. -/
def State.bricksOf (s : State) (r : Nat) : List Nat := (s.linksOf r).flatMap s.bricksOfLink

/-- Every brick in use, rising. -/
def State.usedBricks (s : State) : List Nat := s.usedLinks.flatMap s.bricksOfLink

/-! ### Time (R506) -/

/-- Native seconds of the time base. -/
def State.secs (s : State) : Nat := s.time.ns / 1000000000

/-- `PTP.UTC_OFFSET`-corrected seconds: UTC (R509). -/
def State.utcSecs (s : State) : Nat := ((s.secs : Int) - s.time.utcOffset).toNat

/-- Low 32 bits of the native seconds. -/
def State.sec32 (s : State) : Nat := s.secs % 2 ^ 32

/-! ### CRC-32 (R127) and CRC-16 -/

/-- The 12-byte parameter entry of R153 and R184: index, type, a reserved byte, the 64-bit value. -/
def entryBytes (i ty : Nat) (v : Int) : List Byte := leBytes 2 i ++ leBytes 1 ty ++ leBytes 1 0 ++ leBytes 8 (patI 64 v)

/-- The indices of the sealed parameters, rising (R185). -/
def sealedIdx : List Nat :=
  sortBy (fun a b => decide (a ≤ b)) ((dictW.filter fun r => r.acc = .sl).flatMap fun r =>
    (List.range r.count).flatMap fun k => (List.range r.sub).map fun j => r.base + r.stride * k + j)

/-- The type code of a writable index. -/
def tyOf (i : Nat) : Nat := match wRow i with | some r => r.ty | none => 0

/-- The CRC-32 of the entries of a safety set, in rising index order (R182). -/
def setCrcOf (value : Nat → Int) : Nat := crc32 (sealedIdx.flatMap fun i => entryBytes i (tyOf i) (value i))

/-- `SAF.SET_CRC`: that of the safety set in force (R179, R182). -/
def State.setCrc (s : State) : Nat := setCrcOf s.val

/-! ### Records of the Vault -/

/-- The record in a slot of a region. -/
def State.vrec (s : State) (region slot : Nat) : Option VaultRec := s.vault.records.get (64 * region + slot)

/-- The newest valid record of an alternating region, with its slot (R619). -/
def State.newest (s : State) (region : Nat) : Option (Nat × VaultRec) :=
  let ok (k : Nat) : Option (Nat × VaultRec) := match s.vrec region k with
    | some r => if r.valid then some (k, r) else none
    | none => none
  match ok 0, ok 1 with
  | some a, some b => if a.2.generation < b.2.generation then some b else some a
  | some a, none => some a
  | none, o => o

/-- The sealed settings of the newest valid generation (R619). -/
def State.settings (s : State) : Option Settings :=
  match s.newest 5 with
  | some (_, r) => match r.content with | .settings x _ => some x | _ => none
  | none => none

/-- The settings CRC-32 in force: that of the sealed settings, 0 with none (R170). -/
def State.settingsCrc (s : State) : Nat := match s.settings with | some x => x.crc | none => 0

/-- Queue a Vault write of an order of R620. -/
def State.queueVault (s : State) (order : Nat) : State := s.modVault fun v => { v with queued := putBit v.queued order true }

/-! ### The Daybook (R574 to R580) -/

/-- The mask ROM alone runs: in M2, and in the M1 that leads to it (R68, R641). -/
def State.inRom (s : State) : Bool := decide (s.modes.mode = .m2) || s.modes.bootExit == some .m2

/-- Write an entry of its own; the ring keeps 65,536. -/
def State.dayNew (s : State) (code arg time : Nat) : State :=
  -- the mask ROM writes no entry (R641)
  if s.inRom then s
  else s.modRecs fun r => { r with
    day := ({ time := time, code := code, arg := arg } :: r.day).take 65536
    next := wrapU 32 (r.next + 1) }

/-- Write an event entry, or a fault entry of action 2 to 4, merging it under R579. -/
def State.dayAt (s : State) (code arg time : Nat) : State :=
  let w := s.nat P.recMergeWindow * 1000000
  match s.recs.day with
  | e :: t =>
    if e.code = code ∧ e.arg = arg ∧ 0 < w ∧ (max e.time time - min e.time time) ≤ w then
      s.modRecs fun r => { r with day := { e with rep := satU 16 (e.rep + 1) } :: t }
    else s.dayNew code arg time
  | [] => s.dayNew code arg time

/-- Write an event entry stamped now. -/
def State.day (s : State) (code arg : Nat) : State := s.dayAt code arg s.time.ns

/-- The TIME_STEP entry and its EXTENSION (R578). -/
def State.dayStep (s : State) (k before : Nat) : State := (s.dayNew 0x000A k s.time.ns).dayNew 0x7FFF 0 before

/-! ### Live values of the Ledger (R584 to R587) -/

/-- The key of a Ledger record. -/
def ledKey (region rec : Nat) : Nat := 65536 * region + rec

/-- The module accumulates live values from its own rows (R586, R587). -/
def State.accrues (s : State) : Bool :=
  (s.modes.mode.runs || decide (s.modes.mode = .m7)) && (s.active || decide (s.twin.role = .coldStandby))

/-- Change a live record; one that appears takes the SINCE of all records. -/
def State.modLed (s : State) (key : Nat) (f : LedgerRec → LedgerRec) : State :=
  s.modRecs fun r => { r with live := r.live.modify key f }

/-- Add to an unsigned counter of a live record, saturating at 32 bits; the increment goes into the LEDGER block. -/
def State.ledAdd (s : State) (key off n : Nat) : State :=
  let s := s.modLed key fun r => { r with words := r.words.modify off fun x => min (x + n) (2 ^ 32 - 1) }
  s.when (s.active && s.fitted) fun s => s.modRecs fun r => { r with adds := r.adds ++ [(key, off, (n : Int))] }

/-! ### Slips (R147 to R152) -/

/-- The newest slip queued, unless it is the SLIPS_LOST slip (R149). -/
def HostSlot.newestSlip (h : HostSlot) : Option Slip :=
  match h.slips.getLast?, h.lostSlip with
  | some a, some l => if (l.seq + 2 ^ 32 - a.seq) % 2 ^ 32 < 2 ^ 31 then none else some a
  | a, none => a
  | none, some _ => none

/-- Count `1` more dropped slip in the SLIPS_LOST place (R150). -/
def HostSlot.countLost (h : HostSlot) (now : Nat) : HostSlot :=
  let n := h.lostCount + 1
  let h := { h with lostCount := n, slipLost := satU 32 (h.slipLost + 1) }
  match h.lostSlip with
  | some l => { h with lostSlip := some { l with args := [(4, satU 32 n)], unsent := true } }
  | none => { h with
      lostSlip := some { seq := h.nextSeq, code := 0x0010, time := now, args := [(4, satU 32 n)] }
      nextSeq := wrapU 32 (h.nextSeq + 1) }

/-- Queue a slip on one host slot, merging it (R149) or dropping the oldest when the queue is full (R150). -/
def HostSlot.addSlip (h : HostSlot) (code source grade now : Nat) (args : List (Nat × Nat)) : HostSlot :=
  let put (h : HostSlot) : HostSlot := { h with
    slips := h.slips ++ [{ seq := h.nextSeq, code := code, source := source, time := now, grade := grade, args := args }]
    nextSeq := wrapU 32 (h.nextSeq + 1) }
  let fresh (h : HostSlot) : HostSlot :=
    if 256 ≤ h.slips.length then (put { h with slips := h.slips.drop 1 }).countLost now else put h
  match h.newestSlip with
  | some n =>
    if n.code = code ∧ n.source = source ∧ (max n.time now - min n.time now) ≤ 1000000000 then
      { h with slips := h.slips.dropLast ++ [{ n with repeats := satU 16 (n.repeats + 1), unsent := true }] }
    else fresh h
  | none => fresh h

/-- Change host slot `i`. -/
def State.modSlot (s : State) (i : Nat) (f : HostSlot → HostSlot) : State :=
  s.modWk fun w => { w with slots := w.slots.modify i f }

/-- Host slot `i`. -/
def State.slot (s : State) (i : Nat) : HostSlot := s.wk.slots.get i

/-- Send a slip to the host slots (DEDUCED: to each of the four queues, log 12). -/
def State.slip (s : State) (code : Nat) (args : List (Nat × Nat)) (source : Nat := 0) (grade : Nat := 0xFF) : State :=
  s.forAll (List.range 4) fun i s => s.modSlot i fun h => h.addSlip code source grade s.time.ns args

/-! ### Notices, modes, roles, power states -/

/-- A frame is sent with a stamp request: its tag awaits the stamp in receipt queue `q` (R523). -/
def State.awaitStamp (s : State) (q kind number : Nat) : State :=
  s.modNet fun n => { n with receipts := n.receipts.modify q fun r => { r with awaiting := r.awaiting ++ [4096 * kind + number % 4096] } }

/-- Open a notice to the section manager (R388); only the active module sends notices. -/
def State.notice (s : State) (p1 : Bool) (cause source grade : Nat) (rail : Nat := 0xFF) (brick : Nat := 0xFFFF) : State :=
  s.when s.active fun s => s.modSec fun x => { x with
    notices := x.notices ++ [{ number := x.nextNotice, p1 := p1, cause := cause, source := source, grade := grade,
                               rail := rail, brick := brick }]
    nextNotice := if wrapU 32 (x.nextNotice + 1) = 0 then 1 else x.nextNotice + 1 }

/-- Enter a mode, with the MODE slip and Daybook entry naming the cause source (R152, R578). -/
def State.setMode (s : State) (m : Mode) (cause : Nat) : State :=
  if m = s.modes.mode then s
  else
    let old := s.modes.mode.num
    let s := s.modModes fun x => { x with mode := m }
    (s.slip 0x0002 [(1, old), (1, m.num), (2, cause)]).day 0x0002 (old + 256 * m.num + 65536 * cause)

/-- The number of a role in `TWIN.ROLE`. -/
def Role.num : Role → Nat
  | .none => 0 | .active => 1 | .standby => 2 | .coldStandby => 3

/-- Take a role, with the ROLE slip and Daybook entry (R152, R578). -/
def State.setRole (s : State) (r : Role) : State :=
  if r = s.twin.role then s
  else
    let s := s.modTwin fun x => { x with role := r }
    (s.slip 0x0006 [(1, r.num), (4, s.sec.epoch)]).day 0x0004 (r.num + 256 * (s.sec.epoch % 2 ^ 24))

/-- Take a power state, with its slip and Daybook entry (R599). -/
def State.setPower (s : State) (p : Nat) : State :=
  if p = s.trs.state then s
  else
    let old := s.trs.state
    let s := s.modTrs fun t => { t with state := p }
    (s.slip 0x0005 [(1, old), (1, p)]).day 0x0003 (old + 256 * p)

/-- Take a program state, with the PROGRAM_STATE slip (R152, R557). -/
def State.setProgram (s : State) (n : Nat) : State :=
  let old := s.prg.state
  let s := s.modPrg fun p => { p with state := n }
  s.slip 0x0013 [(1, old), (1, n), (2, satU 16 s.prg.overruns)]

/-- Stop the program by an event (R561); its outputs keep their last values, and a cycle in progress writes none. -/
def State.stopProgram (s : State) (cause : Nat) : State :=
  if s.prg.state = 0 then s
  else (s.setProgram 0).modPrg fun p => { p with
    stopCause := cause, pending := 0, exchange := 0, executing := false, overrun := false, skip := false }

/-! ### Opening every coil path (R410, R380, R431, R437) -/

/-- Strongroom opens and disarms every H-switch; the line and the switches alone (R413, R414). -/
def State.openH (s : State) : State := s.modSaf fun x => { x with hClosed := 0, hArmed := 0 }

/-- An off-pulse under way is aborted by a demand (R431). -/
def State.abortPulse (s : State) : State :=
  if s.saf.pulse.isSome then
    s.modSaf fun x => { x with pulse := none, permit := none, pulseAborts := satU 32 (x.pulseAborts + 1) }
  else s

/-- A close or weld-check sequence ends as failed: every path opened, DISARM, CLOSE_RESULT with the source (R437). -/
def State.failClose (s : State) (source : Nat) : State :=
  if s.saf.close.isSome then
    let s := s.modSaf fun x => { x with
      close := none, coil := 0, keep := 0, chopping := 0 }
    (s.emit (.strongroom 0x5AA5 0)).slip 0x000E [(1, 1), (2, source)]
  else s

/-- The set-point is 0 at once and the pending slot is cleared; the next frame carries MODE 2 (R380). -/
def State.tripProfile (s : State) (source : Nat) : State :=
  s.modProf fun p => { p with
    i := 0, v := 0, a := 0, target := 0, moving := false, pendingOrder := none, stopRamp := none, openWait := false
    stopCause := if p.tripFrame && decide (p.stopCause ≠ 0) then min p.stopCause source
                 else if s.saf.opening.isSome then p.stopCause else source
    tripFrame := true }

/-- Every coil path of the module opens (R410): keep signals stop, a trip request goes to Strongroom, the set-point is 0. -/
def State.openAll (s : State) (source : Nat) : State :=
  let s := s.abortPulse
  let s := s.failClose source
  let s := s.tripProfile source
  let s := s.modSaf fun x => { x with
    coil := 0, keep := 0, chopping := 0, hClosed := 0, hArmed := 0, opening := none, tripReq := true
    leftOpen := 0 }
  s.emit (.strongroom 0xA5C3 0)

/-- A controlled stop: the stop ramp replaces the move and the pending slot (R379). -/
def State.startStop (s : State) (source : Nat) : State :=
  if s.prof.stopRamp == some true || s.prof.openWait || s.saf.opening.isSome then s
  else s.modProf fun p => { p with
    stopRamp := some true, target := 0, moving := true, pendingOrder := none, stopCause := source }

/-- A STOP or a G3 fault: it ends a close sequence (R437), or starts the stop ramp in M5 and M6 (R379, R454). -/
def State.stopAny (s : State) (source : Nat) : State :=
  if s.saf.close.isSome then s.failClose source
  else if s.onString && s.active then s.startStop source else s

/-- A Dormant entry in progress is abandoned, and the slip names the cause (R94). -/
def State.abandonDormant (s : State) (cause : Nat) : State :=
  if s.modes.dormantEntry then
    (s.modModes fun m => { m with dormantEntry := false, dormantSealed := false }).slip 0x0008 [(2, cause)]
  else s

/-- A re-plan is abandoned (R611): it is made again when its conditions next hold, and `AGE.REPLAN_REQUEST` reads 0 unless
another request waits. -/
def State.abandonPlan (s : State) : State := match s.age.running with
  | some p => s.modAge fun a => { a with
      running := none, trigger := if a.trigger = 0 then p.cause else a.trigger, request := a.request && decide (a.trigger = 6) }
  | none => s

/-- A Vault write stops without its seal (R621): it is counted and written into the Daybook. -/
def State.abandonWrite (s : State) (cause : Nat) : State :=
  let one := fun (o : Option Writing) (s : State) => match o with
    | some w =>
      let s := s.modUpd fun u => { u with broken := u.broken || decide (w.order = 8) || decide (w.order = 9) }
      let s := s.when (decide (w.order = 6)) State.abandonPlan
      (s.modVault fun v => { v with abandoned := satU 32 (v.abandoned + 1) }).day 0x0041 (w.region + 256 * cause)
    | none => s
  let a := s.vault.writing
  let b := s.vault.yielded
  one b (one a (s.modVault fun v => { v with writing := none, yielded := none }))

/-- The write under way is abandoned; a Ledger write leaves a LEDGER_WRITE entry (R589, R621). -/
def State.giveUp (s : State) (cause : Nat) : State :=
  let ledger := s.vault.writing.any fun (w : Writing) => decide (w.order = 7)
  let s := s.abandonWrite cause
  if ledger then s.day 0x000F (1 + 256 * ((s.recs.due.map (·.1)).getD 1)) else s

/-- What an abandoned write was to seal falls due again (DEDUCED, log 172). -/
def State.dueAgain (s : State) (w : Writing) : State :=
  let s := s.modVault fun v => { v with lockouts := match w.order, w.content with
    | 1, .lockout e => e :: v.lockouts
    | _, _ => v.lockouts }
  if w.order ≤ 5 then s.queueVault w.order
  else if w.order = 7 then (s.modRecs fun r => { r with pending := true }).queueVault 7
  else s

/-- What a lockout does to the Vault write under way (R404, R589): a thermal shutdown abandons a write of the kinds R404
names, and TH.12 any write, and holds every other write back; otherwise a Ledger write alone is abandoned. The abandoned
write is queued again. -/
def State.lockoutVault (s : State) (source : Nat) : State :=
  let order := match s.vault.writing with | some w => w.order | none => 0
  let begun := match s.vault.writing with
    | some w => decide (2 ≤ w.phase) && [2, 4, 5, 7].contains w.order
    | none => false
  let thermal := decide (source / 256 = 2)
  let s := s.when thermal fun s => s.modTherm fun t => { t with shutdownCause := source }
  if thermal && (begun || decide (source = 0x020C)) then
    let s := s.modTherm fun t => { t with vaultHeld := true }
    match s.vault.writing with
    | some w => ((s.giveUp 1).dueAgain w).queueVault w.order
    | none => s
  else if order = 7 then (s.giveUp 2).queueVault 7
  else s

/-- The effective grade of an instance: its own, plus 1 when escalated, capped at G4 (R458); G5 is not reached so (R455). -/
def FaultInst.grade (i : FaultInst) : Nat := if i.escalated && decide (i.raised < 4) then i.raised + 1 else i.raised

/-- The lower word of `FLT.PRESENT[i]` and of `FLT.LATCH[c]` (R465). -/
def FaultInst.word (i : FaultInst) (cleared : Bool) : Nat :=
  b2n i.acked * 2 ^ 31 + b2n cleared * 2 ^ 25 + b2n (i.cond && !cleared) * 2 ^ 24 + i.raised * 2 ^ 21
    + b2n i.escalated * 2 ^ 20 + b2n i.signal * 2 ^ 19 + i.grade * 2 ^ 16 + i.source

/-- `FLT.PRESENT[i]` (R466). -/
def Faults.presentAt (x : Faults) (i : Nat) : Nat := match x.slots.getD i none with
  | some j => j.item * 2 ^ 32 + j.word false
  | none => 0

/-- A Lockout log entry of now (R625). -/
def State.lockEntry (s : State) (kind source item : Nat) : LockEntry :=
  { kind := kind, mode := s.modes.mode.num, source := source, item := item, time := s.time.ns, settingsCrc := s.settingsCrc
    setCrc := s.setCrc, present := (List.range (min 128 s.flt.slots.length)).map s.flt.presentAt }

/-- Entry to M7 (R119): both latches, the writes in their order, balancing and the program stopped (R122, R251, R258). -/
def State.lockout (s : State) (source item : Nat) : State :=
  let entry := s.lockEntry 1 source item
  let s := (s.abandonDormant source).modModes fun m => { m with
    latchStrong := true, latchNight := true, lockoutPending := some source, bootExit := none, stopDue := true }
  let s := (s.lockoutVault source).modVault fun v => { v with lockouts := v.lockouts ++ [entry] }
  let s := ((s.queueVault 1).queueVault 5).queueVault 7
  let s := s.modRecs fun r => { r with due := some (2, s.time.ns), pending := true }
  (s.stopProgram 3).setMode .m7 source

/-- A G5 fault (R119, R93): from M3 to M6 the module enters M7; elsewhere the latches alone are set. -/
def State.enterLockout (s : State) (source item : Nat) : State :=
  if s.modes.mode.runs then s.lockout source item
  else s.modModes fun m => { m with latchStrong := true, latchNight := true }

/-! ### What a CAN controller holds (R531, R538) -/

/-- Some frame of the controller is on the bus. -/
def Can.busy (c : Can) : Bool := c.slot0.onBus || c.slot1.onBus || c.fifoOnBus

/-- The frames that a controller holds. -/
def Can.count (c : Can) : Nat :=
  c.fifo.length + b2n c.slot0.frame.isSome + b2n c.slot1.frame.isSome + b2n c.slot0.held.isSome + b2n c.slot1.held.isSome

/-- The FIFO and both slots empty; `dropped` frames are counted. -/
def Can.emptied (c : Can) (dropped : Nat) : Can := { c with
  fifo := [], fifoOnBus := false, attempts := 0, slot0 := {}, slot1 := {}, txDrops := satU 32 (c.txDrops + dropped) }

/-- The controller leaves normal mode: all that waits is removed, and the frame on the bus stays until it completes (R538). -/
def Can.released (c : Can) : Can :=
  let keep := fun (x : CanSlot) => if x.onBus then { x with held := none } else {}
  { c.emptied (c.count - b2n c.busy) with
    slot0 := keep c.slot0, slot1 := keep c.slot1, fifo := if c.fifoOnBus then c.fifo.take 1 else [], fifoOnBus := c.fifoOnBus }

end Sys2Proof.Machine
end

