-- ==== Sys2Proof/Machine/Flags.lean ====
section
/-! DEFINITION. The fault collector (chapter 14): raising, escalation, latching, clearing and acknowledging of fault
instances, and the action of each grade. -/

namespace Sys2Proof.Machine

open Sys2Proof

/-- A fault source code: class and the two decimal digits (R450). -/
def src (cls digits : Nat) : Nat := 256 * cls + digits

/-- The item of R451. -/
def item (kind number : Nat) (detail : Nat := 0xFF) : Nat := kind * 2 ^ 24 + detail * 2 ^ 16 + number

/-- An item that names nothing. -/
def noItem : Nat := item 0 0

/-- The item of a monitor position (and line, channel or thermistor) of a link. -/
def itemLink (link : Nat) (pos : Nat := 0xF) (line : Nat := 0xF) : Nat := item 1 link (16 * pos + line)

/-- The same source, item and signal. -/
def FaultInst.same (i : FaultInst) (source item : Nat) (signal : Bool) : Bool :=
  decide (i.source = source) && decide (i.item = item) && decide (i.signal = signal)

/-- The present instance of a source and item, if any. -/
def State.instOf (s : State) (source item : Nat) (signal : Bool := false) : Option FaultInst :=
  s.flt.present.find? fun i => i.same source item signal

/-- A source is present with some item. -/
def State.hasFault (s : State) (source : Nat) : Bool := s.flt.present.any fun i => decide (i.source = source)

/-- The highest grade present, none with no fault present (R455). -/
def State.worst (s : State) : Option Nat :=
  s.flt.present.foldl (fun m i => some (max (m.getD 0) i.grade)) none

/-- Some fault of at least grade `g` is present. -/
def State.faultAt (s : State) (g : Nat) : Bool := s.flt.present.any fun i => decide (g ≤ i.grade)

/-- Change the present instances of a source and item, and with them the latch that holds one (R457, R465). -/
def State.modInst (s : State) (source item : Nat) (signal : Bool) (f : FaultInst → FaultInst) : State :=
  let g := fun i : FaultInst => if i.same source item signal then f i else i
  s.modFlt fun x => { x with
    present := x.present.map g
    latches := x.latches.modify (source / 256) fun o => match o with
      | some l => if l.cleared then some l else some { l with inst := g l.inst }
      | none => none }

/-- The ARG of a fault entry (R577); SI.10 to SI.27 carry the kind of their input when raised. -/
def State.faultArg (s : State) (i : FaultInst) (raise : Bool) : Nat :=
  let d := i.source - src 3 10
  let detail := if raise && decide (src 3 10 ≤ i.source) && decide (i.source ≤ src 3 27) && decide (d % 10 < 8)
    then s.nat (P.safInputKind (d % 10)) else i.item / 2 ^ 16 % 256
  i.grade * 2 ^ 29 + b2n i.escalated * 2 ^ 28 + i.item / 2 ^ 24 % 16 * 2 ^ 24 + detail * 2 ^ 16 + i.item % 2 ^ 16

/-- The CODE of a fault entry (R576). -/
def FaultInst.code (i : FaultInst) (action : Nat) : Nat := 0x8000 + action * 2 ^ 12 + b2n i.signal * 2 ^ 11 + i.source % 2 ^ 11

/-- A regraded, cleared or acknowledged entry (R576). -/
def State.dayFault (s : State) (i : FaultInst) (action : Nat) : State := s.day (i.code action) (s.faultArg i false)

/-- The raise entry of an instance (action 0), or its renewed one (action 1); it becomes the instance's newest (R580). -/
def State.dayRaise (s : State) (i : FaultInst) (action : Nat) : State :=
  let n := s.recs.next
  let s := s.dayNew (i.code action) (s.faultArg i true) s.time.ns
  let key := i.source + 2 ^ 15 * b2n i.signal
  s.modRecs fun r => { r with raises := (key, i.item, n) :: r.raises.filter fun e => !(e.1 == key && e.2.1 == i.item) }

/-- The repeated raise of a present instance: REPEAT of its newest raise entry, or a new entry of action 1 (R580). -/
def State.dayRepeat (s : State) (i : FaultInst) : State :=
  let key := i.source + 2 ^ 15 * b2n i.signal
  match s.recs.raises.find? fun e => e.1 == key && e.2.1 == i.item with
  | some e =>
    let back := (s.recs.next + 2 ^ 32 - 1 - e.2.2) % 2 ^ 32
    if back < s.recs.day.length then
      s.modRecs fun r => { r with day := updAt r.day back fun d => { d with rep := satU 16 (d.rep + 1) } }
    else s.dayRaise i 1
  | none => s.dayRaise i 1

/-- The action of a grade on the module (R454): notices, the controlled stop, the trip, the lockout. -/
def State.gradeAction (s : State) (source item grade : Nat) (raisedAtStart : Bool) : State :=
  let s := s.when (decide (grade = 2)) fun s => s.notice true 2 source grade
  let s := s.when (decide (3 ≤ grade)) fun s => s.notice false 2 source grade
  let s := s.when (decide (grade = 3)) fun s => s.stopAny source
  let s := s.when (decide (4 ≤ grade) && !raisedAtStart) fun s => s.openAll source
  s.when (decide (5 ≤ grade)) fun s => s.enterLockout source item

/-- List a new instance in `FLT.PRESENT` (R466): at the end, or in place of the oldest listed instance of the lowest grade
below its own; else it stays unlisted. -/
def State.listInst (s : State) (i : FaultInst) : State :=
  let slots := if s.flt.slots.length < 128 then s.flt.slots else s.flt.slots.filter Option.isSome
  if slots.length < 128 then
    s.modFlt fun x => { x with present := x.present ++ [i], slots := slots ++ [some i] }
  else
    let full := satU 32 (s.flt.listOverflow + 1)
    let low := (s.flt.present.filter fun j => j.listed && decide (j.grade < i.grade)).foldl
      (fun (m : Option FaultInst) j => match m with
        | some a => if j.grade < a.grade then some j else some a
        | none => some j) none
    match low with
    | some v => s.modFlt fun x => { x with
        present := (x.present.map fun j => if j.same v.source v.item v.signal then { j with listed := false } else j) ++ [i]
        slots := slots.map fun o => match o with
          | some j => if j.same v.source v.item v.signal then some i else some j
          | none => none
        listOverflow := full }
    | none => s.modFlt fun x => { x with present := x.present ++ [{ i with listed := false }], listOverflow := full }

/-- A new instance is raised (R456 to R458). -/
def State.raiseNew (s : State) (source item grade : Nat) (single signal atStart : Bool) : State :=
  let c := source / 256
  let latch := s.flt.latches.get c
  let unacked := match latch with | some l => !l.inst.acked | none => false
  let esc := decide (1 ≤ grade) && decide (grade ≤ 3) && unacked
  let i : FaultInst := { source := source, item := item, signal := signal, raised := grade, escalated := esc, cond := !single }
  let s := s.when esc fun s => s.modFlt fun x => { x with escalations := satU 32 (x.escalations + 1) }
  let s := s.when (decide (1 ≤ grade)) fun s => s.modFlt fun x =>
    if latch.isSome then { x with overflow := putBit x.overflow c true }
    else { x with latches := x.latches.set c (some { inst := i, time := s.time.ns }) }
  let s := s.listInst i
  let s := s.dayRaise i 0
  -- TRIPS of the module record (R585)
  let s := s.when (decide (4 ≤ i.grade) && s.accrues) fun s => s.ledAdd (ledKey 3 0) 148 1
  let s := s.slip 0x0003 [] source i.grade
  s.gradeAction source item i.grade atStart

/-- The condition of an instance arises (R456): a new instance is raised; a present one is repeated, or regraded when
its own rule gives it a higher grade. `single` marks a condition that ended when it was raised (R462); `atStart` one raised
at a start to record its cause (R649). -/
def State.raise (s : State) (source item grade : Nat) (single : Bool := false) (signal : Bool := false)
    (atStart : Bool := false) : State :=
  -- while its signal is broken, a source raises and clears nothing (R453)
  if !signal && s.flt.broken.contains (source, item) then s
  else match s.instOf source item signal with
  | none => s.raiseNew source item grade single signal atStart
  | some i =>
    let s := s.when (!i.cond) fun s => (s.dayRepeat i).modInst source item signal fun j => { j with cond := !single }
    if i.raised < grade then
      let s := s.modInst source item signal fun j => { j with raised := grade }
      match s.instOf source item signal with
      | some j =>
        if i.grade < j.grade then
          ((s.dayFault j 2).slip 0x0003 [] source j.grade).gradeAction source item j.grade atStart
        else s
      | none => s
    else s

/-- A thermal shutdown at G5; one found in M1 waits until the module leaves M1 (R403). -/
def State.thermalShutdown (s : State) (source item : Nat) : State :=
  if s.modes.mode = .m1 then s.modTherm fun t => { t with bootShutdown := t.bootShutdown.or (some (source, item)) }
  else s.raise source item 5

/-- Drive PWM output `k` with a duty, unless it is forced to 100 % (R401). -/
def State.drivePwm (s : State) (k duty : Nat) : State :=
  s.modTherm fun t => { t with
    pwm := updAt t.pwm k fun _ => if t.forced && bitOf (s.nat P.thForceMask) k then 1000 else duty }

/-- The condition of an instance has ended; the instance clears by the rules of R461 at the next sweep boundary. -/
def State.endFault (s : State) (source item : Nat) (signal : Bool := false) : State :=
  if !signal && s.flt.broken.contains (source, item) then s
  else s.modInst source item signal fun j => { j with cond := false }

/-- A condition evaluated as a level: raised while it holds, ended when it does not. -/
def State.condition (s : State) (source item grade : Nat) (c : Bool) : State :=
  if c then s.raise source item grade else s.endFault source item

/-- Free a latch that has cleared and been acknowledged, with its overflow bit (R457). -/
def State.freeLatch (s : State) (c : Nat) : State :=
  match s.flt.latches.get c with
  | some l =>
    if l.cleared && l.inst.acked then
      s.modFlt fun x => { x with latches := x.latches.set c none, overflow := putBit x.overflow c false }
    else s
  | none => s

/-- Clear a present instance (R461): out of the list, a Daybook entry and FAULT_CLEARED. -/
def State.clearInst (s : State) (i : FaultInst) : State :=
  let s := s.modFlt fun x => { x with
    present := x.present.filter fun j => !(j.same i.source i.item i.signal)
    slots := x.slots.map fun o => match o with
      | some j => if j.same i.source i.item i.signal then none else some j
      | none => none
    latches := x.latches.modify (i.source / 256) fun o => match o with
      | some l => if l.inst.same i.source i.item i.signal && !l.cleared
          then some { l with cleared := true, inst := { l.inst with cond := false } } else some l
      | none => none }
  let s := s.dayFault i 3
  let s := s.slip 0x0004 [] i.source i.grade
  s.freeLatch (i.source / 256)

/-- SI.10 to SI.27, which clear with the reset of their input (R420, R461). -/
def siInput (source : Nat) : Bool := decide (src 3 10 ≤ source) && decide (source ≤ src 3 27)

/-- An instance whose condition has ended clears by R461; SI.50 only under R438, SI.10 to SI.27 with their input. -/
def FaultInst.clears (i : FaultInst) : Bool :=
  !i.cond && decide (i.grade < 5) && decide (i.source ≠ src 3 50) && !siInput i.source && (decide (i.grade ≤ 1) || i.acked)

/-- Source, item and signal in the order of R459. -/
def FaultInst.before (a b : FaultInst) : Bool :=
  decide (a.source < b.source) || (decide (a.source = b.source) && decide (a.item ≤ b.item))

/-- The ended conditions of the sweep clear in rising source and item; the entries of `FLT.PRESENT` move down (R459, R466). -/
def State.clearEnded (s : State) : State :=
  let s := s.modFlt fun x => { x with slots := x.slots.filter Option.isSome }
  let l := sortBy FaultInst.before (s.flt.present.filter FaultInst.clears)
  s.forAll l fun i s => s.clearInst i

/-- Acknowledge the present instances of a source (0xFFFF all) and the latches that hold it; how many were acknowledged
anew (R460). -/
def State.ackFaults (s : State) (source : Nat) : Nat × State :=
  let hit := fun (n : Nat) => decide (source = 0xFFFF) || decide (n = source)
  let l := s.flt.present.filter fun i => hit i.source && !i.acked
  let s := s.forAll l fun i s =>
    (s.dayFault { i with acked := true } 4).modInst i.source i.item i.signal fun j => { j with acked := true }
  let cleared := (List.range 8).filter fun c => match s.flt.latches.get c with
    | some x => x.cleared && !x.inst.acked && hit x.inst.source
    | none => false
  let s := s.forAll cleared fun c s =>
    match s.flt.latches.get c with
    | some x =>
      ((s.dayFault { x.inst with acked := true } 4).modFlt fun y => { y with
        latches := y.latches.set c (some { x with inst := { x.inst with acked := true } }) }).freeLatch c
    | none => s
  (l.length + cleared.length, s)

end Sys2Proof.Machine
end

