-- ==== Sys2Proof/Machine/Operands.lean ====
section
/-! DEFINITION. The wicket layer that every host command goes through (chapter 04): the checks of R129 in their order, the
sequence rules, the classes and the deferred queue, and the replies with their detail blocks. -/

namespace Sys2Proof.Machine

open Sys2Proof

/-- The kinds of the command catalogue (R153, R154). -/
inductive CmdKind where
  | a | r | e | w | c | x | u
  deriving DecidableEq, Repr

/-- A row of the catalogue: code, kind, class and the engine that serves it (R153, R22). -/
structure Cmd where
  code : Nat
  kind : CmdKind
  cls : Nat
  engine : Nat := 1
  deriving DecidableEq, Repr

/-- What a command answers: a final reply, or none while it waits for a sweep boundary; and the state it leaves. -/
abbrev Answer := Option Reply × State

/-! ### Replies (R137, R138) -/

/-- "None" in an argument of a detail block. -/
def none32 : Nat := 0xFFFFFFFF

/-- A refusal with its detail block. -/
def refusal (outcome detail : Nat) (a0 : Nat := 0) (a1 : Nat := 0) (a2 : Nat := 0) (off : Nat := 0xFFFF) : Reply :=
  { outcome := outcome, detail := detail, fieldOffset := off, arg0 := a0, arg1 := a1, arg2 := a2 }

/-- DONE with a payload. -/
def done (payload : List (Nat × Nat) := []) : Reply := { payload := payload }

/-- RANGE_INVALID: field offset, ARG0 (parameter index or field offset), the lowest and the highest value accepted (R138). -/
def rangeInvalid (off a0 lo hi : Nat) : Reply := refusal 0x0C 0 a0 lo hi off

/-- RANGE_INVALID of a payload field, which ARG0 names by its offset (R138). -/
def fieldRange (off lo hi : Nat) : Reply := rangeInvalid off off lo hi

/-- LENGTH_INVALID: value found and largest value accepted (R138). -/
def lengthInvalid (found most : Nat) (off : Nat := 0xFFFF) : Reply := refusal 0x05 0 found most 0 off

/-- NOT_IN_MODE with the first unmet condition (R138). -/
def State.notInMode (s : State) (cond : Nat := none32) : Reply :=
  refusal 0x0A s.modes.mode.num cond (min s.twin.role.num 2)

/-- UNIT_ABSENT for a bit of `CAP.UNITS` (R138). -/
def unitAbsent (bit : Nat) (n : Nat := none32) (link : Bool := false) : Reply := refusal 0x04 bit n (b2n link)

/-- REFUSED_BUSY with its DETAIL and ARG0 (R138). -/
def busy (detail : Nat) (a0 : Nat := none32) : Reply := refusal 0x03 detail a0

/-- A payload of a fixed length (R129 step 7). -/
def fixedLen (f : Frame) (n : Nat) : Option Reply := if f.length = n then none else some (lengthInvalid f.length n)

/-- A counted payload: 1 to `most` entries of `size` bytes behind `head` bytes, the count at offset `off` (R129, R130). -/
def countedLen (f : Frame) (off head size most count : Nat) : Option Reply :=
  if f.length < head then some (lengthInvalid f.length head)
  else if 1 ≤ count ∧ count ≤ most ∧ f.length = head + size * count then none
  else some (lengthInvalid count (min most ((f.length - head) / size)) off)

/-- A count field of a fixed payload (R129 step 7). -/
def countField (f : Frame) (len off most count : Nat) : Option Reply :=
  match fixedLen f len with
  | some r => some r
  | none => if 1 ≤ count ∧ count ≤ most then none else some (lengthInvalid count most off)

/-! ### Sending a reply -/

/-- The FLAGS and EPOCH of a reply of this module (R127, R128). -/
def State.stamp (s : State) (engine : Nat) (r : Reply) : Reply := { r with
  epoch := (s.arch.engines.get engine).epoch
  flags := r.flags ||| (if s.twin.role = .standby ∨ s.twin.role = .coldStandby then 32 else 0) }

/-- Send a reply that is not stored (R130). -/
def State.answer (s : State) (f : Frame) (code : Nat) (r : Reply) (engine : Nat := 1) : State :=
  s.emit (.wicketReply f code (s.stamp engine r))

/-- The session a frame names, if it is open. -/
def State.sessionOf (s : State) (f : Frame) : Option Session :=
  match (s.slot f.host).session with
  | some x => if x.token = f.session then some x else none
  | none => none

/-- Change the wicket that a frame names, while its session is open. -/
def State.modWicket (s : State) (f : Frame) (g : WicketSt → WicketSt) : State :=
  s.modSlot f.host fun h => match h.session with
    | some x => if x.token = f.session then
        { h with session := some { x with wickets := x.wickets.modify f.wicket g } } else h
    | none => h

/-- Send the final reply of a request and keep it with its wicket (R131); a closed session gets none (R135);
SESSION_OPEN names no session and is answered as it came. -/
def State.complete (s : State) (f : Frame) (c : Cmd) (r : Reply) : State :=
  if c.code = 0x0001 then s.answer f c.code r c.engine
  else if (s.sessionOf f).isNone then s
  else
    let r := s.stamp c.engine r
    let s := s.emit (.wicketReply f c.code r)
    s.modWicket f fun w => if w.isOpen then
      { w with lastSeq := f.seq, lastCode := c.code, stored := some r, inProgress := none } else { w with inProgress := none }

/-- REFUSED_BUDGET: power state, class, why, serving engine (R138); it is counted (R598). -/
def State.refuseBudget (s : State) (f : Frame) (c : Cmd) (why : Nat) : State :=
  (s.complete f c (refusal 0x02 s.trs.state f.priority why c.engine)).modTrs fun t => { t with refusals := satU 32 (t.refusals + 1) }

/-- The place of a request in the deferred queue, 0 when it is not there. -/
def State.queuePlace (s : State) (f : Frame) : Nat :=
  let i := s.wk.deferred.findIdx fun d => d.frame.sameRequest f
  if i < s.wk.deferred.length then i + 1 else 0

/-- The interim reply DEFERRED (R131, R141); its typical wait is a free value (log 13). -/
def State.interim (s : State) (f : Frame) (c : Cmd) : State :=
  let p := s.queuePlace f
  let since := match s.wk.deferred[p - 1]? with
    | some d => if p = 0 then s.time.ns else d.since
    | none => s.time.ns
  let r : Reply := { refusal 0x01 p (s.free 32) s.trs.state ((s.time.ns - since) / 1000000) with flags := 8 }
  (s.answer f c.code r c.engine).nextFree

/-! ### Slips as the host sees them (R148, R151) -/

/-- Age of a slip number: how far it lies before the newest, as a uint32 difference from the next SEQ (R151). -/
def HostSlot.age (h : HostSlot) (seq : Nat) : Nat := (h.nextSeq + 2 ^ 33 - 1 - seq) % 2 ^ 32

/-- Every slip queued, oldest first, the SLIPS_LOST slip among them. -/
def HostSlot.queue (h : HostSlot) : List Slip :=
  match h.lostSlip with
  | some l => insertBy (fun a b => decide (h.age b.seq ≤ h.age a.seq)) l h.slips
  | none => h.slips

/-- The oldest slip held, or the next SEQ with none held (R151). -/
def HostSlot.oldest (h : HostSlot) : Nat := match h.queue with | x :: _ => x.seq | [] => h.nextSeq

/-- The slips of a slot that its next batch carries: up to 32 unsent ones, oldest first (R147). -/
def HostSlot.batch (h : HostSlot) : List Slip := (h.queue.filter (·.unsent)).take 32

/-- One frame of the unsent slips of a slot goes to the address and port of its open session (R123, R147). -/
def State.sendBatch (s : State) (i : Nat) : State :=
  let h := s.slot i
  let l := h.batch
  match h.session with
  | none => s
  | some x =>
    if l.isEmpty then s
    else
      let flags := if s.twin.role = .standby ∨ s.twin.role = .coldStandby then 32 else 0
      let sent := fun (y : Slip) => if l.any fun z => z.seq == y.seq then { y with unsent := false } else y
      (s.emit (.slips i (h.addr.getD 0) h.port x.token x.service flags l)).modSlot i fun h => { h with
        slips := h.slips.map sent, lostSlip := h.lostSlip.map sent }

/-! ### Serving (R140 to R142, R154, R157) -/

/-- A kind is served in the present mode (R154; M2 is R641). -/
def CmdKind.served : CmdKind → Mode → Bool
  | .a, m | .r, m | .e, m => decide (m ≠ .m0)
  | .w, m | .x, m => m.runs
  | .c, m | .u, m => decide (m = .m3)

/-- The role refuses the command: a standby serves kinds A, R and E alone (R154); a cold standby names the formats (R496). -/
def State.roleRefuses (s : State) (c : Cmd) : Option Reply :=
  let own := c.kind = .a ∨ c.kind = .r ∨ c.kind = .e
  if own then none
  else if s.twin.role = .standby ∨ (s.twin.role = .coldStandby ∧ c.kind = .u) then some (refusal 0x0D 3 c.code)
  else if s.twin.role = .coldStandby then
    some (refusal 0x09 0 s.upd.running.mirrorFormat s.twin.partnerFormat)
  else none

/-- Carry a request out: its mode check, its body, its final reply. `also` marks a request that its own rule serves in a
mode where its kind is not served. -/
def State.serve (s : State) (f : Frame) (c : Cmd) (also : Bool) (body : State → Answer) : State :=
  if c.kind.served s.modes.mode || also then
    match body s with
    | (some r, t) => t.complete f c r
    | (none, t) => t
  else s.complete f c s.notInMode

/-- Put a request into the deferred queue, ordered by class and then by arrival (R141), with its interim reply. -/
def State.defer (s : State) (f : Frame) (c : Cmd) (req : Instr) : State :=
  if 32 ≤ s.wk.deferred.length then s.complete f c (busy 2)
  else
    let d : Deferred := { frame := f, code := c.code, cls := f.priority, engine := c.engine, since := s.time.ns, req := req }
    let s := s.modWk fun w => { w with deferred := insertBy (fun a b => decide (a.cls ≤ b.cls)) d w.deferred }
    let s := s.modTrs fun t => { t with deferrals := satU 32 (t.deferrals + 1) }
    s.interim f c

/-- A restart or a commit is on its way, and no new request has an effect before it (R157, R171). -/
def State.blocked (s : State) : Bool :=
  s.modes.restartPending.isSome || s.par.committing || s.upd.sealRestart.isSome || s.wk.restarting.isSome

/-- An earlier request of the same class is deferred (R136). -/
def State.deferredBefore (s : State) (f : Frame) : Bool := s.wk.deferred.any fun d => decide (d.cls = f.priority)

/-- An earlier request of the same class waits for the sweep boundary (R136): a PARAM_READ, a PARAM_WRITE and a FAULT_ACK take their place
behind it there, and wait to be checked only behind a request that is not checked yet. -/
def State.boundaryBefore (s : State) (f : Frame) (c : Cmd) : Bool := s.wk.writes.any fun w =>
  decide (w.frame.priority = f.priority) && (w.later.isSome || !([0x0101, 0x0102, 0x0206].contains c.code))

/-- The request as it waits, for the rest of its way. -/
def State.waiting (s : State) (f : Frame) (c : Cmd) (req : Instr) : Deferred :=
  { frame := f, code := c.code, cls := f.priority, engine := c.engine, since := s.time.ns
    senderEpoch := (s.arch.engines.get 1).epoch, expected := (s.arch.engines.get c.engine).epoch, req := req }

/-- Admit a new request by its class and the power state (R140), in arrival order within its class (R136), then serve it; one whose
engine is in reset waits in the fabric (R143). STOP and TRIP, the commands of class P0, are served at once whatever class they are
sent at (R157, log 167). -/
def State.queueOrServe (s : State) (f : Frame) (c : Cmd) (req : Instr) (also : Bool) (body : State → Answer) : State :=
  if s.blocked then s.complete f c (busy 4)
  else if f.priority = 0 ∨ c.cls = 0 then s.serve f c also body
  else if s.trs.state = 2 then s.refuseBudget f c 1
  else if (s.trs.state = 1 ∧ 3 ≤ f.priority) ∨ (2 ≤ f.priority ∧ (s.trs.engines.get c.engine).spent) ∨ s.deferredBefore f then
    s.defer f c req
  else if s.boundaryBefore f c then
    s.modWk fun w => { w with writes := w.writes ++ [{ frame := f, code := c.code, later := some (s.waiting f c req) }] }
  else if (s.arch.engines.get c.engine).inReset then s.modWk fun w => { w with fabric := w.fabric ++ [s.waiting f c req] }
  else s.serve f c also body

/-- The main domain runs, and the Network core with it (R22, R26); the mask ROM in M1 starts no engine yet. -/
def State.coreUp (s : State) : Bool :=
  s.power.mainUp && !s.power.mainHeld && !(s.arch.engines.get 7).inReset && s.modes.bootExit != some .m2

/-- The module hears the uplinks (R122). -/
def State.netUp (s : State) : Bool := s.coreUp && decide (s.modes.mode ≠ .m0) && decide (s.modes.mode ≠ .m2)

/-- The module answers frames of this kind at all: the main domain is up (R140), the address is one it holds (R503, R504), the port
is `WKT.UDP_PORT` or TCP port 48111 of the service port (R123, R126), and in M2 only the service port serves (R154, R641). -/
def State.hears (s : State) (f : Frame) : Bool :=
  s.coreUp && !s.night.inCharge && decide (s.modes.mode ≠ .m0) &&
    (match f.via with
     | 0 => decide (s.modes.mode ≠ .m2) && decide (s.val (P.netPosAddr s.pos) ≠ 0) && decide (f.dport = s.nat P.wktUdpPort)
     | 1 => decide (s.modes.mode ≠ .m2) && decide (s.val (P.netPosAddr s.pos) ≠ 0) && s.net.roleHeld && decide (f.dport = s.nat P.wktUdpPort)
     | _ => decide (f.dport = 48111))

/-- The command codes that the catalogue defines (R153, R631, R633). -/
def knownCodes : List Nat :=
  [0x0001, 0x0002, 0x0003, 0x0004, 0x0005, 0x0006, 0x0010, 0x0011, 0x0101, 0x0102, 0x0103, 0x0104, 0x0105, 0x0106, 0x0201, 0x0202,
   0x0203, 0x0204, 0x0205, 0x0206, 0x0301, 0x0302, 0x0401, 0x0402, 0x0403, 0x0501, 0x0502, 0x0503, 0x0601, 0x0602, 0x0701, 0x0702,
   0x0801, 0x0901, 0x0902, 0x0903, 0x0904, 0x0905, 0x0906, 0x0907, 0x0908]

/-- The checks of R129, steps 4 to 6, on a command other than SESSION_OPEN: what refuses the frame, if anything. -/
def State.frameRefused (s : State) (f : Frame) (c : Cmd) (opens inM2 : Bool) : Option Reply :=
  match (List.range 4).find? fun i => match (s.slot i).session with
      | some x => decide (x.token = f.session) | none => false with
  | none => some (refusal 0x0F 1)
  | some i =>
    let h := s.slot i
    if i ≠ f.host ∨ h.addr ≠ some f.src then some (refusal 0x0F 3)
    else match h.session with
      | none => some (refusal 0x0F 1)
      | some x =>
        let isOpen := decide (f.wicket < 16) && (x.wickets.get f.wicket).isOpen
        if opens && decide (16 ≤ f.wicket) && (List.range 16).all (fun w => (x.wickets.get w).isOpen) then some (refusal 0x0F 5)
        else if !isOpen && (!opens || decide (16 ≤ f.wicket)) then some (refusal 0x0F 2)
        else if !knownCodes.contains f.code then some (refusal 0x0E 0 f.code)
        else if s.modes.mode = .m2 ∧ !inM2 then some (refusal 0x0E 0 c.code)
        else if f.priority < c.cls ∨ 4 < f.priority then some (refusal 0x0D 4 c.code)
        else if !x.control && !(decide (c.kind = .a) || decide (c.kind = .r) || decide (c.kind = .e)) then
          some (refusal 0x0D 2 c.code)
        else match s.roleRefuses c with
          | some r => some r
          | none => if c.kind = .u ∧ f.via ≠ 2 then some (refusal 0x0D 6 c.code) else none

/-- A valid frame of an address keeps its session and its slot in use (R132, R135). -/
def State.touch (s : State) (f : Frame) : State :=
  s.forAll (List.range 4) fun i s =>
    if (s.slot i).addr = some f.src then
      s.modSlot i fun h => { h with
        lastUse := s.time.ns, session := h.session.map fun x => { x with lastFrame := s.time.ns } }
    else s

/-- Steps 1 to 3 of R129: counted discards and the length check; the frame goes on in `k`. -/
def State.receive (s : State) (f : Frame) (c : Cmd) (k : State → State) : State :=
  if !s.hears f then s
  else if f.bytes < 28 ∨ !f.head then s.modWk fun w => { w with frameDiscards := satU 32 (w.frameDiscards + 1) }
  else if !f.crcOk then s.modWk fun w => { w with crcDiscards := satU 32 (w.crcDiscards + 1) }
  else
    let s := s.touch f
    if f.length = 0xFFFF ∨ 1024 < f.length ∨ f.length ≠ f.bytes - 28 then
      (s.modWk fun w => { w with lengthRejects := satU 32 (w.lengthRejects + 1) }).answer f f.code
        (lengthInvalid f.length (min 1024 (f.bytes - 28))) c.engine
    else k s

/-- A request frame of a command as it arrives (R129 to R131): `bad` is what step 7 finds in its payload, `opens` marks
WICKET_OPEN, `also` a request served outside the modes of its kind, `inM2` one the mask ROM serves (R641). -/
def State.wicket (s : State) (f : Frame) (c : Cmd) (req : Instr) (bad : Option Reply) (body : State → Answer)
    (also : Bool := false) (opens : Bool := false) (inM2 : Bool := false) : State :=
  s.receive f c fun s =>
    match s.frameRefused f c opens inM2 with
    | some r => s.answer f f.code r c.engine
    | none =>
      match bad with
      | some r => s.answer f c.code r c.engine
      | none =>
        let w := match s.sessionOf f with | some x => x.wickets.get f.wicket | none => {}
        match w.inProgress with
        | some q =>
          if q = f.seq then s.interim f c
          else match (if w.isOpen && decide (w.lastSeq = f.seq) then w.stored else none) with
            | some r => s.emit (.wicketReply f w.lastCode r)
            | none => s.answer f c.code (busy 1 q) c.engine
        | none =>
          if w.isOpen && decide (w.lastSeq = f.seq) then
            match w.stored with
            | some r => s.emit (.wicketReply f w.lastCode r)
            | none => s
          else (s.modWicket f fun w => { w with inProgress := some f.seq, curCode := c.code, curCls := f.priority }).queueOrServe f c req also body

/-- Take a request out of the deferred queue and serve it (R141). -/
def State.undefer (s : State) (f : Frame) : State :=
  s.modWk fun w => { w with deferred := w.deferred.eraseP fun d => d.frame == f }

/-- The catalogue row a waiting request is answered under. -/
def Deferred.cmd (d : Deferred) : Cmd := { code := d.code, kind := .a, cls := d.cls, engine := d.engine }

/-- Close a session (R135): its deferred requests are dropped, requests in progress run on with their replies discarded. -/
def State.closeSession (s : State) (i why : Nat) : State :=
  match (s.slot i).session with
  | none => s
  | some x =>
    let s := s.modWk fun w => { w with deferred := w.deferred.filter fun d => d.frame.session != x.token }
    let s := s.modSlot i fun h => { h with session := none, snapshot := none }
    -- the Daybook has no code for a session that moves with its role (R146, R578)
    s.when (decide (why < 5)) fun s => s.day 0x0006 (i + 256 * why)

end Sys2Proof.Machine
end

