-- ==== Sys2Proof/Machine/ParamWrite.lean ====
section
/-! DEFINITION. Writing parameters: the checks on each entry, validation of the working copy, commits, the sealed set
(chapter 05), and the rows of the table that are one-entry writes. -/

namespace Sys2Proof.Machine

open Sys2Proof

/-! ### Values as they will stand -/

/-- The value of a parameter in the working copy (R169). -/
def State.wval (s : State) (i : Nat) : Int :=
  match s.par.work.get i with
  | some v => if (absentUnit s.ident i).isSome then 0 else v
  | none => s.val i

/-- The entries of every write accepted and not yet applied, oldest first. -/
def State.acceptedWrites (s : State) : List (Nat × Int) := s.wk.writes.flatMap (·.entries)

/-- The last value a list of entries gives an index. -/
def lastOf (l : List (Nat × Int)) (i : Nat) : Option Int := l.foldl (fun r e => if e.1 = i then some e.2 else r) none

/-- The value an index has once the accepted writes and the entries of a request are applied (R155). -/
def State.soon (s : State) (l : List (Nat × Int)) (i : Nat) : Int :=
  (lastOf (s.acceptedWrites ++ l) i).getD (s.wval i)

/-! ### One entry (R163 to R165, R650) -/

/-- Bits of a type code (R163). -/
def tyBits (ty : Nat) : Nat :=
  if ty = 0x01 ∨ ty = 0x11 then 8 else if ty = 0x02 ∨ ty = 0x12 then 16
  else if ty = 0x03 ∨ ty = 0x13 ∨ ty = 0x21 then 32 else 64

/-- The type is signed. -/
def tySigned (ty : Nat) : Bool := decide (ty / 16 = 1)

/-- The value of a 64-bit field of a type, none where the bits above the used bits are no extension or a float is not
finite (R164). -/
def fieldValue (ty v : Nat) : Option Int :=
  let w := tyBits ty
  let x : Int := if tySigned ty then ofPat w v else ((v % 2 ^ w : Nat) : Int)
  let finite := if ty = 0x21 then f32Finite (BitVec.ofNat 32 v)
    else if ty = 0x22 then f32Finite (BitVec.ofNat 32 v) && f32Finite (BitVec.ofNat 32 (v / 2 ^ 32)) else true
  if patI 64 x = v ∧ finite then some x else none

/-- The bits of a parameter that a write sets (R650), and those that stay at 1. -/
def rwMask (i : Nat) : Option (Nat × Nat) :=
  if i = P.nsWakeMask then some (0x8D, 0x72)
  else if 0x3E0 ≤ i ∧ i < 0x440 ∧ (i - 0x3E0) % 3 = 0 then some (0x800F17FF, 0)
  else if 0x1D20 ≤ i ∧ i < 0x1D28 then some (0xDFFFFFFF1FFFFFFF, 0)
  else none

/-- The value a write leaves in the parameter. -/
def masked (i : Nat) (v : Int) : Int :=
  match rwMask i with
  | some (m, one) => (((v.toNat &&& m) ||| one : Nat) : Int)
  | none => v

/-- RANGE_INVALID of an entry: its offset, its index, the limits. -/
def entryRange (off i : Nat) (lo hi : Int) : Reply := rangeInvalid off i (patI 32 lo) (patI 32 hi)

/-- RANGE_INVALID with no limits. -/
def entryRangeNone (off i : Nat) : Reply := rangeInvalid off i none32 none32

/-- A contiguous netmask (R503). -/
def netmaskOk (v : Nat) : Bool := (List.range 33).any fun n => v == 2 ^ 32 - 2 ^ (32 - n)

/-- A code of `LOOP[k].FEEDBACK` for k of 8 and above (R356). -/
def feedbackOk (v : Nat) : Bool :=
  v == 0 || (0x200 ≤ v && v < 0x220) || (0x300 ≤ v && v < 0x320) || (0x400 ≤ v && v < 0x420) || v == 0x500 ||
    (0x508 ≤ v && v < 0x511) || (0x600 ≤ v && v < 0x606)

/-- A process value field (R543): a type of R163 that lies within the 8 bytes. -/
def pdoFieldOk (v : Nat) : Bool :=
  let ty := v / 256 % 256
  decide (v < 2 ^ 16) && [0x01, 0x02, 0x03, 0x11, 0x12, 0x13, 0x21].contains ty && decide (v % 256 + tyBits ty / 8 ≤ 8)

/-- The check of a value against its Range column: none where it holds, else the refusal (R15, R164). -/
def rangeCheck (r : Rng) (off i : Nat) (v : Int) : Option Reply :=
  let bad := fun (c : Bool) => if c then none else some (entryRangeNone off i)
  match r with
  | .any => none
  | .span lo hi => if lo ≤ v ∧ v ≤ hi then none else some (entryRange off i lo hi)
  | .list l => bad (l.contains v)
  | .spanOr e lo hi => bad (v == e || (decide (lo ≤ v) && decide (v ≤ hi)))
  | .real lo hi =>
    let x := f32Val (BitVec.ofInt 32 v)
    if f32Val (BitVec.ofNat 32 lo) ≤ x ∧ x ≤ f32Val (BitVec.ofNat 32 hi) then none else some (entryRange off i lo hi)
  | .finite => none
  | .pair => none
  | .special 4 => bad (feedbackOk v.toNat)
  | .special 6 => bad (v == 0 || (decide (0x200 ≤ v) && decide (v < 0x220)) || (decide (0x300 ≤ v) && decide (v < 0x320)))
  | .special 8 => bad (netmaskOk v.toNat)
  | .special 11 => bad (pdoFieldOk v.toNat)
  | .special 12 => bad (decide (f32Val (BitVec.ofNat 32 (v.toNat % 2 ^ 32)) ≠ 0))
  | .special 15 => bad (decide (v.toNat < 2 ^ 10) && (List.range 5).all fun k => decide (v.toNat / 4 ^ k % 4 ≤ 2))
  | .special _ => none

/-! ### Orders among related settings (R155, R180, R300, R307, R393, R528) -/

/-- The limits that an order w + h ≤ t, t + h ≤ x imposes on one of its four members, from the values of the others. -/
def levelLimits (w t x h : Int) (k : Nat) (lo hi : Int) : Int × Int :=
  match k with
  | 0 => (lo, min hi (t - h))
  | 1 => (max lo (w + h), min hi (x - h))
  | 2 => (max lo (t + h), hi)
  | _ => (lo, min hi (min (t - w) (x - t)))

/-- The four indices of the level group an index belongs to, with its place in it. -/
def levelGroup (i : Nat) : Option (Nat × Nat × Nat × Nat × Nat) :=
  if 0x700 ≤ i ∧ i ≤ 0x703 then some (0x700, 0x701, 0x702, 0x703, i - 0x700)
  else if 0x708 ≤ i ∧ i ≤ 0x70B then some (0x708, 0x709, 0x70A, 0x70B, i - 0x708)
  else if 0x740 ≤ i ∧ i < 0x800 then
    let b := i - (i - 0x740) % 6
    let k := (i - 0x740) % 6
    if 1 ≤ k ∧ k ≤ 4 then some (b + 1, b + 2, b + 3, b + 4, k - 1) else none
  else none

/-- The strict chains of R300, as lists of indices that rise. -/
def chains : List (List Nat) :=
  [[P.brkUvLimit, P.estStopVoltage, P.estFullVoltage, P.brkOvLimit], [P.estRestHold, P.estRestTime],
   [P.estEodLevel 2, P.estEodLevel 1, P.estEodLevel 0], [P.estEocLevel 0, P.estEocLevel 1]]

/-- The limits a chain imposes on its member `i`. -/
def chainLimits (val : Nat → Int) (i : Nat) (c : List Nat) (lo hi : Int) : Int × Int :=
  let k := c.findIdx (· == i)
  let lo := if 0 < k then max lo (val (c.getD (k - 1) 0) + 1) else lo
  let hi := if k + 1 < c.length then min hi (val (c.getD (k + 1) 0) - 1) else hi
  (lo, hi)

/-- The prescaler of a CAN phase (R528): the smallest p with a whole number of quanta within the limits, as that number. -/
def canQuanta (rate lo hi : Nat) : Option Nat :=
  ((List.range 32).map (· + 1)).findSome? fun p =>
    if rate ≠ 0 ∧ 100000000 % (p * rate) = 0 ∧ lo ≤ 100000000 / (p * rate) ∧ 100000000 / (p * rate) ≤ hi
    then some (100000000 / (p * rate)) else none

/-- The bit segments of a phase (R528): tseg1, tseg2 and SJW, from its quanta and its sample point, with the limit on SJW. -/
def canSegments (n sp sjwMax : Nat) : Int × Int × Int :=
  let tseg1 := divNear ((n * sp : Nat) : Int) 1000 - 1
  let tseg2 := (n : Int) - 1 - tseg1
  (tseg1, tseg2, min tseg2 (sjwMax : Int))

/-- A rate and sample point that the controller can reach (R528); a data rate of 0 sends classic frames alone. -/
def canPhaseOk (rate sp lo hi : Nat) : Bool :=
  match canQuanta rate lo hi with
  | some n => decide (2 ≤ (canSegments n sp 128).2.1)
  | none => false

/-- The harmonics of R307 that the survey uses are odd, rising and in range at place `j`. -/
def harmonicOk (val : Nat → Int) (j : Nat) : Bool :=
  let h := val (P.survHarmonic j)
  decide (h % 2 = 1) && decide (1 ≤ h) && decide (h ≤ 19999) && (j == 0 || decide (val (P.survHarmonic (j - 1)) < h))

/-- The order among related settings on an entry, from the values the whole request leaves (R155). -/
def relationCheck (val : Nat → Int) (r : PRow) (off i : Nat) : Option Reply :=
  let v := val i
  let span := match r.rng with | .span lo hi => (lo, hi) | _ => (-(2 : Int) ^ 31, (2 : Int) ^ 32 - 1)
  let within := fun (l : Int × Int) => if l.1 ≤ v ∧ v ≤ l.2 then none else some (entryRange off i l.1 l.2)
  match levelGroup i with
  | some (a, b, c, d, k) => within (levelLimits (val a) (val b) (val c) (val d) k span.1 span.2)
  | none =>
    match chains.find? (·.contains i) with
    | some c => within (chainLimits val i c span.1 span.2)
    | none =>
      let bad := fun (c : Bool) => if c then none else some (entryRangeNone off i)
      if i = P.survFreqCount then bad ((List.range v.toNat).all (harmonicOk val))
      else if 0x1480 ≤ i ∧ i < 0x1498 then
        let j := i - 0x1480
        let n := (val P.survFreqCount).toNat
        bad (decide (n ≤ j) || (harmonicOk val j && (decide (n ≤ j + 1) || harmonicOk val (j + 1))))
      else if 0x3C0 ≤ i ∧ i < 0x3E0 ∧ i % 16 < 4 then
        let b := (i - 0x3C0) / 16
        let n := fun (j : Nat) => (val j).toNat
        if i % 16 = 0 ∨ i % 16 = 2 then bad (canPhaseOk (n (P.canNominalRate b)) (n (P.canNominalSp b)) 8 385)
        else bad (n (P.canDataRate b) == 0 || canPhaseOk (n (P.canDataRate b)) (n (P.canDataSp b)) 5 49)
      else none

/-- UNIT_ABSENT of an index that belongs to an absent unit (R4). -/
def State.absentReply (s : State) (i : Nat) : Option Reply :=
  (absentUnit s.ident i).map fun x => unitAbsent x.1 x.2.1 x.2.2

/-- What a breakpoint write must meet (R560, R107). -/
def State.breakCheck (s : State) (off i : Nat) (v : Int) : Option Reply :=
  if 0x1D10 ≤ i ∧ i ≤ 0x1D13 ∧ v ≠ 0xFFFFFFFF then
    if s.modes.mode = .m5 ∧ !s.flag P.modeHoldEnable then some s.notInMode
    else if (match s.upd.present with | some p => p.stmts.contains v.toNat | none => false) then none
    else some (entryRangeNone off i)
  else none

/-- A loop reference that the present image declares while the program runs is the program's (R554). -/
def State.programOwns (s : State) (i : Nat) : Bool :=
  match s.upd.present with
  | some p => decide (s.prg.state = 1) && (List.range 16).any fun k => p.loops.testBit k && decide (i = P.loopReference k)
  | none => false

/-- The entry of a PARAM_WRITE (`pset` false) or of a SEALED_SET_WRITE at offset `off`: refused, or its index and value. A defined index
that no table of the manual names is taken as read-only (DESIGN CHOICE, log 10). -/
def State.entryCheck (s : State) (pset : Bool) (off : Nat) (e : ParamEntry) : Except Reply (Nat × Int) :=
  let i := e.index
  match wRow i with
  | none =>
    if !defined i then .error (entryRangeNone off i)
    else match s.absentReply i with
      | some r => .error { r with fieldOffset := off }
      | none => if pset then .error (entryRangeNone off i) else .error (refusal 0x0D 1 i 0 0 off)
  | some r =>
    match s.absentReply i with
    | some a => .error { a with fieldOffset := off }
    | none =>
      if pset && decide (r.acc ≠ .sl) then .error (entryRangeNone off i)
      else if !pset && decide (r.acc = .sl) then .error (refusal 0x0B 0 i 0 0 off)
      else if decide (r.acc = .co) && decide (s.modes.mode ≠ .m3) then .error (refusal 0x0D 5 i 0 0 off)
      else if e.ty ≠ r.ty then .error (entryRangeNone off i)
      else match fieldValue e.ty e.value with
        | none => .error (entryRangeNone off i)
        | some v =>
          let v := masked i v
          match rangeCheck r.rng off i v with
          | some x => .error x
          | none => match s.breakCheck off i v with
            | some x => .error { x with fieldOffset := off }
            | none => if !pset && s.programOwns i then .error { busy 5 i with fieldOffset := off } else .ok (i, v)

/-- The values that the entries of a request would leave, as far as they are values of their parameters (R155). -/
def entryValues (l : List ParamEntry) : List (Nat × Int) :=
  l.filterMap fun e => match wRow e.index with
    | some r => if e.ty = r.ty then (fieldValue e.ty e.value).map fun v => (e.index, masked e.index v) else none
    | none => none

/-- The entries of a request in order, each on its own and then in its order among related settings (R155): the first that fails,
or all of them. -/
def State.entriesCheck (s : State) (pset : Bool) (val : Nat → Int) : Nat → List ParamEntry → Except Reply (List (Nat × Int))
  | _, [] => .ok []
  | off, e :: t => match s.entryCheck pset off e with
    | .error r => .error r
    | .ok x => match (match wRow x.1 with | some r => relationCheck val r off x.1 | none => none) with
      | some r => .error r
      | none => match s.entriesCheck pset val (off + 12) t with
        | .error r => .error r
        | .ok l => .ok (x :: l)

/-- The whole check of a request (R155): its refusal, or its entries. -/
def State.writeCheck (s : State) (pset : Bool) (off : Nat) (l : List ParamEntry) : Except Reply (List (Nat × Int)) :=
  s.entriesCheck pset (s.soon (entryValues l)) off l

/-! ### PARAM_WRITE and its special rows -/

def cmdParamWrite : Cmd := { code := 0x0102, kind := .w, cls := 1 }

/-- PARAM_WRITE carried out: checked whole, then held for the next sweep boundary, which applies and answers it (R136, R166). -/
def bodyParamWrite (f : Frame) (l : List ParamEntry) (s : State) : Answer :=
  match s.writeCheck false 4 l with
  | .error r => (some r, s)
  | .ok x => (none, s.modWk fun w => { w with writes := w.writes ++ [{ frame := f, code := 0x0102, entries := x }] })

/-- `PARAM_WRITE` (R155): a count and its entries. -/
def execParamWrite (f : Frame) (count : Nat) (l : List ParamEntry) (s : State) : Host.Outcome State Fault Refusal :=
  run (fun s => s.wicket f cmdParamWrite (.paramWrite f count l)
    (if l.length = count ∨ f.length ≠ 4 + 12 * count then countedLen f 0 4 12 64 count
     else some (lengthInvalid count l.length 0)) (bodyParamWrite f l)) s

/-- A one-entry PARAM_WRITE. -/
def State.writeOne (s : State) (f : Frame) (req : Instr) (e : ParamEntry) : State :=
  s.wicket f cmdParamWrite req (fixedLen f 16) (bodyParamWrite f [e])

/-- `SWEEP_PHASE_WRITE` (R213): SET_TIMING follows in the cycle in which the write takes effect. -/
def execSweepPhaseWrite (f : Frame) (n ty v : Nat) (s : State) : Host.Outcome State Fault Refusal :=
  run (fun s => s.writeOne f (.sweepPhaseWrite f n ty v) { index := P.lnkSweepPhase n, ty := ty, value := v }) s

/-- `LOOP_ENABLE_WRITE` (R346): ENABLE, or SECTIONS where `sections`. -/
def execLoopEnableWrite (f : Frame) (k : Nat) (sections : Bool) (ty v : Nat) (s : State) : Host.Outcome State Fault Refusal :=
  run (fun s => s.writeOne f (.loopEnableWrite f k sections ty v)
    { index := if sections then P.loopSections k else P.loopEnable k, ty := ty, value := v }) s

/-- `RECEIPT_STICKY_WRITE` (R525): 0 clears, any other value is refused. -/
def execReceiptStickyWrite (f : Frame) (ty v : Nat) (s : State) : Host.Outcome State Fault Refusal :=
  run (fun s => s.writeOne f (.receiptStickyWrite f ty v) { index := 0x0360, ty := ty, value := v }) s

/-- `REPLAN_REQUEST_WRITE` (R610): 1 triggers a re-plan. -/
def execReplanRequestWrite (f : Frame) (ty v : Nat) (s : State) : Host.Outcome State Fault Refusal :=
  run (fun s => s.writeOne f (.replanRequestWrite f ty v) { index := P.ageReplanRequest, ty := ty, value := v }) s

/-- `BREAKPOINT_WRITE` (R560). -/
def execBreakpointWrite (f : Frame) (i ty v : Nat) (s : State) : Host.Outcome State Fault Refusal :=
  run (fun s => s.writeOne f (.breakpointWrite f i ty v) { index := P.prgBreakpoint i, ty := ty, value := v }) s

/-- `SETTINGS_BURST_TIMER` (R167): 10 s after the last runtime write of a burst a settings generation is queued; none while
no settings are sealed. -/
def execSettingsBurstTimer (s : State) : Host.Outcome State Fault Refusal :=
  run (fun s => if s.par.burst && s.settings.isSome then
    (s.modPar fun p => { p with burst := false }).queueVault 4 else s) s

/-! ### Validation and commit (R171) -/

/-- CONFIG_CONFLICT: resource kind, resource number and both claimants (R138). -/
def conflict (kind n a b : Nat) : Reply := refusal 0x07 kind n a b

/-- Step 1 of R171: a feedback or sensor source of an absent unit (R356, R392). -/
def State.validAbsent (s : State) : Option Reply :=
  if canCount s.ident.variant ≤ 1 then
    let aux := fun (v : Int) => decide (0x200 ≤ v) && decide (v < 0x220)
    if (List.range 8).any (fun k => aux (s.wval (P.loopFeedback (8 + k)))) || (List.range 32).any (fun t => aux (s.wval (P.thsSource t)))
    then some (unitAbsent 2) else none
  else none

/-- Step 2 of R171: PWM outputs (R30, R571), CAN slots (R533, R537), capture buffers. -/
def State.validOwners (s : State) : Option Reply :=
  let dest := fun (k : Nat) => s.wval (P.loopOutputDest k)
  let pwm := (List.range 8).findSome? fun (n : Nat) =>
    let l := (List.range 8).filter fun j => dest (8 + j) == (n : Int)
    match l with
    | a :: b :: _ => some (conflict 2 n (P.loopOutputDest (8 + a)) (P.loopOutputDest (8 + b)))
    | [a] => if bitOf (s.wval P.prgPwmClaim).toNat n then some (conflict 2 n (P.loopOutputDest (8 + a)) P.prgPwmClaim) else none
    | [] => none
  let conv := s.wval P.prfConverterEnable ≠ 0
  let slot := (List.range 2).findSome? fun j =>
    if conv && bitOf (s.wval (P.canProgramSlots 0)).toNat j then some (conflict 3 j P.prfConverterEnable (P.canProgramSlots 0)) else none
  let mode := if conv && decide (s.wval (P.canMode 0) = 1) then some (conflict 3 0 P.prfConverterEnable (P.canMode 0)) else none
  let buf := if hasIsu s.ident.variant && s.wval P.survCaptureBuffer == s.wval P.tuneCaptureBuffer
    then some (conflict 4 (s.wval P.survCaptureBuffer).toNat P.survCaptureBuffer P.tuneCaptureBuffer) else none
  [pwm, slot, mode, buf].findSome? id

/-- Step 3 of R171: 4 to 16 links on each used rail, all with one brick count (R7, R8). -/
def State.validRails (s : State) : Option Reply :=
  let links := List.range (linkCount s.ident.variant)
  let railOf := fun (n : Nat) => s.wval (P.lnkRail n)
  (links.find? fun n =>
    let r := railOf n
    if r = 0xFF then false
    else
      let l := links.filter fun m => railOf m == r
      decide (l.length < 4) || decide (16 < l.length) ||
        s.wval (P.lnkBricks n) != s.wval (P.lnkBricks (l.headD n))).map fun n => rangeInvalid 0xFFFF (P.lnkRail n) 4 16

/-- A plane of the OCV table in use in the working copy (R178). -/
def State.planeUsed (s : State) (p : Nat) : Bool := (List.range 101).any fun i => s.wval (P.ocvPoint p i) != 0

/-- Step 4 of R171: the OCV planes in use rise in temperature and do not fall with position. -/
def State.validOcv (s : State) : Option Reply :=
  let used := (List.range 6).filter s.planeUsed
  let temps := (used.zip (used.drop 1)).filterMap fun x =>
    if s.wval (P.ocvTemperature x.1) < s.wval (P.ocvTemperature x.2) then none else some (P.ocvTemperature x.2)
  let points := used.flatMap fun p => (List.range 100).filterMap fun i =>
    if s.wval (P.ocvPoint p (i + 1)) < s.wval (P.ocvPoint p i) then some (P.ocvPoint p (i + 1)) else none
  match sortBy (fun a b => decide (a ≤ b)) (temps ++ points) with
  | i :: _ => some (rangeInvalid 0xFFFF i none32 none32)
  | [] => none

/-- Step 5 of R171: the gearing positions rise strictly. -/
def State.validGear (s : State) : Option Reply :=
  ((List.range 7).find? fun i => decide (s.wval (P.gearPosition (i + 1)) ≤ s.wval (P.gearPosition i))).map fun i =>
    rangeInvalid 0xFFFF (P.gearPosition (i + 1)) none32 none32

/-- An enabled process value mapping as (COB-ID, transmit, first byte, bytes) (R543). -/
def State.pdoMap (s : State) (i : Nat) : Option (Nat × Bool × Nat × Nat) :=
  let c := (s.wval (P.pdoCob i)).toNat
  let f := (s.wval (P.pdoField i)).toNat
  if bitOf c 31 then some (c % 2048, bitOf c 12, f % 256, tyBits (f / 256 % 256) / 8) else none

/-- Two enabled mappings overlap in one COB-ID, or use it in both directions (R543). -/
def State.validPdo (s : State) : Option Reply :=
  ((List.range 32).find? fun j => (List.range j).any fun i => match s.pdoMap i, s.pdoMap j with
    | some (c, t, o, n), some (c', t', o', n') =>
      c == c' && (t != t' || (decide (o < o' + n') && decide (o' < o + n)))
    | _, _ => false).map fun j => rangeInvalid 0xFFFF (P.pdoCob j) none32 none32

/-- Validation of the working copy as a whole (R171), the first failure in order. -/
def State.validate (s : State) : Option Reply :=
  [s.validAbsent, s.validOwners, s.validRails, s.validOcv, s.validGear, s.validPdo].findSome? id

/-- The parameters kept V of absent units whose default is not 0 (R181). -/
def absentKept (id : Identity) : List Nat :=
  (dictW.filter fun r => decide (r.kept = 2) && decide (r.acc ≠ .sl)).flatMap fun r =>
    ((List.range r.count).flatMap fun k => (List.range r.sub).map fun j => r.base + r.stride * k + j).filter fun i =>
      (absentUnit id i).isSome && decide (dfltOf id i ≠ 0)

/-- The values a new settings generation holds: every parameter kept V that differs from its default (R616); with `commit`
those of the working copy. -/
def State.sealValues (s : State) (commit : Bool) : Table (Option Int) :=
  let keep : Table (Option Int) := (s.par.force.filter fun e => match wRow e.1 with | some r => r.kept == 2 | none => false)
  let t := if commit then s.par.work.foldl (fun t e => t.set e.1 (match e.2 with
      | some v => if v = dfltOf s.ident e.1 then none else some v
      | none => none)) keep
    else keep
  -- a parameter of an absent unit holds 0 in every generation, whatever its default (R181)
  (absentKept s.ident).foldl (fun t i => t.set i (some 0)) (t.filter fun e => (absentUnit s.ident e.1).isNone)

/-- The number of the next settings generation (u16). -/
def State.nextSettings (s : State) : Nat := match s.settings with | some x => wrapU 16 (x.generation + 1) | none => 1

/-- The settings generation as it would be sealed now (R167, R171, R616). -/
def State.newSettings (s : State) : Settings :=
  let v := s.sealValues s.par.committing
  let crc := Config.settingsCrc (v.filterMap fun e => e.2.map fun x => (e.1, x))
    (match s.upd.present with | some p => p.crc | none => 0)
    (if s.par.committing then s.upd.anchorsWork else s.upd.anchors)
  { generation := s.nextSettings, level := s.upd.running.dictLevel, crc := crc % 2 ^ 32, values := v }

def cmdSettingsCommit : Cmd := { code := 0x0103, kind := .c, cls := 1 }
def cmdSettingsDiscard : Cmd := { code := 0x0104, kind := .c, cls := 1 }
def cmdSealedSetWrite : Cmd := { code := 0x0105, kind := .w, cls := 1 }
def cmdSealedSetConfirm : Cmd := { code := 0x0106, kind := .w, cls := 1 }

/-- SETTINGS_COMMIT carried out (R171): the reply names the generation, which is then queued for its seal; the seal sends
SETTINGS_COMMITTED and the warm restart follows. -/
def bodySettingsCommit (s : State) : Answer :=
  match s.validate with
  | some r => (some r, s)
  | none =>
    let s := s.modPar fun p => { p with committing := true, burst := false }
    let x := s.newSettings
    (some (done [(2, x.generation), (2, 0), (4, x.crc)]), s.queueVault 4)

/-- `SETTINGS_COMMIT` (R171). -/
def execSettingsCommit (f : Frame) (s : State) : Host.Outcome State Fault Refusal :=
  run (fun s => s.wicket f cmdSettingsCommit (.settingsCommit f) (fixedLen f 0) bodySettingsCommit) s

/-- SETTINGS_DISCARD carried out: the working copy is that of the sealed settings again (R169). -/
def bodySettingsDiscard (s : State) : Answer :=
  (some done, (s.modPar fun p => { p with work := [] }).modUpd fun u => { u with anchorsWork := u.anchors })

/-- `SETTINGS_DISCARD` (R169). -/
def execSettingsDiscard (f : Frame) (s : State) : Host.Outcome State Fault Refusal :=
  run (fun s => s.wicket f cmdSettingsDiscard (.settingsDiscard f) (fixedLen f 0) bodySettingsDiscard) s

/-! ### The sealed set (R182 to R185) -/

/-- The bytes of the entries as they came (R182). -/
def rawEntries (l : List ParamEntry) : List Byte :=
  l.flatMap fun e => leBytes 2 e.index ++ leBytes 1 e.ty ++ leBytes 1 e.res ++ leBytes 8 e.value

/-- SEALED_SET_WRITE carried out: the set becomes pending, the reply carries the CRC-32 of its re-encoding (R183). -/
def bodySealedSetWrite (crc : Nat) (l : List ParamEntry) (s : State) : Answer :=
  if s.modes.mode ≠ .m3 ∧ s.modes.mode ≠ .m4 then (some s.notInMode, s)
  else
    let k := l.findIdx fun e => match wRow e.index with | some r => decide (r.acc ≠ .sl) | none => true
    match l[k]? with
    | some e => (some (entryRangeNone (8 + 12 * k) e.index), s)
    | none =>
      if crc32 (rawEntries l) ≠ crc then (some (refusal 0x0B 0 none32), s)
      else match s.writeCheck true 8 l with
        | .error r => (some r, s)
        | .ok x =>
          let back := crc32 (x.flatMap fun e => entryBytes e.1 (tyOf e.1) e.2)
          (some (done [(4, back)]), s.modPar fun p => { p with pendingSet := some (x, crc), pendingRaw := rawEntries l })

/-- `SEALED_SET_WRITE` (R182). -/
def execSealedSetWrite (f : Frame) (crc count : Nat) (l : List ParamEntry) (s : State) : Host.Outcome State Fault Refusal :=
  run (fun s => s.wicket f cmdSealedSetWrite (.sealedSetWrite f crc count l)
    (if l.length = count ∨ f.length ≠ 8 + 12 * count then countedLen f 4 8 12 64 count
     else some (lengthInvalid count l.length 4)) (bodySealedSetWrite crc l)) s

/-- A value of a set lies in the range of its parameter. -/
def inRange (e : Nat × Int) : Bool := match wRow e.1 with | some r => (rangeCheck r.rng 0 e.1 e.2).isNone | none => false

/-- The entries of a set that Strongroom uses (DEDUCED, log 188): the pulse width of R430, the safe inputs with discrepancy time, kind and
automatic reset (R419 to R421), and the overcurrent limits from which its thresholds derive (R427). -/
def strongUses (i : Nat) : Bool :=
  decide (i = 0x510) || (decide (0x520 ≤ i) && decide (i < 0x531)) || (decide (0x540 ≤ i) && decide (i < 0x548))

/-- The Guard core recomputes the set CRC-32 over the entries it received and checks every value against its own copy of the ranges
(R184 step 1). -/
def guardConfirms (raw : List Byte) (crc : Nat) (l : List (Nat × Int)) : Bool := decide (crc32 raw = crc) && l.all inRange

/-- Strongroom does the same on its own, but checks the range only of the entries it uses (R184 step 1). -/
def strongConfirms (raw : List Byte) (crc : Nat) (l : List (Nat × Int)) : Bool :=
  decide (crc32 raw = crc) && l.all fun e => !strongUses e.1 || inRange e

/-- SEALED_SET_CONFIRM carried out: a set both sides confirm waits for its seal and the boundary after it; with a set that a side refuses
that side's byte is 0 (R184, R185). While an earlier set is being sealed the manual gives no answer: DESIGN CHOICE, REFUSED_BUSY with
DETAIL 5, and the pending set stays (log 189). -/
def bodySealedSetConfirm (f : Frame) (crc : Nat) (s : State) : Answer :=
  if s.modes.mode ≠ .m3 ∧ s.modes.mode ≠ .m4 then (some s.notInMode, s)
  else
    let gone := s.modPar fun p => { p with pendingSet := none, pendingRaw := [] }
    match s.par.pendingSet with
    | none => (some (refusal 0x0B 0 none32), s)
    | some (l, c) =>
      if c ≠ crc then (some (refusal 0x0B 0 none32), gone)
      else if s.wk.confirming.isSome then (some (busy 5), s)
      else if guardConfirms s.par.pendingRaw crc l && strongConfirms s.par.pendingRaw crc l then
        (none, ((gone.modPar fun p => { p with sealing := some l }).modWk fun w => { w with confirming := some f }).queueVault 2)
      else (some (done [(1, b2n (guardConfirms s.par.pendingRaw crc l)), (1, b2n (strongConfirms s.par.pendingRaw crc l))]), gone)

/-- `SEALED_SET_CONFIRM` (R184). -/
def execSealedSetConfirm (f : Frame) (crc : Nat) (s : State) : Host.Outcome State Fault Refusal :=
  run (fun s => s.wicket f cmdSealedSetConfirm (.sealedSetConfirm f crc) (fixedLen f 4) (bodySealedSetConfirm f crc)) s

/-- `SEALED_SET_PENDING_EXPIRY` (R183). -/
def execSealedSetPendingExpiry (s : State) : Host.Outcome State Fault Refusal :=
  run (fun s => s.modPar fun p => { p with pendingSet := none, pendingRaw := [] }) s

end Sys2Proof.Machine
end

