-- ==== Sys2Proof/Machine/Power.lean ====
section
/-! DEFINITION. Supplies, the hold-up bank, power domains, clocks, engines and memories (chapters 01, 02 and 20). -/

namespace Sys2Proof.Machine

open Sys2Proof

/-! ### Shared operations -/

/-- The item of a pin of J1: row 0 to 3 for A to D, column from 1 (R451). -/
def itemPin (row col : Nat) : Nat := item 11 (32 * row + col - 1) 1

/-- The item of a power contact of J1 (R451). -/
def itemContact (n : Nat) : Nat := item 11 (0x0100 + n) 1

/-- The item of an engine. -/
def itemEngine (e : Nat) : Nat := item 8 e

/-- The item of a retained memory region, in the order of R39. -/
def itemRegion (r : Nat) : Nat := item 9 r

/-- The item of a supply rail monitor (R605). -/
def itemMonitor (m : Nat) : Nat := item 7 (0x0700 + m)

/-- Predicted bank energy less the reserve, mJ (R622), `VLT.ENERGY_MARGIN`. -/
def State.energyMargin (s : State) : Rat :=
  let v : Rat := (s.power.bankMilliVolt : Rat) / 1000
  ((s.age.cap : Rat) / 100) * (v * v - 400) / 2 - ((pMax s.ident.variant s.ident.fibre * 250 : Nat) : Rat)

/-- The energy rule of R622 for a write of `n` bytes: 0.004 mJ a byte, twice over. -/
def State.permitted (s : State) (n : Nat) : Bool := decide (((2 * n : Nat) : Rat) * 4 / 1000 ≤ s.energyMargin)

/-- Bytes still to program of a write: its pages not yet started and the seal page (R622). -/
def Writing.bytesLeft (w : Writing) : Nat := 4096 * (w.pages - w.done + 1)

/-- A tuning test ends with a code (R353). -/
def State.endTest (s : State) (code : Nat) : State :=
  if s.steer.tuneState = 1 then
    s.modSteer fun t => { t with tuneState := if code = 0 then 2 else 3, endCode := code }
  else s

/-- The requests of class P2 to P4 in service end with REFUSED_BUDGET and have no effect (R142): a write that waits for its boundary, a
safety set not yet sealed, a cold restart that waits for its seals. -/
def State.refuseInService (s : State) : State :=
  let late := fun (f : Frame) => decide (2 ≤ f.priority)
  let l := s.wk.writes.filter fun w => late w.frame
  let s := s.modWk fun w => { w with writes := w.writes.filter fun x => !late x.frame }
  let s := s.forAll l fun w s => s.refuseBudget w.frame { code := w.code, kind := .w, cls := 1, engine := (w.later.map (·.engine)).getD 1 } 1
  let s := match s.wk.confirming with
    | some f =>
      if late f && s.par.sealing.isSome then
        let s := (s.modWk fun w => { w with confirming := none }).modPar fun p => { p with sealing := none }
        let s := s.modVault fun v => { v with queued := putBit v.queued 2 false }
        let s := s.when (s.vault.writing.any fun (w : Writing) => decide (w.order = 2)) fun s => s.abandonWrite 0
        s.refuseBudget f { code := 0x0106, kind := .w, cls := 1 } 1
      else s
    | none => s
  match s.wk.restarting with
  | some f =>
    if late f then (s.modWk fun w => { w with restarting := none }).refuseBudget f { code := 0x0202, kind := .a, cls := 1 } 1 else s
  | none => s

/-- Every deferred request, and every request that waits for an engine, completes with REFUSED_BUDGET on entry to Hold-up (R142). -/
def State.refuseDeferred (s : State) : State :=
  let l := s.wk.deferred ++ s.wk.fabric.filter fun d => decide (2 ≤ d.cls)
  let s := s.modWk fun w => { w with deferred := [], fabric := w.fabric.filter fun d => decide (d.cls < 2) }
  s.forAll l fun d s => s.refuseBudget d.frame d.cmd 1

/-- The largest write that a bank energy in mJ carries in Hold-up, in whole pages (R609). -/
def State.writeMaxOf (s : State) (energy : Nat) : Nat :=
  let w : Rat := (((energy : Int) - (pMax s.ident.variant s.ident.fibre * 250 : Nat) : Int) : Rat) * 125
  (clampI 0 524288 (w.floor / 4096 * 4096)).toNat

/-- `AGE.HOLDUP_WRITE_MAX` in force; with no plan, that of the measured bank (R609, R612). -/
def State.holdupWriteMax (s : State) : Nat := s.age.writeMax.getD (s.writeMaxOf s.age.energy)

/-! ### Rules of the margin plan (R609, R610) -/

/-- S, the largest slowdown, 0.01 %. -/
def State.slowest (s : State) : Int := s.age.slowdown.foldl max (s.age.slowdown.getD 0 0)

/-- The highest of the last 8 flash samples, `AGE.FLASH_ERRORS` (R607). -/
def Ageing.flashErrors (a : Ageing) : Nat := a.flash.foldl max 0

/-- The core step of a slowdown, MHz (R609). -/
def coreStepRule (slow : Int) : Nat := if slow < 600 then 400 else if slow < 1200 then 333 else 286

/-- The refresh interval of a flash error count, days (R609). -/
def refreshRule (errors : Nat) : Nat := if errors ≤ 2 then 365 else if errors ≤ 16 then 90 else if errors ≤ 64 then 30 else 7

/-- The die guard, 0.01 °C (R609). -/
def guardRule (slow : Int) (refresh : Nat) : Nat :=
  min 1500 (200 * ((max 0 (slow - 400)) / 200).toNat + if refresh ≤ 30 then 300 else 0)

/-- The plan in force; before the first one the values of R612. -/
def State.planInForce (s : State) : Plan :=
  if s.age.planned then s.age.plan else { holdupWriteMax := s.writeMaxOf s.age.energy }

/-- The decisions that the rules of R609 give now. -/
def State.planRules (s : State) : Plan :=
  let refresh := refreshRule s.age.flashErrors
  { coreStep := coreStepRule s.slowest, refreshDays := refresh, dieGuard := guardRule s.slowest refresh
    holdupWriteMax := s.writeMaxOf s.age.energy }

/-- A rule of R609 would give a lower core step, a shorter refresh interval, a smaller Hold-up write or a wider guard (R610). -/
def State.planWorse (s : State) : Bool :=
  let p := s.planInForce
  let q := s.planRules
  decide (q.coreStep < p.coreStep) || decide (q.refreshDays < p.refreshDays) || decide (q.holdupWriteMax < p.holdupWriteMax)
    || decide (p.dieGuard < q.dieGuard)

/-- A trigger of a re-plan; one that waits keeps its cause. -/
def State.planTrigger (s : State) (cause : Nat) : State :=
  s.when (decide (s.age.trigger = 0)) fun s => s.modAge fun a => { a with trigger := cause }

/-- The trigger of a measurement (R610). -/
def State.measured (s : State) (cause : Nat) : State := s.when s.planWorse fun s => s.planTrigger cause

/-! ### Hold-up -/

/-- Entry to Hold-up (R70, R602): PW.02 opens every coil path, every work that R600 does not permit stops. -/
def State.enterHoldUp (s : State) : State :=
  let s := s.modPower fun p => { p with onBank := true }
  let s := s.when s.accrues fun s => s.ledAdd (ledKey 3 0) 144 1
  let s := s.setPower 2
  let s := s.modTrs fun t => { t with holdupEvents := satU 32 (t.holdupEvents + 1) }
  let s := s.raise (src 4 2) noItem 4
  let s := s.modProf fun p => { p with i := 0, v := 0, a := 0, target := 0, moving := false, zeroHold := true }
  let s := s.stopProgram 4
  -- the PTP ports stop, and the time base runs on at its rate (R518)
  let s := s.modTime fun t => { t with
    followed := 0xFF, qualify := none, ports := [], state := if t.state = 1 then 2 else t.state, holdoverNs := 0 }
  let s := s.refuseDeferred.refuseInService
  let s := s.endTest 7
  let s := (s.modAge fun a => { a with bankTest := false }).abandonPlan
  match s.vault.writing with
  | some w =>
    if w.bytesLeft ≤ s.holdupWriteMax ∧ s.permitted w.bytesLeft then s
    else
      -- it stops at the end of the page under way (R604)
      let s := s.when (decide (w.phase = 2)) fun s => s.modVault fun v => { v with pagesWritten := satU 32 (v.pagesWritten + 1) }
      (s.giveUp 0).dueAgain w
  | none => s

/-- The main domain goes into reset: no keep signal toggles, so every P-switch opens (R20); Strongroom's switches stay as
its own inputs call for (R19); a Vault write under way stops (R621). -/
def State.mainReset (s : State) : State :=
  let s := (s.giveUp 3).abandonPlan
  let s := s.modPower fun p => { p with mainHeld := true }
  let s := s.modSaf fun x => { x with
    coil := 0, keep := 0, pRead := 0, chopping := 0, close := none, opening := none, pulse := none, permit := none }
  s.modPrg fun p => { p with executing := false }

/-- A cause of a restart that the start records as a fault of its own: PR.02, PR.03 or PR.04 (R24, R28, R37). -/
def recorded (cause : Nat) : Bool := decide (src 5 2 ≤ cause) && decide (cause ≤ src 5 4)

/-- A restart of the main domain begins: it goes into reset, and the start of the given kind follows (R101). Every cause of the same
restart that the start has to record is kept. -/
def State.beginRestart (s : State) (warm : Bool) (cause : Nat) : State :=
  let s := (s.abandonDormant cause).mainReset
  s.modModes fun m => { m with
    restartPending := some warm, restartCause := cause, startKind := if warm then .warmRestart else .coldRestart
    restartSources := if recorded cause && !m.restartSources.contains cause then m.restartSources ++ [cause] else m.restartSources }

/-- The wake of the module by Night Safe (R116, R117): the causes are kept, and the main domain starts when a supply input
is good; else the wake is held. -/
def State.wake (s : State) (causes : Nat) : State :=
  let s := s.modNight fun n => { n with lastWake := causes }
  if s.power.supA || s.power.supB then
    let s := s.modNight fun n => { n with
      inCharge := false, heldWake := none, wokeAt := s.time.ns
      dormantSeconds := satU 32 (n.dormantSeconds + (s.time.ns - n.tookAt) / 1000000000) }
    let s := s.modPower fun p => { p with mainUp := true, mainHeld := true, poweringUp := true }
    let s := s.modModes fun m => { m with
      mode := .m1, restartPending := some true, restartCause := 0, startKind := .wake, housekeeping := decide (causes = 0x10) }
    s
  else s.modNight fun n => { n with heldWake := some causes }

/-- An engine is reset alone (R24, R25): its epoch rises, its local memory is cleared, and what runs on it stops. -/
def State.resetEngine (s : State) (e : Nat) : State :=
  let s := s.modArch fun a => { a with engines := a.engines.modify e fun g =>
    { g with epoch := wrapU 16 (g.epoch + 1), inReset := true } }
  let s := s.raise (src 5 1) (itemEngine e) 2 (single := true)
  -- a survey ends with code 12, its injection at once (R316)
  let s := s.when ((decide (e = 2) || decide (e = 5)) && decide (s.survey.state ≠ 0)) fun s => s.modSurvey fun v => { v with
    engineReset := true, weight := 0 }
  -- the rows of a Tally core in reset are stale (R187)
  let stale := fun (t : Table Brick) => s.usedBricks.foldl (fun t b =>
    if b / 24 % 2 + 3 = e then Table.modify t b fun x => { x with status := putBit x.status 7 true } else t) t
  let s := if e = 3 ∨ e = 4 then { s with rows := stale s.rows, readRows := stale s.readRows } else s
  if e = 2 then
    -- Link core: exchanges under way are lost; sweeps stand still (R26)
    { s with links := s.links.mapVals fun l => { l with
      queue := [], resend := [], outstanding := none, heardCmd := none, owTest := none
      -- a test under way is put off (R245)
      owDeferred := l.owDeferred ++ l.owTest.toList.map fun t => (t.line, t.mons % 4 + (if t.special then 4 else 0))
      enumerating := false, hopCheck := none, waking := false } }
  else if e = 5 then
    -- rail engine: cascade states are in its local memory (R343)
    ({ s with loops := s.loops.mapVals fun l => { l with sections := List.replicate 8 {}, handover := true, ran := false } }).endTest 6
  else if e = 6 then
    let s := s.when (decide (s.prg.state ≠ 0)) fun s => s.raise (src 5 31) noItem 2
    (s.stopProgram 1).modPrg fun p => { p with
      inst := (match s.upd.present with | some i => i.inst | none => []), instCrc := 0, executing := false }
  else if e = 7 then
    -- the rate register keeps its value; the receipt queues are cleared (R518, R524)
    let s := s.modNet fun n => { n with receipts := n.receipts.mapVals fun r => { r with entries := [], awaiting := [] } }
    s.modTime fun t => { t with
      followed := 0xFF, qualify := none, ports := [], state := if t.state = 1 then 2 else t.state, holdoverNs := 0 }
  else s

/-! ### Supplies -/

/-- `SUPPLY_INPUT_FAILED` (R67, R70): input 0 is A, 1 is B. -/
def execSupplyInputFailed (b : Bool) (s : State) : Host.Outcome State Fault Refusal :=
  run (fun s =>
    let s := s.modPower fun p => if b then { p with supB := false } else { p with supA := false }
    let up := s.power.mainUp && !s.power.mainHeld
    if s.power.supA || s.power.supB then
      s.when up fun s => s.raise (src 4 1) (itemContact (if b then 3 else 1)) 1
    else if up && !s.power.onBank then
      let s := (s.endFault (src 4 1) (itemContact 1)).endFault (src 4 1) (itemContact 3)
      s.enterHoldUp
    -- a main domain in reset runs from the bank as well (R70)
    else s.modPower fun p => { p with onBank := p.onBank || p.mainUp }) s

/-- `SUPPLY_INPUT_RESTORED` (R67, R603, R117, R101). -/
def execSupplyInputRestored (b : Bool) (s : State) : Host.Outcome State Fault Refusal :=
  run (fun s =>
    let s := s.modPower fun p => if b then { p with supB := true } else { p with supA := true }
    let s := (s.endFault (src 4 1) (itemContact (if b then 3 else 1))).endFault (src 4 2) noItem
    let other := if b then s.power.supA else s.power.supB
    if s.power.onBank then
      let s := s.modPower fun p => { p with onBank := false }
      s.when (!other) fun s => s.raise (src 4 1) (itemContact (if b then 1 else 3)) 1
    else match s.night.heldWake with
      | some c => if s.night.inCharge then s.wake c else s
      | none =>
        -- the bank reached 20 V in Hold-up: a warm restart with the keep-alive present (R101)
        if s.power.cutOff && s.power.kaPresent then
          let s := s.modPower fun p => { p with cutOff := false, mainUp := true, poweringUp := true }
          s.beginRestart true 0
        else s) s

/-- `HOLD_UP_BANK_CUTOFF` (R70, R21, R38): the main domain is held in reset and the P-switches open; retained SRAM and Night Safe live
on KA_12V alone. -/
def execHoldUpBankCutoff (s : State) : Host.Outcome State Fault Refusal :=
  run (fun s =>
    if s.power.mainUp && !s.power.supA && !s.power.supB then
      let s := s.mainReset
      let s := s.modPower fun p => { p with onBank := false, mainUp := false, cutOff := true, bankMilliVolt := 20000 }
      s.when (!s.power.kaPresent) fun s => ({ s with night := { lost := true } }).modArch fun a => { a with regionGood := 0 }
    else s) s

/-- `SAFE_SUP_LOST` (R71): every H-switch opens; SI.05 at G4 while the main domain is up. -/
def execSafeSupLost (s : State) : Host.Outcome State Fault Refusal :=
  run (fun s =>
    let s := s.modPower fun p => { p with safeSup := false, safeSupSettled := false }
    let s := s.openH
    let s := (s.modSaf fun x => { x with strongIn := [], permit := none, sf4Strong := 0 }).abandonDormant 0x40
    s.when (s.power.mainUp && !s.power.mainHeld) fun s => s.raise (src 3 5) noItem 4) s

/-- `SAFE_SUP_RESTORED` (R71): 100 ms above 18.5 V; Strongroom starts open and disarmed. -/
def execSafeSupRestored (s : State) : Host.Outcome State Fault Refusal :=
  run (fun s =>
    let s := (s.modPower fun p => { p with safeSup := true, safeSupSettled := true }).abandonDormant 0x40
    (s.openH).endFault (src 3 5) noItem) s

/-- `PRESENCE_LOOP_BROKEN` (R58): every H-switch opens; SI.06 at G4. -/
def execPresenceLoopBroken (s : State) : Host.Outcome State Fault Refusal :=
  run (fun s =>
    let s := s.modPower fun p => { p with presence := false, presenceHeld := true }
    let s := s.openH
    s.when (s.power.mainUp && !s.power.mainHeld) fun s => s.raise (src 3 6) noItem 4) s

/-- `PRESENCE_LOOP_CLOSED` (R58): the condition ends; the switches wait for a close. -/
def execPresenceLoopClosed (s : State) : Host.Outcome State Fault Refusal :=
  run (fun s => (s.modPower fun p => { p with presence := true }).endFault (src 3 6) noItem) s

/-- The fault of a supply rail monitor out of range (R605): source, item and grade, none for inputs that R67 and R71 judge. -/
def railFault (m v : Nat) : Option (Nat × Nat × Nat) :=
  if m = 4 then (if v < 9500 then some (src 4 3, itemPin 0 31, 1) else none)
  else if m = 3 then (if 46500 < v then some (src 4 4, itemMonitor 3, 2) else none)
  else if m = 2 ∨ (6 ≤ m ∧ m ≤ 11) then some (src 4 4, itemMonitor m, 2)
  else none

/-- The range of a monitor, mV (R605; R67 for the inputs, R71 for SAFE_SUP). -/
def railSpan : Nat → Nat × Nat
  | 0 | 1 => (16500, 2 ^ 32)
  | 2 => (16000, 33000)
  | 3 => (19000, 46500)
  | 4 => (9500, 16000)
  | 5 => (17000, 2 ^ 32)
  | 6 => (4750, 5250)
  | 7 => (3135, 3465)
  | 8 => (1710, 1890)
  | 9 => (1152, 1248)
  | 10 => (864, 936)
  | _ => (816, 884)

/-- A mean outside the range of a monitor, and one within it; an input and SAFE_SUP come back above a level of their own. -/
def railOut (m v : Nat) : Bool := decide (v < (railSpan m).1) || decide ((railSpan m).2 < v)
def railBack (m v : Nat) : Bool :=
  decide ((if m < 2 then 17500 else if m = 5 then 18500 else (railSpan m).1) ≤ v) && decide (v ≤ (railSpan m).2)

/-- `SUPPLY_RAIL_OUT_OF_RANGE` (R605): the tenth mean in a row outside the range of monitor `m`, in mV. -/
def execSupplyRailOutOfRange (m v : Nat) (s : State) : Host.Outcome State Fault Refusal :=
  if 12 ≤ m then .fault .illFormed
  else run (fun s =>
    if !railOut m v then s else
    let s := s.modTrs fun t => { t with monitors := t.monitors.set m { value := v, out := true } }
    let s := s.when (decide (m = 3)) fun s => s.modPower fun p => { p with bankMilliVolt := v }
    let s := s.when (decide (m = 4)) fun s => s.modPower fun p => { p with kaMilliVolt := v, kaPresent := decide (9500 ≤ v) || p.kaPresent }
    let s := s.when (decide (m = 4) && decide (v < 9500)) fun s => s.abandonDormant 0x20
    match railFault m v with
    | some (a, b, g) => s.raise a b g
    | none => s) s

/-- `SUPPLY_RAIL_BACK_IN_RANGE` (R605): the hundredth mean in a row within the range. -/
def execSupplyRailBackInRange (m v : Nat) (s : State) : Host.Outcome State Fault Refusal :=
  if 12 ≤ m then .fault .illFormed
  else run (fun s =>
    if !railBack m v then s else
    let s := s.modTrs fun t => { t with monitors := t.monitors.set m { value := v, out := false } }
    let s := s.when (decide (m = 3)) fun s => s.modPower fun p => { p with bankMilliVolt := v }
    let s := s.when (decide (m = 4)) fun s => s.modPower fun p => { p with kaMilliVolt := v, kaPresent := true }
    (s.endFault (src 4 4) (itemMonitor m)).when (decide (m = 4)) fun s => s.endFault (src 4 3) (itemPin 0 31)) s

/-- `KEEP_SIGNAL_TIMEOUT` (R20): the driver of path `p` has seen no toggle for 2 ms and opens its switch. -/
def execKeepSignalTimeout (p : Nat) (s : State) : Host.Outcome State Fault Refusal :=
  if 20 ≤ p then .fault .illFormed
  else run (fun s => s.modSaf fun x => { x with
    keep := putBit x.keep p false, pRead := putBit x.pRead p false, chopping := putBit x.chopping p false }) s

/-- `GUARD_LOCKSTEP_MISMATCH` (R23): both Guard cores stop, so the keep signals stop and the P-switches open. -/
def execGuardLockstepMismatch (s : State) : Host.Outcome State Fault Refusal :=
  run (fun s =>
    let s := s.modArch fun a => { a with guardStopped := true }
    s.modSaf fun x => { x with keep := 0, pRead := 0, chopping := 0, pulse := none }) s

/-! ### Engines, memories and clocks -/

/-- An engine fails (R24): the Wicket or Guard core takes the main domain through a warm restart with PR.02. -/
def State.failEngine (s : State) (e : Nat) : State :=
  if e = 1 ∨ e = 8 then (s.beginRestart true (src 5 2)).modModes fun m => { m with restartEngine := e } else s.resetEngine e

/-- `ENGINE_WATCHDOG_EXPIRY` (R24). -/
def execEngineWatchdogExpiry (e : Nat) (s : State) : Host.Outcome State Fault Refusal :=
  if e = 0 ∨ 8 < e then .fault .illFormed else run (fun s => s.failEngine e) s

/-- `ECC_SINGLE_BIT_ERROR` (R41): corrected and counted; PR.06 names the region. The counter's width is no rule of the spec (DESIGN
CHOICE: a saturating u32, log 5). -/
def execEccSingleBitError (region : Nat) (s : State) : Host.Outcome State Fault Refusal :=
  run (fun s =>
    let s := s.modArch fun a => { a with eccCorrected := satU 32 (a.eccCorrected + 1) }
    s.raise (src 5 6) (itemRegion region) 0 (single := true)) s

/-- `ECC_DOUBLE_BIT_ERROR` (R41): the engine that owns the memory is reset, or a retained region becomes invalid. -/
def execEccDoubleBitError (w : EccSite) (s : State) : Host.Outcome State Fault Refusal :=
  match w with
  | .dram e | .engine e => if e = 0 ∨ 8 < e then .fault .illFormed else run (fun s => s.failEngine e) s
  | .retained r => run (fun s => s.modArch fun a => { a with regionGood := putBit a.regionGood r false }) s

/-- `FABRIC_CLOCK_DEPARTURE` (R28): Strongroom holds the main domain in reset. -/
def execFabricClockDeparture (s : State) : Host.Outcome State Fault Refusal :=
  run (fun s => (s.modPower fun p => { p with fabricClockGood := false }).mainReset) s

/-- `FABRIC_CLOCK_RETURN` (R28, R101): the reset is released and the module makes a warm restart, recording PR.04. -/
def execFabricClockReturn (s : State) : Host.Outcome State Fault Refusal :=
  run (fun s =>
    if s.power.fabricClockGood then s
    else (s.modPower fun p => { p with fabricClockGood := true }).beginRestart true (src 5 4)) s

/-- `SYNTH_LOCK_LOST` (R37): the main domain is held in reset. -/
def execSynthLockLost (s : State) : Host.Outcome State Fault Refusal :=
  run (fun s => (s.modPower fun p => { p with synthLocked := false }).mainReset) s

/-- `SYNTH_LOCK_RETURN` (R37): a warm restart that records PR.03. -/
def execSynthLockReturn (s : State) : Host.Outcome State Fault Refusal :=
  run (fun s =>
    if s.power.synthLocked then s
    else (s.modPower fun p => { p with synthLocked := true }).beginRestart true (src 5 3)) s

/-- `FABRIC_BUFFER_EXPIRY` (R26, R143): messages for engine `e`, in reset for 2 sweep cycles, are dropped and counted; the
wicket requests among them complete with ABORTED_PEER_RESET. -/
def execFabricBufferExpiry (e : Nat) (s : State) : Host.Outcome State Fault Refusal :=
  if e = 0 ∨ 8 < e then .fault .illFormed
  else run (fun s =>
    let g := s.arch.engines.get e
    let mine := s.wk.fabric.filter fun d => decide (d.engine = e)
    let n := g.buffer.length + mine.length
    if g.inReset && decide (0 < n) then
      let s := s.modArch fun a => { a with engines := a.engines.modify e fun g =>
        { g with buffer := [], drops := satU 32 (g.drops + n) } }
      let s := s.modWk fun w => { w with
        fabric := w.fabric.filter fun d => decide (d.engine ≠ e), aborted := satU 32 (w.aborted + mine.length) }
      let s := s.forAll mine fun d s => s.complete d.frame d.cmd (refusal 0x06 e g.epoch 0)
      s.raise (src 5 7) (itemEngine e) 2 (single := true)
    else s) s

/-- `POWER_CYCLE` (R121): the four inputs below 5 V together for `t` ms; the latches clear from 2,400 ms on, and what
happens between 2,000 and 2,400 ms is a free value. -/
def execPowerCycle (t : Nat) (s : State) : Host.Outcome State Fault Refusal :=
  run (fun s =>
    let chance := decide (s.free 1 = 1)
    let s := s.nextFree
    let clears := decide (2400 ≤ t) || (decide (2000 ≤ t) && chance)
    let locked := s.modes.latchStrong || s.modes.latchNight
    let s := s.mainReset
    let s := s.openH
    let s := s.modPower fun p => { p with
      supA := false, supB := false, mainUp := false, onBank := false, cutOff := false, kaPresent := false, kaMilliVolt := 0
      safeSup := false, safeSupSettled := false, bankMilliVolt := 0 }
    let s := s.modSaf fun x => { x with strongIn := [], sf4Strong := 0, tripReq := false }
    -- retained SRAM and Night Safe's memory have no feed (R21, R38)
    let s := s.modArch fun a => { a with regionGood := 0 }
    let s := { s with night := { lost := true } }
    let s := s.modModes fun m => { m with restartPending := none, restartSources := [], bootExit := none }
    s.when (clears && locked) fun s => s.modModes fun m => { m with
      latchStrong := false, latchNight := false, latchCleared := true }) s

/-- `KEEP_ALIVE_LOST` (R21): with the main domain off, Night Safe stops, and retained SRAM and its memory are lost. -/
def execKeepAliveLost (s : State) : Host.Outcome State Fault Refusal :=
  run (fun s =>
    let s := s.modPower fun p => { p with kaPresent := false, kaMilliVolt := 0 }
    s.when (!s.power.mainUp) fun s =>
      ({ s with night := { lost := true } }).modArch fun a => { a with regionGood := 0 }) s

/-- `BANK_CHARGE_30V_TO_40V` (R608): the time the charge took, in 10 us, gives the capacitance at 0.25 A; PW.05 below the
floor of 18.47 mF. -/
def State.bankMeasured (s : State) (cap : Nat) : State :=
  let s := s.modAge fun a => { a with cap := cap, energy := cap * 768 / 100 }
  (s.condition (src 4 5) noItem 1 (decide (cap < 1847))).measured 4

/-- `BANK_CHARGE_30V_TO_40V` (R608). C = 0.25 A × t ÷ 10 V, in 0.01 mF with t in 10 us. -/
def execBankCharge30vTo40v (t : Nat) (s : State) : Host.Outcome State Fault Refusal :=
  run (fun s =>
    if s.power.mainUp then
      (s.modPower fun p => { p with bankMilliVolt := 40000 }).bankMeasured (satU 16 ((divNear t 40).toNat))
    else s) s

/-- `RECOVERY_BUTTON_PRESS` (R88): recorded in the Daybook; held at power-up it is an input of the start. It is a wake cause, which
ends a Dormant entry, only where NS.WAKE_MASK enables it (R94, R114; log 177). -/
def execRecoveryButtonPress (s : State) : Host.Outcome State Fault Refusal :=
  run (fun s =>
    if s.power.mainUp && !s.power.mainHeld then
      (s.day 0x0008 0).when (bitOf (s.nat P.nsWakeMask) 7) fun s => s.abandonDormant 0x80
    else s) s

end Sys2Proof.Machine
end

