-- ==== Sys2Proof/Machine/Vault.lean ====
section
/-! DEFINITION. The Vault (chapter 21): its queue of writes, the energy rule, seals, refresh, and what each sealed record
brings into force. -/

namespace Sys2Proof.Machine

open Sys2Proof

/-! ### What a record holds -/

/-- BALANCE, EMPTY_REF and SHUTTLE_CHARGE in 0.1 C: the fields shared with the row as the row has them (R265, R293), the empty reference
to the nearest; each saturated under R13. -/
def Brick.learnedCharges (b : Brick) : Int × Int × Int :=
  (satI 32 (b.q / 100000), satI 32 (divNear b.e 100000), satI 32 (b.shuttleCharge / 100000))

/-- The 64 bytes of a learned record, the CRC-32 of bytes 0 to 59 last (R293). -/
def Brick.record (b : Brick) : List Byte :=
  let (q, e, h) := b.learnedCharges
  let l := wireBytes [(4, patI 32 q), (4, patI 32 e), (4, b.c), (4, patI 32 h), (2, b.seriesRes), (2, b.rcARes), (2, b.rcATau),
    (2, b.rcBRes), (2, b.rcBTau), (2, b.ocvLast), (4, b.anchorTime), (2, b.fullAnchors), (2, b.emptyAnchors), (2, b.learns),
    (2, patI 16 b.vOffset), (4, patI 32 b.restBalance), (2, b.restPosition), (2, b.flags), (4, b.restTime), (2, b.learnRejects),
    (2, b.driftCount), (4, 0)]
  l ++ leBytes 4 (crc32 l)

/-- Record `b` of a generation as its region holds it (R293, R295). -/
def Generation.record (g : Generation) (b : Nat) : List Byte := (g.bricks.get b).record

/-- The learned record of a brick (R293): what its 64 bytes keep. -/
def Brick.learned (b : Brick) : Brick :=
  { q := b.learnedCharges.1 * 100000, e := b.learnedCharges.2.1 * 100000, c := b.c,
    shuttleCharge := b.learnedCharges.2.2 * 100000, seriesRes := b.seriesRes, rcARes := b.rcARes, rcATau := b.rcATau,
    rcBRes := b.rcBRes, rcBTau := b.rcBTau, ocvLast := b.ocvLast, anchorTime := b.anchorTime, fullAnchors := b.fullAnchors,
    emptyAnchors := b.emptyAnchors, learns := b.learns, vOffset := b.vOffset, restBalance := satI 32 b.restBalance,
    restPosition := b.restPosition, flags := b.flags, restTime := b.restTime, learnRejects := b.learnRejects,
    driftCount := b.driftCount }

/-- The native time stamp of a record: seconds as 6 bytes, nanoseconds as 4 (R625). -/
def stampFields (ns : Nat) : List (Nat × Nat) := [(6, ns / 1000000000), (4, ns % 1000000000)]

/-- The content of a Lockout log entry (R625). -/
def LockEntry.bytes (e : LockEntry) : List Byte :=
  wireBytes ([(1, e.kind), (1, e.mode), (2, e.source), (4, e.item)] ++ stampFields e.time
    ++ [(4, e.settingsCrc), (4, e.setCrc), (2, e.present.length)] ++ e.present.map fun w => (8, w))

/-- The content of a margin plan record, its CRC-32 last (R626). -/
def Plan.bytes (p : Plan) : List Byte :=
  let l := wireBytes ([(4, p.generation), (1, p.cause), (1, 0), (2, p.coreStep), (8, p.time), (2, p.refreshDays), (2, p.dieGuard),
    (4, p.holdupWriteMax)] ++ (List.range 4).map (fun b => (2, patI 16 (p.slowdown.getD b 0)))
    ++ [(4, p.flashErrors), (2, p.holdupCap), (2, 0), (4, p.holdupEnergy), (4, patI 32 p.tcxo), (4, patI 32 p.tcxoDrift)])
  l ++ leBytes 4 (crc32 l)

/-- The content of a control record, its CRC-32 last (R628). -/
def Control.bytes (c : Control) : List Byte :=
  let l := wireBytes [(4, c.generation), (1, c.confirmed), (1, c.trialSlot), (1, c.trialState), (1, c.lastResult),
    (1, c.slotState.getD 0 0), (1, c.slotState.getD 1 0), (2, c.slotIssue.getD 0 0), (2, c.slotIssue.getD 1 0),
    (4, c.pinnedSettings), (4, c.pinnedSafety), (1, c.recovery), (1, 0)]
  l ++ leBytes 4 (crc32 l)

/-- The content of a record, where this chapter lays all of it out (R625, R626, R628). -/
def Content.bytes : Content → Option (List Byte)
  | .control c => some c.bytes
  | .plan p => some p.bytes
  | .lockout e => some e.bytes
  | _ => none

/-- CONTENT_CRC of a seal: over whole pages, the unused bytes of the last at 0xFF (R617). -/
def contentCrc (pages : Nat) (l : List Byte) : Nat := crc32 (l ++ List.replicate (4096 * pages - l.length) 0xFF#8)

/-- Bytes 0 to 31 of the seal page behind a record in a slot, its CRC-32 last (R617). -/
def VaultRec.seal (r : VaultRec) (region slot crc length : Nat) : List Byte :=
  let l := wireBytes [(4, 0x5EA10A5A), (1, region), (1, if region = 9 then r.origin else slot), (2, r.pages), (4, r.generation), (4, crc),
    (4, length), (8, r.time)]
  l ++ leBytes 4 (crc32 l)

/-- The checks that make a seal valid for its place and for the content read (R619). -/
def sealValid (page : List Byte) (region slot crc : Nat) : Bool :=
  let at' := fun (off n : Nat) => leNat ((page.drop off).take n)
  decide (at' 0 4 = 0x5EA10A5A) && decide (at' 4 1 = region) && decide (at' 5 1 = slot) && decide (at' 12 4 = crc)
    && decide (at' 28 4 = crc32 (page.take 28))

/-- The next generation number of a region; the Lockout log has 32 slots. -/
def State.nextGen (s : State) (region : Nat) : Nat :=
  if region = 3 then
    1 + (List.range 32).foldl (fun m k => match s.vrec 3 k with | some r => max m r.generation | none => m) 0
  else match s.newest region with | some (_, r) => r.generation + 1 | none => 1

/-- The Lockout log goes on to its next entry (R625). An entry that ends a block has the next block erased at once, with the entries
that it held (R618). -/
def State.lockAdvance (s : State) : State :=
  s.modVault fun v =>
    let k := (v.lockNext + 1) % 32
    { v with
      lockNext := k
      records := if k % 8 = 0 then (List.range 8).foldl (fun t i => t.set (64 * 3 + k + i) none) v.records else v.records }

/-- A generation of learned values: a snapshot of all staging (R295). -/
def State.learnedGeneration (s : State) : Generation :=
  { number := s.nextGen 4, time := s.time.ns, sweep := s.time.sweep, settingsCrc := s.settingsCrc,
    ids := (List.range 128).filterMap fun n =>
      let l := s.links.get n
      if l.learnedId0 = 0 ∧ l.learnedId1 = 0 then none else some (n, l.learnedId0, l.learnedId1),
    bricks := s.bricks.mapVals Brick.learned }

/-- V_th[r] of R427 before its limit, in mV: the trip current over the scale. -/
def vthRaw (trip : Int) (scale : Rat) : Rat := if scale = 0 then 0 else (trip : Rat) / scale

/-- V_th of every rail with the safety set `val` and the Hall scales in force, and the mask of those limited to 9,990 mV (R427). -/
def State.deriveVth (s : State) (val : Nat → Int) : List Nat × Nat :=
  let raw := (List.range 8).map fun r => vthRaw (val (P.ocTripCurrent r)) (s.real (P.railHallScale r))
  let down := raw.map fun v => (v / 10).floor.toNat * 10
  (down.map (min 9990), ofIdx ((List.range 8).filter fun r => decide (9990 < down.getD r 0)))

/-- The value of a sealed parameter in force, or as a set about to be sealed gives it. -/
def State.sealedVal (s : State) (i : Nat) : Int := match s.par.sealing with
  | some l => (match l.find? fun e => e.1 == i with | some e => e.2 | none => s.val i)
  | none => s.val i

/-- The safety set as its record holds it: the sealed values that differ from their defaults. -/
def State.sealedTable (s : State) : Table (Option Int) :=
  sealedIdx.foldl (fun t i => let v := s.sealedVal i; if v = dfltOf s.ident i then t else t.set i (some v)) []

/-- A Ledger generation of the records as they stand (R588). -/
def State.ledgerGeneration (s : State) (kind stamp : Nat) : LedgerGen :=
  { number := s.recs.closeGen + 1, kind := kind, stamp := stamp, sweep := s.time.sweep, settingsCrc := s.settingsCrc,
    gap := s.recs.gap, since := s.recs.since, records := s.recs.live }

/-- Content pages of `n` bytes. -/
def pagesFor (n : Nat) : Nat := max 1 ((n + 4095) / 4096)

/-- Content pages of a record (R293, R295, R584, R616, R625, R626, R628); the headers of a settings and of a Ledger
generation are taken as 32 bytes. -/
def Content.pages (c : Content) (staged : Nat) : Nat := match c with
  | .control _ | .plan _ | .lockout _ => 1
  | .safety _ _ _ => pagesFor (12 * sealedIdx.length + 16)
  | .learned _ => 49
  | .settings _ _ => pagesFor (32 + 12 * (dictW.foldl (fun n r => if r.kept = 2 then n + r.count * r.sub else n) 0) + 4 + 4 * 1004)
  | .ledger _ => pagesFor (32 + 6144 * 528 + 3072 * 124 + 8 * 192 + 160)
  | .issue _ | .program _ => pagesFor staged

/-- The region that a write of R620 goes to; a refresh names its own. -/
def orderRegion (order : Nat) : Nat := match order with
  | 1 => 3 | 2 => 2 | 3 => 0 | 4 => 5 | 5 => 4 | 6 => 1 | 7 => 8 | 8 => 7 | _ => 6

/-- The target slot of an alternating region: not the newest record's, and in a trial not the pinned one's (R616, R637). -/
def State.targetSlot (s : State) (region : Nat) : Nat :=
  let pin := if region = 5 then s.upd.control.pinnedSettings else if region = 2 then s.upd.control.pinnedSafety else 0
  let pinned := (List.range 2).find? fun k => s.upd.trial && decide (0 < pin) &&
    (match s.vrec region k with | some r => r.valid && decide (r.generation = pin) | none => false)
  match pinned with
  | some k => 1 - k
  | none => match s.newest region with | some (k, _) => 1 - k | none => 0

/-! ### Starting a write -/

/-- A die sensor reads 130 C or above (R405). -/
def State.dieTooHot (s : State) : Bool := (List.range 4).any fun d => decide (13000 ≤ (s.therm.dies.get d).value)

/-- Every die sensor reads below TH.DIE_SHUTDOWN less the guard (R405). -/
def State.dieBelowShutdown (s : State) : Bool :=
  (List.range 4).all fun d => decide ((s.therm.dies.get d).value < s.val P.thDieShutdown - s.age.guard)

/-- A write of an order may start now (R299, R404, R405, R604, R623, R641). -/
def State.orderMayStart (s : State) (order : Nat) : Bool :=
  decide (s.trs.state ≠ 2) && !s.power.onBank
    && (decide (order = 1) || !s.therm.vaultHeld)
    && (decide (order < 7) || decide (44000 ≤ s.power.bankMilliVolt))
    && (decide (s.modes.mode ≠ .m2) || ((decide (order = 3) || decide (order = 9)) && (s.power.supA || s.power.supB)))

/-- The first queued order that may start, with no background write before the writes of orders 1 to 7. -/
def State.nextOrder (s : State) : Option Nat :=
  (List.range 11).find? fun o => decide (0 < o) && bitOf s.vault.queued o && s.orderMayStart o

/-- The write of an order as it starts, with its snapshot; none when nothing is left to write. -/
def State.writeOf (s : State) (order : Nat) : Option Writing :=
  let region := orderRegion order
  let mk := fun (slot gen : Nat) (c : Content) (staged : Nat) =>
    some { order := order, region := region, slot := slot, generation := gen, content := c, pages := c.pages staged : Writing }
  let alt := s.targetSlot region
  match order with
  | 1 => match s.vault.lockouts with
    | e :: _ => mk s.vault.lockNext (s.nextGen 3) (.lockout e) 0
    | [] => none
  | 2 =>
    -- a set taken from the partner is in force already (R495)
    let g := if s.par.sealing.isSome then s.par.setGeneration + 1 else s.par.setGeneration
    mk alt g (.safety g s.sealedTable (s.deriveVth s.sealedVal).1) 0
  | 3 => mk alt (s.upd.control.generation + 1) (.control { s.upd.control with generation := s.upd.control.generation + 1 }) 0
  | 4 => mk alt (s.newSettings).generation (.settings s.newSettings (if s.par.committing then s.upd.anchorsWork else s.upd.anchors)) 0
  | 5 => mk alt (s.nextGen 4) (.learned s.learnedGeneration) 0
  | 6 => match s.age.running with
    | some p => mk alt p.generation (.plan p) 0
    | none => none
  | 7 => match s.recs.due with
    | some (kind, stamp) => mk alt (s.recs.closeGen + 1) (.ledger (s.ledgerGeneration kind stamp)) 0
    | none => none
  | 8 => mk s.upd.slot 1 (.program {}) s.upd.length
  | 9 => mk s.upd.slot 1 (.issue {}) s.upd.length
  | _ => match s.vault.refreshLeft with
    | (r, k) :: _ =>
      -- region 9 copies a slot to the spare; a slot of regions 6 and 7 is written again from it (R624)
      let from' : Option VaultRec :=
        if r = 9 then s.vrec (k / 16) (k % 16)
        else if r = 6 ∨ r = 7 then s.vrec 9 0
        else if r = 3 then s.vrec 3 k
        -- the pinned record of a trial stays, and its region is not copied over it (R637)
        else if (s.newest r).map (·.1) = some (s.targetSlot r) then none
        else (s.newest r).map (·.2)
      from'.map fun v =>
        { order := 10, region := r, slot := if r = 9 then 0 else if r = 3 then s.vault.lockNext else if r = 6 ∨ r = 7 then k else s.targetSlot r,
          generation := if r = 3 then s.nextGen 3 else v.generation, content := v.content, pages := v.pages }
    | [] => none

/-- A background write that has yielded goes on when no write of order 1 to 7 waits (R620). -/
def State.resumeYielded (s : State) : State :=
  match s.vault.yielded with
  | some w =>
    if s.vault.writing.isNone && decide (s.vault.queued % 256 = 0) then
      s.modVault fun v => { v with writing := some { w with yielded := false }, yielded := none }
    else s
  | none => s

/-- Take the entry of an order out of the queue as its write starts: the Lockout log keeps its bit while entries wait. -/
def State.dequeue (s : State) (order : Nat) : State :=
  s.modVault fun v =>
    if order = 1 then { v with lockouts := v.lockouts.drop 1, queued := putBit v.queued 1 (decide (1 < v.lockouts.length)) }
    else if order = 10 then { v with refreshLeft := v.refreshLeft.drop 1, queued := putBit v.queued 10 (decide (1 < v.refreshLeft.length)) }
    else { v with queued := putBit v.queued order false }

/-- A refresh that has written its last slot (R624): LAST_REFRESH and a VAULT_REFRESHED entry for each region. -/
def State.refreshEnd (s : State) : State :=
  (s.modVault fun v => { v with lastRefresh := s.secs }).forAll (List.range 9) fun r s => s.day 0x0043 r

/-- Start the next queued write (R620): its snapshot is taken and its erase begins. -/
def State.startWrite (s : State) : State :=
  if s.vault.writing.isSome || !s.power.mainUp || s.power.mainHeld then s
  else match s.nextOrder with
    | none => s.resumeYielded
    | some o =>
      if o = 1 ∧ (s.dieTooHot || (s.therm.vaultHeld && !s.dieBelowShutdown)) then
        -- the Lockout record waits for the die (R405)
        s.raise (src 2 14) noItem 0
      else if 8 ≤ o ∧ s.vault.yielded.isSome then s.resumeYielded
      else
        let w := s.writeOf o
        let s := (s.endFault (src 2 14) noItem).dequeue o
        let s := s.when (decide (o = 7)) fun s => s.modRecs fun r => { r with pending := false }
        match w with
        | some w =>
          let s := s.modVault fun v => { v with writing := some w }
          if o = 5 then s.modEst fun e => { e with holdoff := false } else s
        -- a refresh item that has no record to copy
        | none => if o = 10 ∧ s.vault.refreshLeft = [] then s.refreshEnd else s

/-- `VAULT_WRITE_START` (R620). -/
def execVaultWriteStart (s : State) : Host.Outcome State Fault Refusal := run State.startWrite s

/-! ### The steps of a write (R618) -/

/-- Begin the pages of a write, or let a protected one wait on the energy rule (R622, R623, R405). -/
def State.tryProgram (s : State) (w : Writing) (again : Bool) : State :=
  let protectedW := decide (w.order ≤ 6)
  -- the mask ROM programs a page only while a supply input is good (R641)
  let ready := !s.dieTooHot && (decide (s.modes.mode ≠ .m2) || s.power.supA || s.power.supB)
  if !ready then s.modVault fun v => { v with writing := some { w with phase := 1 }, refused := 0 }
  else if protectedW && decide (w.done = 0) && !s.permitted w.bytesLeft then
    let s := s.modVault fun v => { v with
      writing := some { w with phase := 1 }, refusals := satU 32 (v.refusals + 1), refused := if again then v.refused + 1 else 0 }
    s.when (!again) fun s => s.day 0x0042 w.region
  else
    let s := s.modVault fun v => { v with writing := some { w with phase := 2 }, refused := 0 }
    s.endFault (src 6 3) (item 9 w.region)

/-- `VAULT_ERASE_COMPLETE` (R618, R622): the target slot is erased, and the energy rule is applied. -/
def execVaultEraseComplete (s : State) : Host.Outcome State Fault Refusal :=
  run (fun s => match s.vault.writing with
    | some w =>
      if w.phase = 0 then
        (s.modVault fun v => { v with records := v.records.set (64 * w.region + w.slot) none }).tryProgram w false
      else s
    | none => s) s

/-- `VAULT_ENERGY_RETEST` (R623): a write that waits is tested again. -/
def execVaultEnergyRetest (s : State) : Host.Outcome State Fault Refusal :=
  run (fun s => match s.vault.writing with
    | some w => if w.phase = 1 then s.tryProgram w true else s
    | none => s) s

/-- `VAULT_REFUSAL_TIMEOUT` (R623): 60 s of refusal raise ST.03 naming the region; the write goes on waiting. -/
def execVaultRefusalTimeout (s : State) : Host.Outcome State Fault Refusal :=
  run (fun s => match s.vault.writing with
    -- the first refusal and the tests of every second since
    | some w => if w.phase = 1 ∧ 59 ≤ s.vault.refused then s.raise (src 6 3) (item 9 w.region) 2 else s
    | none => s) s

/-- `VAULT_PAGE_PROGRAMMED` (R618, R620, R604): the next page starts, the read-back starts, or a background write yields at a
block boundary; a background staging waits for its next whole page. -/
def execVaultPageProgrammed (s : State) : Host.Outcome State Fault Refusal :=
  run (fun s => match s.vault.writing with
    | some w =>
      let staged := decide (w.order = 8) || decide (w.order = 9)
      if w.phase ≠ 2 ∨ (staged && decide (s.upd.received / 4096 ≤ w.done)) then s
      else
        let w := { w with done := w.done + 1 }
        let s := s.modVault fun v => { v with pagesWritten := satU 32 (v.pagesWritten + 1) }
        if s.power.onBank && decide (8 ≤ w.order) then (s.modVault fun v => { v with writing := some w }).abandonWrite 0
        else if w.pages ≤ w.done && !staged then s.modVault fun v => { v with writing := some { w with phase := 3 } }
        else if 8 ≤ w.order ∧ w.done % 16 = 0 ∧ s.vault.queued % 256 ≠ 0 then
          s.modVault fun v => { v with writing := none, yielded := some { w with yielded := true } }
        else (s.modVault fun v => { v with writing := some w }).tryProgram w true
    | none => s) s

/-! ### What a seal brings into force -/

/-- The Lockout records are all sealed, or the other writes are held back: MODE.LOCKOUT_CAUSE is set (R119, R404). -/
def State.lockoutSettle (s : State) : State :=
  match s.modes.lockoutPending with
  | none => s
  | some c =>
    let busy := match s.vault.writing with | some w => decide (w.order = 1) || decide (w.order = 5) || decide (w.order = 7) | none => false
    let rest := s.therm.vaultHeld || (!bitOf s.vault.queued 5 && !bitOf s.vault.queued 7)
    if s.vault.lockouts.isEmpty && !busy && rest then
      s.modModes fun m => { m with lockoutCause := c, lockoutPending := none }
    else s

/-- A learned-value generation is sealed or given up: what waited for it goes on (R297, R298); only a seal lets a Dormant entry go
on (R111). -/
def State.learnedEnd (s : State) (isSealed : Bool) : State :=
  let s := s.when s.est.again fun s => (s.modEst fun e => { e with again := false }).queueVault 5
  let s := s.modModes fun m => { m with dormantSealed := (m.dormantEntry && isSealed) || m.dormantSealed }
  match s.wk.restarting with
  | some f =>
    let s := s.modWk fun w => { w with restarting := none }
    let s := s.complete f { code := 0x0202, kind := .a, cls := 1 } done
    s.modModes fun m => { m with restartPending := some false, restartCause := 0 }
  | none => s

/-- What the record of a region brings into force once its seal is read back. -/
def State.sealed (s : State) (w : Writing) : State :=
  match w.order, w.content with
  | 1, .lockout e =>
    let s := s.lockAdvance
    let p := e.item % 65536
    if e.kind = 2 then s.modSaf fun x => { x with weldKept := putBit x.weldKept p true }
    else if e.kind = 3 then s.modSaf fun x => { x with weldKept := putBit x.weldKept p false } else s
  | 2, .safety _ _ _ =>
    s.modPar fun p => { p with confirmedSet := p.sealing.or p.confirmedSet, sealing := none }
  | 3, .control c =>
    let s := s.modUpd fun u => { u with control := { u.control with generation := c.generation } }
    match s.upd.sealRestart with
    | some warm =>
      (s.modUpd fun u => { u with sealRestart := none }).modModes fun m => { m with restartPending := some warm, restartCause := 0 }
    | none => s
  | 4, .settings x a =>
    let s := s.day 0x000C x.generation
    let s := s.when s.fitted fun s => s.modTwin fun t => { t with bulkOut := t.bulkOut ++ [.settings x a] }
    let s := s.slip 0x000F [(2, x.generation), (4, x.crc)]
    -- a generation begun before the commit is not the one committed (R171)
    if s.par.committing && !bitOf s.vault.queued 4 then
      -- runtime values that came from the partner are in force from here on (R494)
      let taken := x.values.filter fun e => match wRow e.1 with | some r => r.acc == .rw && r.kept == 2 | none => false
      let own := s.par.force.filter fun e => match wRow e.1 with | some r => !(r.acc == .rw && r.kept == 2) | none => true
      let s := s.modPar fun p => { p with committing := false, force := taken.foldl (fun t e => t.set e.1 e.2) own }
      let s := s.modUpd fun u => { u with anchors := u.anchorsWork }
      if s.upd.trial then
        (s.modUpd fun u => { u with control := { u.control with trialState := 1 }, sealRestart := some true }).queueVault 3
      else s.modModes fun m => { m with restartPending := some true, restartCause := 0 }
    else s
  | 5, .learned g =>
    (s.modEst fun e => { e with learnedGen := g.number }).learnedEnd true
  | 6, .plan p =>
    s.modAge fun a => { a with plan := p, planned := true, apply := true, running := none, request := a.request && decide (a.trigger = 6) }
  | 7, .ledger g =>
    let s := s.modRecs fun r => { r with
      closeGen := satU 32 g.number, lastClose := g.stamp / 1000000000, lastKind := g.kind, pending := false, due := none, gap := false }
    let s := s.day 0x000F (256 * g.kind)
    s.when (decide (g.kind = 1)) fun s => s.dayNew 0x0009 g.number g.stamp
  | 10, _ =>
    if w.region = 3 then s.lockAdvance
    else if w.region = 6 ∨ w.region = 7 then s.modVault fun v => { v with records := v.records.set (64 * 9) none }
    else s
  | _, _ => s

/-- `VAULT_READBACK_COMPLETE` (R618): the CRC-32 of the content read back equals that of its source, or the write is abandoned with
ST.03. -/
def execVaultReadbackComplete (x : ReadBack) (s : State) : Host.Outcome State Fault Refusal :=
  run (fun s => match s.vault.writing with
    | some w =>
      if w.phase ≠ 3 then s
      else if x.read = x.source then s.modVault fun v => { v with writing := some { w with phase := 4 } }
      else
        let s := s.modVault fun v => { v with abandoned := satU 32 (v.abandoned + 1), writing := none }
        let s := (s.day 0x0041 (w.region + 256 * 4)).raise (src 6 3) (item 9 w.region) 2
        let s := s.when (decide (w.order = 7)) fun s => (s.modRecs fun r => { r with pending := false }).day 0x000F (1 + 256 * ((s.recs.due.map (·.1)).getD 1))
        let s := s.when (decide (w.order = 6)) State.abandonPlan
        let s := s.when (decide (w.order = 5)) fun s => s.learnedEnd false
        let s := s.when (decide (w.order ≤ 4)) fun s => s.dueAgain w
        s.lockoutSettle.resumeYielded
    | none => s) s

/-- The place that a spare copy is of (R617): the slot that holds the same content. -/
def State.spareOrigin (s : State) (c : Content) : Nat :=
  ([(6, 0), (6, 1), (7, 0), (7, 1)].find? fun x => (s.vrec x.1 x.2).map (·.content) == some c).elim 0 fun x => 16 * x.1 + x.2

/-- `VAULT_SEAL_COMPLETE` (R618): the seal is read back; the record is written from here on and is the newest of its region. -/
def execVaultSealComplete (s : State) : Host.Outcome State Fault Refusal :=
  run (fun s => match s.vault.writing with
    | some w =>
      if w.phase ≠ 4 then s
      else
        let record : VaultRec := {
          generation := w.generation, pages := w.pages, time := s.secs, content := w.content
          origin := if w.region = 9 then s.spareOrigin w.content else 0 }
        let s := s.modVault fun v => { v with
          records := v.records.set (64 * w.region + w.slot) (some record), writing := none
          pagesWritten := satU 32 (v.pagesWritten + 1) }
        let s := s.endFault (src 6 3) (item 9 w.region)
        let s := (s.day 0x0040 (w.region + 256 * (w.generation % 2 ^ 24))).sealed w
        let s := s.when (decide (w.order = 10) && s.vault.refreshLeft.isEmpty) State.refreshEnd
        s.lockoutSettle.resumeYielded
    | none => s) s

/-! ### Refresh -/

/-- The writes of a refresh in rising region code (R624): other slot of each alternating region that has a record, the newest
8 Lockout entries again, and each valid issue or program slot by way of the spare region. -/
def State.refreshItems (s : State) : List (Nat × Nat) :=
  let alt := fun (r : Nat) => if (s.newest r).isSome then [(r, 0)] else []
  let slots := fun (r : Nat) => ((List.range 2).filter fun k => match s.vrec r k with | some v => v.valid | none => false).flatMap
    fun k => [(9, 16 * r + k), (r, k)]
  let log := ((List.range 8).reverse.map fun i => (s.vault.lockNext + 31 - i) % 32).filter fun k => (s.vrec 3 k).isSome
  alt 0 ++ alt 1 ++ alt 2 ++ log.map (fun k => (3, k)) ++ alt 4 ++ alt 5 ++ slots 6 ++ slots 7 ++ alt 8

/-- `VAULT_REFRESH_DUE` (R624): every region is queued to be refreshed. -/
def execVaultRefreshDue (s : State) : Host.Outcome State Fault Refusal :=
  run (fun s =>
    if !s.power.mainUp || s.power.mainHeld || s.inRom || bitOf s.vault.queued 10 then s
    else (s.modVault fun v => { v with refreshLeft := s.refreshItems }).queueVault 10) s

/-- `DIE_COOL_VAULT_RESUME` (R405): the writes held back after a thermal shutdown may be made. -/
def execDieCoolVaultResume (s : State) : Host.Outcome State Fault Refusal :=
  run (fun s => s.modTherm fun t => { t with vaultHeld := false }) s

end Sys2Proof.Machine
end

