-- ==== Sys2Proof/Machine/Update.lean ====
section
/-! DEFINITION. Field update (chapter 21): trust anchors, the update lease, staging and verification of images, trials and
their ends. -/

namespace Sys2Proof.Machine

open Sys2Proof

/-! ### The lease (R632, R633) -/

/-- The largest image length a lease accepts, by kind (R633). -/
def imageMost (kind : Nat) : Nat := if kind = 0 then 8384512 else 6287360

/-- The slot an image of a kind goes to (R633); in M2 the slot that holds no verified confirmed issue, slot 0 when none does (R642). -/
def State.imageSlot (s : State) (kind : Nat) : Nat :=
  if kind = 1 then 1 - s.upd.presentSlot
  else if s.modes.mode = .m2 then
    (if s.upd.control.slotState.getD 0 0 = 3 then 1 else 0)
  else 1 - s.upd.runningSlot

/-- The region of an image kind. -/
def imageRegion (kind : Nat) : Nat := if kind = 1 then 7 else 6

/-- The order of R620 of a staging write. -/
def stagingOrder (kind : Nat) : Nat := if kind = 1 then 8 else 9

/-- Change the control record in force; its new content is queued to be sealed. -/
def State.modControl (s : State) (g : Control → Control) : State :=
  (s.modUpd fun u => { u with control := g u.control }).queueVault 3

/-- Set state and issue number of an issue slot (R628). -/
def State.setSlot (s : State) (slot state issue : Nat) : State :=
  s.modControl fun c => { c with
    slotState := updAt c.slotState slot fun _ => state, slotIssue := updAt c.slotIssue slot fun _ => issue }

/-- The staging write leaves the Vault's queue. -/
def State.dropStaging (s : State) : State :=
  let o := stagingOrder s.upd.kind
  s.modVault fun v => { v with
    queued := putBit v.queued o false
    writing := (match v.writing with | some w => if w.order = o then none else some w | none => none)
    yielded := (match v.yielded with | some w => if w.order = o then none else some w | none => none) }

/-- The lease ends (R632): before IMAGE_FINISH it leaves the target slot empty. -/
def State.endLease (s : State) (cause : Nat) : State :=
  match s.upd.holder with
  | none => s
  | some _ =>
    let kind := s.upd.kind
    let slot := s.upd.slot
    let s := if cause = 1 then s
      else
        let s := s.dropStaging
        let s := s.modVault fun v => { v with records := v.records.set (64 * imageRegion kind + slot) none }
        let s := s.when (decide (kind = 0)) fun s => s.setSlot slot 0 0
        s.modUpd fun u => { u with received := 0 }
    let s := s.modUpd fun u => { u with holder := none, chunks := [] }
    s.day 0x0049 cause

/-- An issue command of the holder renews the lease (R632). -/
def State.renewLease (s : State) (f : Frame) : State :=
  if s.upd.holder = some f.src then
    s.modUpd fun u => { u with leaseEnd := s.time.ns + s.nat P.updLeaseTime * 1000000000 }
  else s

/-- IMAGE_LEASE_HELD: the holder's address and the time left (R138). -/
def State.leaseHeld (s : State) : Reply :=
  refusal 0x08 0 (s.upd.holder.getD 0) ((s.upd.leaseEnd - s.time.ns) / 1000000000)

/-- NOT_IN_MODE with the number of an unmet condition of R633, the first of those that the command checks. -/
def State.unmet (s : State) (l : List (Nat × Bool)) : Option Reply :=
  (l.find? fun x => !x.2).map fun x => s.notInMode x.1

/-- Condition 1 of R633. -/
def State.noTrial (s : State) : Bool := !s.upd.trial && !s.upd.partnerTrial

/-- Condition 3 of R633. -/
def State.partnerReach (s : State) : Bool :=
  s.fitted && decide (s.twinState = 2) &&
    (match s.twin.partner with | some p => decide (p.mode ≠ 5) && decide (p.mode ≠ 6) | none => false)

/-- A verified image is sent to the partner in BULK blocks (R635). -/
def State.sendImage (s : State) (kind : Nat) (info : IssueInfo) (prog : ProgramImage) : State :=
  if s.fitted && decide (s.modes.mode ≠ .m2) then
    let b : Bulk := if kind = 0 then .issueImage info 0 else .programImage prog 0
    let s := s.modTwin fun t => { t with bulkOut := t.bulkOut ++ [b] }
    (s.modUpd fun u => { u with partnerStage := 1 }).day 0x004D 1
  else s

def cmdLeaseAcquire : Cmd := { code := 0x0901, kind := .u, cls := 4 }
def cmdLeaseRelease : Cmd := { code := 0x0902, kind := .u, cls := 4 }
def cmdImageChunk : Cmd := { code := 0x0903, kind := .u, cls := 4 }
def cmdImageFinish : Cmd := { code := 0x0904, kind := .u, cls := 4 }
def cmdIssueTrial : Cmd := { code := 0x0905, kind := .u, cls := 4 }
def cmdIssueConfirm : Cmd := { code := 0x0906, kind := .u, cls := 4 }
def cmdIssueReject : Cmd := { code := 0x0907, kind := .u, cls := 4 }
def cmdAnchorWrite : Cmd := { code := 0x0908, kind := .u, cls := 4 }

/-- The reply of LEASE_ACQUIRE. -/
def State.leaseReply (s : State) (state slot : Nat) : Reply :=
  done [(1, state), (1, slot), (2, s.nat P.updLeaseTime), (4, s.upd.received)]

/-- The record of a verified staged image, to be sent again (R635). -/
def State.resendImage (s : State) (kind slot : Nat) : State :=
  match s.vrec (imageRegion kind) slot with
  | some r => match r.content with
    | .issue i => s.sendImage 0 i {}
    | .program p => s.sendImage 1 {} p
    | _ => s
  | none => s

/-- LEASE_ACQUIRE carried out (R633). -/
def bodyLeaseAcquire (f : Frame) (kind length digest : Nat) (s : State) : Answer :=
  let s := s.renewLease f
  if 1 < kind ∨ (s.modes.mode = .m2 ∧ kind ≠ 0) then (some (fieldRange 0 0 (if s.modes.mode = .m2 then 0 else 1)), s)
  else if length = 0 ∨ imageMost kind < length then (some (lengthInvalid length (imageMost kind) 4), s)
  else match s.unmet [(1, s.noTrial)] with
    | some r => (some r, s)
    | none =>
      let same := s.upd.kind == kind && s.upd.digest == digest
      match s.upd.holder with
      | some a =>
        if a = f.src then
          if same then (some (s.leaseReply 0 s.upd.slot), s) else (some (busy 5), s)
        else if same then (some (s.leaseReply 1 s.upd.slot), s)
        else (some s.leaseHeld, s.day 0x004A f.src)
      | none =>
        let slot := s.imageSlot kind
        if s.upd.staged = some (kind, digest) then (some (s.leaseReply 2 slot), s.resendImage kind slot)
        else
          let s := s.modUpd fun u => { u with
            holder := some f.src, kind := kind, length := length, digest := digest, slot := slot, chunks := [], received := 0
            broken := false, leaseEnd := s.time.ns + s.nat P.updLeaseTime * 1000000000
            staged := if u.staged.map (·.1) = some kind then none else u.staged }
          let s := s.when (decide (kind = 0)) fun s => s.setSlot slot 1 0
          let s := (s.queueVault (stagingOrder kind)).day 0x0048 f.src
          (some (s.leaseReply 0 slot), s)

/-- `LEASE_ACQUIRE` (R633). -/
def execLeaseAcquire (f : Frame) (kind length digest : Nat) (s : State) : Host.Outcome State Fault Refusal :=
  run (fun s => s.wicket f cmdLeaseAcquire (.leaseAcquire f kind length digest) (fixedLen f 56)
    (bodyLeaseAcquire f kind length digest) (also := decide (s.modes.mode = .m2)) (inM2 := true)) s

/-- LEASE_RELEASE carried out: another source's lease stays (log 18). -/
def bodyLeaseRelease (f : Frame) (s : State) : Answer :=
  match s.upd.holder with
  | some a => if a = f.src then (some done, s.endLease 0) else (some s.leaseHeld, s)
  | none => (some done, s)

/-- `LEASE_RELEASE` (R632). -/
def execLeaseRelease (f : Frame) (s : State) : Host.Outcome State Fault Refusal :=
  run (fun s => s.wicket f cmdLeaseRelease (.leaseRelease f) (fixedLen f 0) (bodyLeaseRelease f)) s

/-- `LEASE_EXPIRY` (R632): UPD.LEASE_TIME without an issue command from the holder. -/
def execLeaseExpiry (s : State) : Host.Outcome State Fault Refusal := run (fun s => s.endLease 2) s

/-- IMAGE_CHUNK carried out (R633): the next bytes of the image. -/
def bodyImageChunk (f : Frame) (offset length : Nat) (data : List Byte) (s : State) : Answer :=
  if s.upd.holder ≠ some f.src then (some s.leaseHeld, s)
  else
    let s := s.renewLease f
    if offset ≠ s.upd.received then (some (fieldRange 0 s.upd.received s.upd.received), s)
    else if s.upd.length < offset + length then (some (lengthInvalid length (s.upd.length - offset) 4), s)
    else
      let s := s.modUpd fun u => { u with chunks := data :: u.chunks, received := u.received + length }
      (some (done [(4, s.upd.received)]), s)

/-- `IMAGE_CHUNK` (R633). -/
def execImageChunk (f : Frame) (offset length : Nat) (data : List Byte) (s : State) : Host.Outcome State Fault Refusal :=
  run (fun s => s.wicket f cmdImageChunk (.imageChunk f offset length data)
    (if f.length < 8 then some (lengthInvalid f.length 8)
     else if 1 ≤ length ∧ length ≤ 1016 ∧ f.length = 8 + length ∧ data.length = length then none
     else some (lengthInvalid length (min 1016 (f.length - 8)) 4))
    (bodyImageChunk f offset length data) (also := decide (s.modes.mode = .m2)) (inM2 := true)) s

/-! ### Verification (R627, R634) -/

/-- The bytes received so far. -/
def Update.image (u : Update) : List Byte := u.chunks.reverse.flatten

/-- A little-endian field of an image. -/
def field (l : List Byte) (off size : Nat) : Nat := leNat ((l.drop off).take size)

/-- What the header of an issue says (R627). -/
def issueHeader (l : List Byte) : IssueInfo :=
  { number := field l 4 2, mirrorFormat := field l 6 2, dictLevel := field l 8 2, romMin := field l 10 2,
    security := field l 12 1, keyIndex := field l 13 1, crc := crc32 l }

/-- MAGIC, the lengths, the fields that have a range, and the body digest (R627). A body that differs from BODY_DIGEST has no result
code of its own in R634: the header that names it is invalid (DEDUCED, log 211). -/
def headerValid (l : List Byte) : Bool :=
  decide (256 ≤ l.length) && decide (field l 0 4 = 0x4A4C5249) && decide (field l 16 4 = l.length - 256)
    && decide (field l 12 1 ≤ 63) && decide (field l 13 1 ≤ 3)
    && decide (beNat ((l.drop 20).take 48) = sha384 (l.drop 256))

/-- The result code of a staged image (R634): the first failure by rising code, a flash error before them. -/
def State.imageResult (s : State) (l : List Byte) (c : ImageCheck) : Nat :=
  let h := issueHeader l
  if !c.flashOk || s.upd.broken then 6
  else if sha384 l ≠ s.upd.digest then 1
  else if s.upd.kind = 1 then
    (if c.program.codeLen ≤ 4194304 ∧ c.program.instLen ≤ 1048576 ∧ c.program.retLen ≤ 65536 then 0 else 7)
  else if !c.signatureOk || bitOf s.upd.revoked h.keyIndex then 2
  else if !headerValid l then 3
  else if s.ident.romLevel < h.romMin then 4
  else if h.security < s.upd.floor then 5
  else 0

/-- What a verified download in M2 does (R642): a trial beside a confirmed issue, else confirmed; a cold restart follows. -/
def State.recoveryDone (s : State) (slot : Nat) : State :=
  let other := 1 - slot
  let beside := decide (s.upd.control.slotState.getD other 0 = 3)
  let s := s.modControl fun c =>
    if beside then { c with trialSlot := slot, trialState := 1, slotState := updAt c.slotState slot fun _ => 4 }
    else { c with confirmed := slot, lastResult := 6, pinnedSettings := 0, pinnedSafety := 0,
                  slotState := updAt c.slotState slot fun _ => 3 }
  s.modUpd fun u => { u with sealRestart := some false }

/-- IMAGE_FINISH carried out (R634): the last page, the read-back, the verification and the seal. -/
def bodyImageFinish (f : Frame) (c : ImageCheck) (s : State) : Answer :=
  if s.upd.holder ≠ some f.src then (some s.leaseHeld, s)
  else
    let s := s.renewLease f
    if s.upd.received < s.upd.length then (some (lengthInvalid s.upd.received s.upd.length), s)
    else
      let l := s.upd.image
      let r := s.imageResult l c
      let kind := s.upd.kind
      let slot := s.upd.slot
      let h := if kind = 0 then issueHeader l else { number := 0, mirrorFormat := 0, dictLevel := 0, crc := crc32 l }
      let p := { c.program with crc := h.crc }
      let pages := pagesFor s.upd.length
      let done' := match s.vault.writing, s.vault.yielded with
        | some w, y => if w.order = stagingOrder kind then w.done else (match y with | some w => w.done | none => 0)
        | none, some w => w.done
        | none, none => 0
      let s := s.dropStaging
      let s := s.modUpd fun u => { u with
        stagedResult := r, staged := if r = 0 then some (kind, u.digest) else u.staged
        stagedProgram := if r = 0 ∧ kind = 1 then some p else u.stagedProgram }
      let s := s.modVault fun v => { v with
        pagesWritten := satU 32 (v.pagesWritten + (pages - done') + (if r = 0 then 1 else 0))
        records := v.records.set (64 * imageRegion kind + slot) (if r = 0 then
          some { generation := 1, pages := pages, time := s.secs, content := if kind = 0 then .issue h else .program p } else none) }
      let s := s.when (decide (kind = 0)) fun s => s.setSlot slot (if r = 0 then 2 else 5) (if r = 0 then h.number else 0)
      let s := if r = 0 then s.day 0x004B (h.number + 65536 * slot + 2 ^ 24 * kind) else s.day 0x004C (r + 256 * slot)
      let s := s.endLease 1
      let s := s.when (decide (r = 0)) fun s =>
        if s.modes.mode = .m2 then s.recoveryDone slot else s.sendImage kind h p
      (some (done [(1, r), (1, slot), (2, h.number), (2, h.mirrorFormat), (2, h.dictLevel), (4, h.crc)]), s)

/-- `IMAGE_FINISH` (R634). -/
def execImageFinish (f : Frame) (check : ImageCheck) (s : State) : Host.Outcome State Fault Refusal :=
  run (fun s => s.wicket f cmdImageFinish (.imageFinish f check) (fixedLen f 0) (bodyImageFinish f check)
    (also := decide (s.modes.mode = .m2)) (inM2 := true)) s

/-! ### Trials (R636 to R638) -/

/-- Put the staged issue on trial on this module (R636); the restart follows the seal of the control record. -/
def State.startTrial (s : State) (slot number : Nat) : State :=
  let pin := match s.settings with | some x => x.generation | none => 0
  let s := s.modControl fun c => { c with
    trialSlot := slot, trialState := 1, slotState := updAt c.slotState slot fun _ => 4
    pinnedSettings := pin, pinnedSafety := s.par.setGeneration }
  (s.modUpd fun u => { u with sealRestart := some true }).day 0x004E (number + 65536 * slot)

/-- The trial is confirmed (R638, code 1). -/
def State.confirmTrial (s : State) : State :=
  let slot := s.upd.control.trialSlot
  let issue := s.upd.control.slotIssue.getD slot 0
  let s := s.modControl fun c => { c with
    confirmed := slot, trialSlot := 0xFF, trialState := 0, lastResult := 1, pinnedSettings := 0, pinnedSafety := 0
    slotState := updAt (updAt c.slotState slot fun _ => 3) (1 - slot) fun _ => 2 }
  let up := decide (s.upd.floor < s.upd.running.security)
  let s := s.modUpd fun u => { u with
    trial := false, trialEnded := some (1, issue), sealRestart := some true
    floor := max u.floor u.running.security }
  s.when up fun s => s.day 0x0051 s.upd.floor

/-- Fall-back of a trial under way (R638, codes 2 and 3): the confirmed issue runs again after a warm restart; the pinned
settings and safety set are loaded at that start. -/
def State.fallBack (s : State) (code : Nat) : State :=
  let slot := s.upd.control.trialSlot
  let issue := s.upd.control.slotIssue.getD slot 0
  let s := s.modControl fun c => { c with
    trialSlot := 0xFF, trialState := 0, lastResult := code, slotState := updAt c.slotState slot fun _ => 2 }
  s.modUpd fun u => { u with trial := false, trialEnded := some (code, issue), sealRestart := some true }

/-- ISSUE_TRIAL carried out (R633, R636). -/
def bodyIssueTrial (f : Frame) (target number : Nat) (s : State) : Answer :=
  let s := s.renewLease f
  if 1 < target then (some (fieldRange 0 0 1), s)
  else
    let slot := 1 - s.upd.runningSlot
    let staged := decide (s.upd.control.slotIssue.getD slot 0 = number)
      && (decide (s.upd.control.slotState.getD slot 0 = 2) && (decide (target = 0) || decide (s.upd.partnerStage = 2)))
    let pairOk := decide (s.val P.twinPaired ≠ 1) || !s.fitted || (decide (s.upd.partnerIssue = number) && !s.upd.partnerTrial)
    match s.unmet [(1, s.noTrial), (2, staged), (3, decide (target = 0) || s.partnerReach), (4, decide (target = 1) || pairOk)] with
    | some r => (some r, s)
    | none =>
      if target = 0 then (some done, s.startTrial slot number)
      else
        (some done, (s.emit (.twin 7 false [0, number])).modUpd fun u => { u with partnerTrial := true })

/-- `ISSUE_TRIAL` (R636). -/
def execIssueTrial (f : Frame) (target number : Nat) (s : State) : Host.Outcome State Fault Refusal :=
  run (fun s => s.wicket f cmdIssueTrial (.issueTrial f target number) (fixedLen f 4) (bodyIssueTrial f target number)) s

/-- ISSUE_CONFIRM (`confirm`) or ISSUE_REJECT carried out on its target (R638). -/
def State.endTrial (s : State) (f : Frame) (target : Nat) (confirm : Bool) : Answer :=
  let s := s.renewLease f
  if 1 < target then (some (fieldRange 0 0 1), s)
  else match s.unmet [(3, decide (target = 0) || s.partnerReach), (5, if target = 0 then s.upd.trial else s.upd.partnerTrial)] with
    | some r => (some r, s)
    | none =>
      if target = 0 then (some done, if confirm then s.confirmTrial else s.fallBack 2)
      else (some done, (s.emit (.twin 7 false [if confirm then 1 else 2, 0])).modUpd fun u => { u with partnerTrial := false })

/-- ISSUE_CONFIRM carried out. -/
def bodyIssueConfirm (f : Frame) (target : Nat) (s : State) : Answer := s.endTrial f target true

/-- `ISSUE_CONFIRM` (R638). -/
def execIssueConfirm (f : Frame) (target : Nat) (s : State) : Host.Outcome State Fault Refusal :=
  run (fun s => s.wicket f cmdIssueConfirm (.issueConfirm f target) (fixedLen f 1) (bodyIssueConfirm f target)) s

/-- ISSUE_REJECT carried out. -/
def bodyIssueReject (f : Frame) (target : Nat) (s : State) : Answer := s.endTrial f target false

/-- `ISSUE_REJECT` (R638). -/
def execIssueReject (f : Frame) (target : Nat) (s : State) : Host.Outcome State Fault Refusal :=
  run (fun s => s.wicket f cmdIssueReject (.issueReject f target) (fixedLen f 1) (bodyIssueReject f target)) s

/-- `TRIAL_WINDOW_EXPIRY` (R638): the module falls back. -/
def execTrialWindowExpiry (s : State) : Host.Outcome State Fault Refusal :=
  run (fun s => if s.upd.trial && s.upd.trialFrom.isSome then s.fallBack 3 else s) s

/-! ### Trust anchors (R631) -/

/-- ANCHOR_WRITE carried out. -/
def bodyAnchorWrite (f : Frame) (idx action length : Nat) (data : List Byte) (parses : Bool) (s : State) : Answer :=
  let s := s.renewLease f
  if 3 < idx then (some (fieldRange 0 0 3), s)
  else if 2 < action then (some (fieldRange 1 0 2), s)
  else if length = 0 ∧ action = 1 then (some (lengthInvalid 0 1000 2), s)
  else if action = 1 ∧ !parses then (some (fieldRange 4 none32 none32), s)
  else
    let s := if action = 2 then s else s.modUpd fun u => { u with
      anchorsWork := updAt u.anchorsWork idx fun _ => if action = 1 then some data else none }
    let here := (s.upd.anchorsWork.getD idx none).getD []
    let held := (s.upd.anchorsWork.filter Option.isSome).length
    let head := [(1, held), (1, idx), (2, here.length), (4, crc32 here)]
    (some (done (head ++ if action = 2 then here.map fun b => (1, b.toNat) else [])), s)

/-- `ANCHOR_WRITE` (R631). -/
def execAnchorWrite (f : Frame) (idx action length : Nat) (data : List Byte) (parses : Bool) (s : State) :
    Host.Outcome State Fault Refusal :=
  run (fun s => s.wicket f cmdAnchorWrite (.anchorWrite f idx action length data parses)
    (if f.length < 4 then some (lengthInvalid f.length 4)
     else if idx ≤ 3 ∧ action ≤ 2 ∧ (f.length ≠ 4 + length ∨ data.length ≠ length ∨ 1000 < length) then some (lengthInvalid length 1000 2)
     else none)
    (bodyAnchorWrite f idx action length data parses)) s

end Sys2Proof.Machine
end

