-- ==== Sys2Proof/Machine/Books.lean ====
section
/-! DEFINITION. The live values of the Ledger (R584 to R587): adding to a bin, taking an extreme, booking charge. -/

namespace Sys2Proof.Machine

open Sys2Proof

/-- A field of a live record. -/
def State.ledWord (s : State) (key off : Nat) : Int := (s.recs.live.get key).words.get off

/-- Take an extreme with its time at `toff` (time 0: none yet). -/
def State.ledExtreme (s : State) (key off toff : Nat) (v : Int) (isMax : Bool) : State :=
  let old := s.ledWord key off
  let none := decide (s.ledWord key toff = 0)
  if none || (if isMax then decide (old < v) else decide (v < old)) then
    let s := s.modLed key fun r => { r with words := (r.words.set off v).set toff s.sec32 }
    s.when (s.active && s.fitted) fun s => s.modRecs fun r => { r with exts := r.exts ++ [(key, off, toff, v, s.sec32)] }
  else s

/-- Book charge in uC into CHARGED (`off`) or DISCHARGED (`off` + 4), in units of 100 C, the remainder carried (R586). -/
def State.ledCharge (s : State) (key off : Nat) (q : Int) : State :=
  if q = 0 then s
  else
    let r := s.recs.live.get key
    let n := if 0 < q then r.chg + q.toNat else r.dis + (-q).toNat
    let unit := 100000000
    let s := s.modLed key fun r => if 0 < q then { r with chg := n % unit } else { r with dis := n % unit }
    if n / unit = 0 then s else s.ledAdd key (if 0 < q then off else off + 4) (n / unit)

/-- The records of a brick start again at 0 (R586, a pack treated as replaced). -/
def State.ledReplace (s : State) (b : Nat) : State :=
  let fresh : LedgerRec := { since := s.sec32 }
  s.forAll [ledKey 0 (2 * b), ledKey 0 (2 * b + 1), ledKey 1 b] fun k s => s.modLed k fun _ => fresh

end Sys2Proof.Machine
end

