-- ==== Sys2Proof/Machine/Links.lean ====
section
/-! DEFINITION. Pack links (chapter 06): command windows and exchanges, identification, enumeration, delays, monitor
registers, tones, sleep and wake, and the listening end. -/

namespace Sys2Proof.Machine

open Sys2Proof

/-- Monitors of the pack on link `n`. -/
def State.monCount (s : State) (n : Nat) : Nat := s.nat (P.lnkBricks n) / 12

/-- A link of the variant that is assigned to a rail. -/
def State.linkUsed (s : State) (n : Nat) : Bool := decide (n < linkCount s.ident.variant) && (s.railOf n).isSome

/-- The Link core takes the frames of link `n`: the main domain runs, and the core is not in reset (R26). -/
def State.linkHears (s : State) (n : Nat) : Bool :=
  s.linkUsed n && s.power.mainUp && !s.power.mainHeld && !(s.arch.engines.get 2).inReset

/-- The monitor at position `p` of link `n`. -/
def State.mon (s : State) (n p : Nat) : Monitor := (s.links.get n).mons.get p

/-- Change a monitor. -/
def State.modMon (s : State) (n p : Nat) (f : Monitor → Monitor) : State :=
  s.modLink n fun l => { l with mons := l.mons.modify p f }

/-- The hop of position `p` from this module's end (R202). -/
def State.hopOf (s : State) (n p : Nat) : Nat := if s.pos = 0 then p + 1 else s.monCount n - p

/-- The position of the monitor whose reply carries HOP `j` (R201, R202); none beyond the last monitor. -/
def State.posOf (s : State) (n j : Nat) : Option Nat :=
  if s.monCount n ≤ j then none else some (if s.pos = 0 then j else s.monCount n - 1 - j)

/-- The module transmits on link `n` (R203, R51), beside the one ENUMERATE of position B that its partner asks for. -/
def State.sends (s : State) (n : Nat) : Bool :=
  s.linkUsed n && match s.twin.role with
    | .active => true
    | .none => if s.pos = 0 then !(s.links.get n).waitPartner else (s.links.get n).listenerSends
    | _ => false

/-- The link is swept: state 2 or 3 (R216). -/
def State.swept (s : State) (n : Nat) : Bool := decide ((s.links.get n).state = 2) || decide ((s.links.get n).state = 3)

/-! ### Exchanges (R206, R212) -/

/-- Bytes of the reply payload of an opcode (R205, R254; SURVEY_SETUP replies of R311). -/
def replyLen (c : LinkCmd) : Nat := match c.opcode with
  | 0x02 | 0x05 => 12
  | 0x04 => 4
  | 0x06 => 16
  | 0x07 => 2
  | 0x08 | 0x09 => 2 + 2 * (c.payload.getD 1 1)
  | 0x0A => 2
  | 0x0B => if c.payload.getD 0 0 = 1 then 64 else 0
  | _ => 0

/-- Time an exchange takes on the line in 0.1 us: the command, 10 us to the reply's mark, the reply, and the repeats both
ways (R193, R195, R206); a FETCH has a slot of 82 us (R312). -/
def exchangeTime (c : LinkCmd) : Nat := if c.opcode = 0x0B then 820 else 24 + 8 * (7 + c.payload.length) + 100 + 8 * (7 + replyLen c) + 4 * c.hop

/-- End of the command window in 0.1 us (R212). -/
def Link.windowEnd (l : Link) : Nat := if l.capture then 8650 else 8500

/-- Note the sweep in which OPEN_WIRE goes out to monitor `p` (cycle j of R242). -/
def OpenWire.setStart (t : OpenWire) (p sweep : Nat) : OpenWire :=
  if p = 0 then { t with start0 := some sweep } else { t with start1 := some sweep }

/-- Start the next waiting exchange of a link, if the window still holds it (R212): at the first that cannot end the window closes. -/
def State.startNext (s : State) (n : Nat) : State :=
  let l := s.links.get n
  -- a survey owns the window while it captures: other exchanges wait (R312, R314)
  let turn := if l.capture then l.queue.filter fun c => decide (c.opcode = 0x0B) else l.queue
  if l.outstanding.isSome || !s.sends n then s
  else match turn with
    | [] => s
    | c :: _ =>
      let t := l.queue.erase c
      if l.winAt + exchangeTime c ≤ l.windowEnd then
        let tag := l.exchanges % 2 ^ 16
        let s := s.modLink n fun l => { l with
          outstanding := some { c with tag := tag }, queue := t, winAt := l.winAt + exchangeTime c, lastFrame := s.time.ns
          exchanges := wrapU 16 (tag + 1)
          owTest := if c.opcode = 0x07 then l.owTest.map fun t => t.setStart ((s.posOf n (c.hop - 1)).getD 0) s.time.sweep else l.owTest }
        s.emit (.line n c.hop c.opcode tag s.pos c.payload)
      else s.modLink n fun l => { l with winAt := 10000 }

/-- Queue a hop-addressed exchange (R212). -/
def State.sendHop (s : State) (n hop opcode : Nat) (payload : List Nat) : State :=
  (s.modLink n fun l => { l with queue := l.queue ++ [{ hop := hop, opcode := opcode, payload := payload }] }).startNext n

/-- Put an exchange before every waiting one. -/
def State.sendFirst (s : State) (n : Nat) (cs : List LinkCmd) : State :=
  s.modLink n fun l => { l with queue := cs ++ l.queue }

/-- A broadcast that draws no hop-addressed reply, with a TAG of its own (R196, R205). -/
def State.sendAll (s : State) (n opcode : Nat) (payload : List Nat) : State :=
  let tag := (s.links.get n).exchanges % 2 ^ 16
  (s.modLink n fun l => { l with exchanges := wrapU 16 (tag + 1), lastFrame := s.time.ns }).emit (.line n 7 opcode tag s.pos payload)

/-- The exchange that a reply answers, if it is the outstanding one and echoes its TAG (R196). -/
def State.answered (s : State) (n j opcode tag : Nat) : Option LinkCmd :=
  match (s.links.get n).outstanding with
  | some c => if c.hop = j + 1 ∧ c.opcode = opcode ∧ c.tag = tag then some c else none
  | none => none

/-- More than 10 frames have failed R199 within 1 s (LK.01, R232). -/
def State.failing (s : State) (n : Nat) : Bool := match (s.links.get n).failTimes[10]? with
  | some t => decide (s.time.ns < t + 1000000000)
  | none => false

/-- A frame that fails R199 (R231, R232). -/
def State.linkError (s : State) (n : Nat) : State :=
  let s := s.modLink n fun l => { l with crcErrors := satU 32 (l.crcErrors + 1), failTimes := (s.time.ns :: l.failTimes).take 11 }
  s.when (s.failing n) fun s => s.raise (src 1 1) (itemLink n) 1

/-- The end of an accepted reply: the stamp of its timing mark (R230), and its place among the ends of the last 1 s (R231). -/
def State.markReply (s : State) (n endUs : Nat) : State :=
  s.modLink n fun l => { l with
    mark := s.time.ns
    replyMarks := (s.time.ns, endUs) :: l.replyMarks.filter fun x => decide (endUs < x.2) && decide (s.time.ns < x.1 + 1000000000) }

/-- `LNK[n].REPLY_LATEST`: the latest reply end of the last 1 s (R231). -/
def State.replyLatest (s : State) (n : Nat) : Nat :=
  (s.links.get n).replyMarks.foldl (fun m x => if s.time.ns < x.1 + 1000000000 then max m x.2 else m) 0

/-- Any reply of a monitor (R229, R225): it is awake; one taken as asleep has woken now. -/
def State.heardMon (s : State) (n p : Nat) : State :=
  s.modMon n p fun m => { m with
    lastReply := s.time.ns, asleep := false, wokeAt := if m.asleep then some s.time.ns else m.wokeAt }

/-- Take a reply with HOP `j` of an opcode: a frame that fails R199 or names no position is counted and dropped; else `k`
handles it with the position and this module's own exchange that it answers, and the next exchange may start. -/
def State.takeReply (s : State) (n j opcode : Nat) (x : LineHead) (payload : List Byte)
    (k : Nat → Option LinkCmd → State → State) : State :=
  if !s.linkHears n then s
  else if !(x.accepts 1 j opcode payload) then s.linkError n
  else
    let own := s.answered n j opcode x.tag
    let done := fun (s : State) => s.modLink n fun l => { l with
      outstanding := if own.isSome then none else l.outstanding
      heardCmd := l.heardCmd.filter fun c => !(c.opcode == opcode && c.tag == x.tag) }
    match s.posOf n j with
    | none =>
      -- beyond the last monitor: only an IDENTIFY of the hop check looks there (R217, R230)
      if own.isSome then (k 0xF own (done (s.markReply n x.endUs))).startNext n else s.linkError n
    | some p => (k p own (done ((s.markReply n x.endUs).heardMon n p))).startNext n

/-! ### Delays and registers (R210, R213) -/

/-- The registers of R210 with the safety set in force. -/
def State.registers (s : State) : List Nat :=
  [patI 16 (s.val P.brkOvLimit), patI 16 (s.val P.brkUvLimit), patI 16 (s.val P.thBrickShutdown), 0xFFFF]

/-- The bytes of 16-bit registers. -/
def wordBytes (l : List Nat) : List Nat := l.flatMap fun x => [x % 256, x / 256 % 256]

/-- WRITE_CONFIG of every register to one monitor. -/
def State.writeRegs (s : State) (n p : Nat) : State := s.sendHop n (s.hopOf n p) 0x09 ([0, 4] ++ wordBytes s.registers)

/-- Eight ECHO exchanges to one monitor (R213); with `always` SET_TIMING follows even if DELAY stands (R217). -/
def State.measureDelay (s : State) (n p : Nat) (always : Bool) : State :=
  let s := s.modMon n p fun m => { m with echoes := 0, rttSum := 0, timingDue := m.timingDue || always }
  s.forAll (List.range 8) fun _ s => s.sendHop n (s.hopOf n p) 0x03 []

/-- Positions reached from this end: all, or those before the break of case 6 (R219). -/
def State.reached (s : State) (n : Nat) : List Nat :=
  let m := s.monCount n
  let k := match (s.links.get n).ringReach with | some r => min r m | none => m
  if s.pos = 0 then List.range k else (List.range k).map fun i => m - 1 - i

/-- DELAY of R213 in 10 ns from OWD in 1/16 ns, and whether it was set to 0 by its limit. -/
def State.delayOf (s : State) (n owd : Nat) : Nat × Bool :=
  let d : Int := 16 * (1000 + s.val (P.lnkSweepPhase n)) - owd
  if divNear d 160 < 0 then (0, true) else ((divNear d 160).toNat, false)

/-- SET_TIMING to one monitor with its present OWD (R213); `always` sends it even when DELAY is unchanged. -/
def State.setTiming (s : State) (n p : Nat) (always : Bool) : State :=
  let m := s.mon n p
  let (d, zero) := s.delayOf n m.owd
  let s := s.condition (src 1 10) (itemLink n p) 1 zero
  if always || decide (d ≠ m.delay) then
    let slot := s.hopOf n p
    (s.modMon n p fun m => { m with delay := d, slot := slot, timingDue := false }).sendHop n slot 0x04 (wordBytes [d] ++ [slot, 0])
  else s

/-- `ECHO_REPLY` (R213): a round trip in ns; the eighth gives OWD, DELAY and SET_TIMING. -/
def execEchoReply (n hop : Nat) (x : LineHead) (rtt : Nat) (s : State) : Host.Outcome State Fault Refusal :=
  run (fun s => s.takeReply n hop 0x03 x [] fun p own s =>
    if own.isNone || decide (p = 0xF) then s
    else
      let s := s.modMon n p fun m => { m with echoes := m.echoes + 1, rttSum := m.rttSum + rtt }
      let m := s.mon n p
      if m.echoes < 8 then s
      else
        -- in 1/16 ns: the sum of eight round trips less eight times 15.6 us is 16 times OWD
        let s := s.modMon n p fun m => { m with owd := m.rttSum - 8 * 15600, echoes := 0, rttSum := 0 }
        s.setTiming n p (m.timingDue || decide (m.slot ≠ s.hopOf n p))) s

/-- `SET_TIMING_REPLY` (R205): DELAY and reply slot as the monitor stored them. -/
def execSetTimingReply (n hop : Nat) (x : LineHead) (delay slot : Nat) (s : State) : Host.Outcome State Fault Refusal :=
  run (fun s => s.takeReply n hop 0x04 x (wireBytes [(2, delay), (1, slot), (1, 0)]) fun p _ s =>
    if p = 0xF then s else s.modMon n p fun m => { m with delay := delay, slot := slot }) s

/-- `OWD_REMEASURE_TIMER` (R213): every 60 s the delays of a swept link are measured again. -/
def execOwdRemeasureTimer (n : Nat) (s : State) : Host.Outcome State Fault Refusal :=
  run (fun s => if s.sends n && s.swept n then s.forAll (s.reached n) fun p s => s.measureDelay n p false else s) s

/-- A register block as read back (R210): compared with the values written; each register that differs raises LK.13 and is
written again in the next command window. -/
def State.regsBack (s : State) (n p first : Nat) (regs : List Nat) : State :=
  let want := s.registers
  let wrong := (List.range regs.length).filter fun i => decide (first + i < want.length) && decide (regs.getD i 0 ≠ want.getD (first + i) 0)
  if wrong.isEmpty then s.endFault (src 1 13) (itemLink n p)
  else
    let s := s.raise (src 1 13) (itemLink n p) 2
    s.when (s.sends n) fun s => s.modLink n fun l => { l with resend := l.resend ++ wrong.map fun i =>
      { hop := s.hopOf n p, opcode := 0x09, payload := [first + i, 1] ++ wordBytes [want.getD (first + i) 0] } }

/-- `READ_CONFIG_REPLY` (R210). -/
def execReadConfigReply (n hop : Nat) (x : LineHead) (first : Nat) (regs : List Nat) (s : State) : Host.Outcome State Fault Refusal :=
  run (fun s => s.takeReply n hop 0x08 x (regBytes first regs) fun p own s => if own.isSome && decide (p ≠ 0xF) then s.regsBack n p first regs else s) s

/-- `WRITE_CONFIG_REPLY` (R210): the registers as read back after the write. -/
def execWriteConfigReply (n hop : Nat) (x : LineHead) (first : Nat) (regs : List Nat) (s : State) : Host.Outcome State Fault Refusal :=
  run (fun s => s.takeReply n hop 0x09 x (regBytes first regs) fun p own s => if own.isSome && decide (p ≠ 0xF) then s.regsBack n p first regs else s) s

/-- `REGISTER_READBACK_TIMER` (R210): every 10 s the registers of the monitor at position `p` are read back. -/
def execRegisterReadbackTimer (n p : Nat) (s : State) : Host.Outcome State Fault Refusal :=
  run (fun s => if s.sends n && s.swept n && (s.reached n).contains p then s.sendHop n (s.hopOf n p) 0x08 [0, 4] else s) s

/-! ### After an identification (R220 to R222, R274) -/

/-- The learned record of a brick at its commissioning values (R296). -/
def State.commission (s : State) (b : Nat) : State :=
  let c := s.nat P.estRatedCapacity
  s.modBrick b fun x => { x with
    q := 0, c := c, e := -((c : Int) * 100000) / 2, g := 0, g0 := 0, gFrac := 0, shuttleCharge := 0, fullAnchors := 0
    emptyAnchors := 0, learns := 0, vOffset := 0, restBalance := 0, learnRejects := 0, driftCount := 0
    seriesRes := 0xFFFF, rcARes := 0xFFFF, rcATau := 0xFFFF, rcBRes := 0xFFFF, rcBTau := 0xFFFF, ocvLast := 0xFFFF
    restPosition := 0xFFFF, anchorTime := 0xFFFFFFFF, restTime := 0xFFFFFFFF, flags := 2 }

/-- The bricks of a monitor position. -/
def halfBricks (n p : Nat) : List Nat := (List.range 12).map fun c => 24 * n + 12 * p + c

/-- Identity recorded with the offsets of a position. -/
def Link.learnedId (l : Link) (p : Nat) : Nat := if p = 0 then l.learnedId0 else l.learnedId1

/-- Place the offsets of a link by the identities found (R222), and treat the pack as replaced where none matches (R274). -/
def State.placeOffsets (s : State) (n : Nat) : State :=
  let l := s.links.get n
  let ps := List.range (s.monCount n)
  let idOf := fun (p : Nat) => (s.mon n p).identity
  let recorded := [l.learnedId0, l.learnedId1].filter (· ≠ 0)
  let replaced := !recorded.isEmpty && ps.all fun p => !recorded.contains (idOf p)
  let off := fun (p c : Nat) => (s.bricks.get (24 * n + 12 * p + c)).vOffset
  let s' := if replaced then s.forAll (ps.flatMap (halfBricks n)) fun b s => (s.commission b).ledReplace b else s
  let s' := s'.forAll ps fun p s' =>
    let r := l.learnedId p
    let q := 1 - p
    -- a recorded monitor that sits at the other position takes its offsets with it, and the two halves change places
    let moved := ps.contains q && ((decide (r ≠ 0) && decide (r = idOf q)) || (decide (l.learnedId q ≠ 0) && decide (l.learnedId q = idOf p)))
    let v : Nat → Int := if r = idOf p then off p
      else if moved then (if l.learnedId q = idOf p ∨ l.learnedId q = 0 then off q else fun _ => 0)
      else if r = 0 then off p else fun _ => 0
    if replaced then s' else
      s'.forAll (List.range 12) fun c s' => s'.modBrick (24 * n + 12 * p + c) fun b => { b with vOffset := v c }
  s'.modLink n fun l => { l with
    learnedId0 := if ps.contains 0 then idOf 0 else l.learnedId0
    learnedId1 := if ps.contains 1 then idOf 1 else l.learnedId1 }

/-- Every place of a repeated identity, on identified links, asleep or not (R220, LK.12). -/
def State.duplicates (s : State) : List (Nat × Nat) :=
  let places := (s.usedLinks.filter fun n => s.swept n || decide ((s.links.get n).state = 5)).flatMap fun n => (List.range (s.monCount n)).map fun p => (n, p)
  let idOf := fun (x : Nat × Nat) => (s.mon x.1 x.2).identity
  places.filter fun x => decide (idOf x ≠ 0) && decide (1 < (places.filter fun y => idOf y == idOf x).length)

/-- The identification pass of the start, or of the return of the Link core, is over: every link of it has been identified, has
failed or sleeps (R221). -/
def State.passDone (s : State) : Bool :=
  s.usedLinks.all fun n => let l := s.links.get n
    l.identified || decide (l.state = 0) || decide (4 ≤ l.state)

/-- Identities found where the settings hold 0, once the identification pass is over: into force and sealed as one
generation (R221). -/
def State.learnIds (s : State) : State :=
  if !s.passDone then s
  else
    let found := (s.usedLinks.filter s.swept).flatMap fun n => ((List.range (s.monCount n)).filter fun p =>
      decide (s.val (P.lnkMonitorId n + p) = 0) && decide ((s.mon n p).identity ≠ 0)).map fun p => (P.lnkMonitorId n + p, (s.mon n p).identity)
    if found.isEmpty then s
    else
      let s := s.forAll found fun x s => s.force x.1 x.2
      s.queueVault 4

/-- A link has been identified: its monitors, its state, its faults, then delays, timing and registers (R217, R220). -/
def State.identified (s : State) (n state : Nat) (ids : List Found) : State :=
  let s := s.forAll (ids.zip (List.range ids.length)) fun x s => s.modMon n x.2 fun m => { m with
    identity := x.1.identity, upper := x.1.upper, fresh := true, missedRun := 0 }
  -- a hop check that finds every monitor finds the ring whole (R232, LK.07)
  let s := s.when (decide (state = 2)) fun s => s.endFault (src 1 7) (itemLink n)
  let s := s.modLink n fun l => { l with state := state, identified := true, waking := false, hopCheck := none, hopFound := [] }
  let s := (s.endFault (src 1 3) (itemLink n)).endFault (src 1 6) (itemLink n)
  let s := s.forAll (List.range ids.length) fun p s =>
    let want := s.nat (P.lnkMonitorId n + p)
    s.condition (src 1 5) (itemLink n p) 1 (decide (want ≠ 0) && decide ((s.mon n p).identity ≠ want))
  let dup := s.duplicates
  let s := s.forAll dup fun x s => s.raise (src 1 12) (itemLink x.1 x.2) 1
  let s := s.forAll (s.usedLinks.flatMap fun k => (List.range (s.monCount k)).map fun p => (k, p)) fun x s =>
    if dup.contains x then s else s.endFault (src 1 12) (itemLink x.1 x.2)
  let s := (s.placeOffsets n).learnIds
  if s.sends n then
    s.forAll (s.reached n) fun p s => (s.measureDelay n p true).writeRegs n p
  else s

/-- Identification fails: state 4 until the next start (R216, R218, R98). -/
def State.identFailed (s : State) (n source : Nat) : State :=
  let s := s.modLink n fun l => { l with state := 4, identified := true, waking := false, hopCheck := none, queue := [], resend := [] }
  (s.raise source (itemLink n) 3).learnIds

/-! ### Hop check and enumeration (R217 to R219) -/

/-- Send ENUMERATE from this module's end (R207, R218). -/
def State.enumerate (s : State) (n : Nat) : State :=
  let s := s.modLink n fun l => { l with
    enumerating := true, enumList := [], enumCount := satU 16 (l.enumCount + 1), hopCheck := none, hopFound := [] }
  s.sendAll n 0x05 [0]

/-- The hop check fails (R218): enumeration in M1 and M3, else the link has failed. -/
def State.hopCheckFailed (s : State) (n : Nat) : State :=
  if s.modes.mode = .m1 ∨ s.modes.mode = .m3 then
    (s.modLink n fun l => { l with listA := none, listB := none, ringReach := none, waking := false }).enumerate n
  else s.identFailed n (src 1 3)

/-- The level strap of R194 at position `p`. -/
def levelAt (p : Nat) : Bool := decide (p = 1)

/-- IDENTIFY to the next hop, or the result after hop m + 1 (R217). -/
def State.hopStep (s : State) (n h : Nat) : State :=
  let m := s.monCount n
  if h ≤ m + 1 then (s.modLink n fun l => { l with hopCheck := some h }).sendHop n h 0x02 []
  else
    let l := s.links.get n
    let at' := fun (p : Nat) => l.hopFound.get (s.hopOf n p)
    let ids := (List.range m).map at'
    let good := (List.range m).all fun p => match at' p with
      | some f => f.upper == levelAt p &&
          (decide (s.val (P.lnkMonitorId n + p) = 0) || decide (s.nat (P.lnkMonitorId n + p) = f.identity))
      | none => false
    if good && (l.hopFound.get (m + 1)).isNone then
      (s.modLink n fun l => { l with ringReach := none }).identified n 2 (ids.filterMap id)
    else s.hopCheckFailed n

/-- Begin the hop check of a link (R217). -/
def State.beginHopCheck (s : State) (n : Nat) : State :=
  (s.modLink n fun l => { l with hopFound := [], waking := false }).hopStep n 1

/-- A listening module has heard every monitor of a link (R223): it judges identities and levels as found. -/
def State.listenIdentify (s : State) (n : Nat) : State :=
  let m := s.monCount n
  let l := s.links.get n
  let ids := (List.range m).map fun p => l.hopFound.get (s.hopOf n p)
  if ids.all Option.isSome && !s.sends n && decide (l.state = 1) then
    let f := ids.filterMap id
    if (f.zip (List.range m)).all fun x => x.1.upper == levelAt x.2 then
      let same := (f.zip (List.range m)).all fun x =>
        decide (s.val (P.lnkMonitorId n + x.2) = 0) || decide (s.nat (P.lnkMonitorId n + x.2) = x.1.identity)
      s.identified n (if same then 2 else 3) f
    else s.identFailed n (src 1 6)
  else s

/-- A listening module needs the identification of a link: a standby asks the active module for it (R223). -/
def State.askIdentify (s : State) (n : Nat) : State :=
  s.when (decide (s.twin.role = .standby) && s.twin.linkUp && decide (3 < s.twin.sync)) fun s => s.emit (.twin 2 false [n])

/-- A link enters state 1: this module checks its hops, or listens and asks (R216, R217, R223). -/
def State.identifyAgain (s : State) (n : Nat) : State :=
  let s := s.modLink n fun l => { l with state := 1, owTest := none, hopFound := [] }
  if s.sends n then s.beginHopCheck n else s.askIdentify n

/-- `IDENTIFY_REPLY` (R217, R223, R226). -/
def execIdentifyReply (n hop : Nat) (x : LineHead) (f : Found) (s : State) : Host.Outcome State Fault Refusal :=
  run (fun s => s.takeReply n hop 0x02 x f.bytes fun _ own s =>
    let l := s.links.get n
    if own.isSome then
      if l.waking then s.beginHopCheck n
      else match l.hopCheck with
        | some h => if h = hop + 1 then
            (s.modLink n fun l => { l with hopFound := l.hopFound.set h (some f) }).hopStep n (h + 1) else s
        | none => s
    else (s.modLink n fun l => { l with hopFound := l.hopFound.set (hop + 1) (some f) }).listenIdentify n) s

/-- `ENUMERATE_REPLY` (R207): collected by POS; a listening module takes it as it takes an IDENTIFY reply. -/
def execEnumerateReply (n hop : Nat) (x : LineHead) (f : Found) (s : State) : Host.Outcome State Fault Refusal :=
  run (fun s =>
    if !s.linkHears n then s
    else if !(x.accepts 1 hop 0x05 f.bytes) then s.linkError n
    else if (s.links.get n).enumerating then
      let s := s.markReply n x.endUs
      let s := match s.posOf n hop with | some p => s.heardMon n p | none => s
      s.modLink n fun l => { l with enumList := insertBy (fun a b => decide ((if s.pos = 0 then a.posA else a.posB) ≤ (if s.pos = 0 then b.posA else b.posB))) f l.enumList }
    else match s.posOf n hop with
      | some p => (((s.markReply n x.endUs).heardMon n p).modLink n fun l => { l with hopFound := l.hopFound.set (hop + 1) (some f) }).listenIdentify n
      | none => s.linkError n) s

/-- Entries of both lists name one monitor. R219 says "by its POS pairs", and the POS_B of an entry of LA is older than that of LB:
the model's choice (log 190) is that a POS_A other than 0 tells the monitor alone. -/
def sameMonitor (a b : Found) : Bool := decide (a.posA ≠ 0) && decide (a.posA = b.posA)

/-- Reconcile the lists of a link (R219). -/
def State.reconcileLists (s : State) (n : Nat) : State :=
  let l := s.links.get n
  let m := s.monCount n
  let la := l.listA.getD []
  let lb := l.listB.getD []
  let onlyB := lb.filter fun b => !(la.any fun a => sameMonitor a b)
  let order := if la.length = m then la else if lb.length = m then lb.reverse else la ++ onlyB.reverse
  let s := s.modLink n fun l => { l with waitPartner := false }
  if m < la.length ∨ m < lb.length ∨ la.length + onlyB.length < m then s.identFailed n (src 1 3)
  else if !((order.zip (List.range m)).all fun x => x.1.upper == levelAt x.2) then s.identFailed n (src 1 6)
  else if l.listA.isSome && l.listB.isSome && decide (la.length = m) && decide (lb.length = m) then
    if lb.map (·.identity) = (la.map (·.identity)).reverse then
      (s.endFault (src 1 7) (itemLink n)).identified n 3 la
    else s.identFailed n (src 1 3)
  else if (l.listA.isNone && decide (lb.length = m)) || (l.listB.isNone && decide (la.length = m)) then
    (s.endFault (src 1 7) (itemLink n)).identified n 3 order
  else if la.length < m ∧ lb.length < m ∧ la.length + onlyB.length = m then
    let s := s.modLink n fun l => { l with ringReach := some (if s.pos = 0 then la.length else lb.length) }
    (s.raise (src 1 7) (itemLink n) 2).identified n 3 order
  else s.identFailed n (src 1 3)

/-- `ENUMERATION_WINDOW_END` (R207, R218, R219): the list from this end is complete; in a pair without roles position A asks
its partner for the other one. -/
def execEnumerationWindowEnd (n : Nat) (s : State) : Host.Outcome State Fault Refusal :=
  run (fun s =>
    let l := s.links.get n
    if !l.enumerating then s
    else
      let s := s.modLink n fun l => { l with enumerating := false }
      if l.enumByPartner then
        -- carried out for the partner (R203): the list goes back over the twin link
        (s.modLink n fun l => { l with enumByPartner := false }).emit
          (.twin 1 true ([(n : Int)] ++ l.enumList.flatMap fun f => [(f.identity : Int), b2n f.upper, f.posA, f.posB]))
      else
        let s := s.modLink n fun l => if s.pos = 0 then { l with listA := some l.enumList } else { l with listB := some l.enumList }
        if s.pos = 0 && decide (s.twin.role = .none) && decide (s.twinState = 2) then
          (s.modLink n fun l => { l with waitPartner := true }).emit (.twin 1 false [n])
        else s.reconcileLists n) s

/-! ### Missed replies (R206, R231) -/

/-- An exchange whose repeats are spent (R206). -/
def State.givenUp (s : State) (n : Nat) (c : LinkCmd) : State :=
  if c.opcode = 0x02 then match (s.links.get n).hopCheck with
    | some h => if h = c.hop then
        (s.modLink n fun l => { l with hopFound := l.hopFound.set h none }).hopStep n (h + 1) else s
    | none => s
  else if c.opcode = 0x07 then match s.posOf n (c.hop - 1) with
    | some p => (s.modLink n fun l => { l with owTest := l.owTest.map fun t => { t with void := putBit t.void p true } }).raise
        (src 0 9) (itemLink n p (c.payload.getD 0 0)) 1 (single := true)
    | none => s
  else s

/-- `LINK_REPLY_TIMEOUT` (R206): the reply is missed and sent again at most twice, in later windows; a BALANCE, and a wake's
IDENTIFY (sent once per cycle, R226), are not repeated. A listening module counts the missed reply to a command it has heard (R230). -/
def execLinkReplyTimeout (n : Nat) (s : State) : Host.Outcome State Fault Refusal :=
  run (fun s => match (s.links.get n).outstanding with
    | none => s.when ((s.links.get n).heardCmd.isSome) fun s => s.modLink n fun l => { l with
        heardCmd := none, missedReplies := satU 32 (l.missedReplies + 1) }
    | some c =>
      let s := s.modLink n fun l => { l with
        outstanding := none, missedReplies := satU 32 (l.missedReplies + 1), winAt := l.winAt + 400 }
      let wake := (s.links.get n).waking && decide (c.opcode = 0x02)
      let s := if c.opcode = 0x06 || wake then s
        else if c.resends < 2 then s.modLink n fun l => { l with resend := l.resend ++ [{ c with resends := c.resends + 1 }] }
        else s.givenUp n c
      s.startNext n) s

/-! ### Silence, wake, listening (R203, R204, R216, R226, R229) -/

/-- `LINK_SILENCE_TIMEOUT` (R216): no frame sent on the link for 2 s. -/
def execLinkSilenceTimeout (n : Nat) (s : State) : Host.Outcome State Fault Refusal :=
  run (fun s =>
    let l := s.links.get n
    if s.linkUsed n && decide (l.state ≠ 0) && decide (l.state ≠ 4) then
      s.modLink n fun l => { l with state := 5, queue := [], resend := [], outstanding := none, owTest := none, hopCheck := none, heardCmd := none }
    else s) s

/-- A link leaves state 5 as the module starts to sweep it (R216, R226). -/
def State.wakeLink (s : State) (n : Nat) : State :=
  s.modLink n fun l => { l with state := 1, waking := true, hopFound := [], identified := true, originZero := s.time.ns }

/-- `WAKE_IDENTIFY_TIMEOUT` (R226): 2 s without an answer of hop 1. -/
def execWakeIdentifyTimeout (n : Nat) (s : State) : Host.Outcome State Fault Refusal :=
  run (fun s => if (s.links.get n).waking && s.sends n then
    (s.modLink n fun l => { l with outstanding := none, queue := [] }).hopCheckFailed n else s) s

/-- `LISTENER_SILENCE_TIMEOUT` (R203): position B without a role has heard no ORIGIN 0 command for 2 s. -/
def execListenerSilenceTimeout (n : Nat) (s : State) : Host.Outcome State Fault Refusal :=
  run (fun s =>
    if s.linkUsed n && decide (s.pos = 1) && decide (s.twin.role = .none) && decide ((s.links.get n).state ≠ 0) then
      let s := s.modLink n fun l => { l with listenerSends := true }
      if (s.links.get n).state = 1 then s.beginHopCheck n else s
    else s) s

/-- `FOREIGN_COMMAND_HEARD` (R203, R204): a command frame of the other ORIGIN. -/
def execForeignCommandHeard (c : HeardLine) (s : State) : Host.Outcome State Fault Refusal :=
  run (fun s =>
    let n := c.link
    if !s.linkHears n then s
    else if !(c.head.accepts 0 c.hop c.opcode (c.payload.flatMap (leBytes 1))) then s.linkError n
    else if c.head.origin = s.pos then s
    else
      let s := (s.modTwin fun t => { t with ringAt := some s.time.ns }).modLink n fun l => { l with mark := s.time.ns }
      match s.twin.role with
      | .active => s.raise (src 1 11) (itemLink n) 2 (single := true)
      | .none => if s.pos = 1 then s.modLink n fun l => { l with
          originZero := s.time.ns, listenerSends := false, queue := [], resend := [], outstanding := none } else s
      | _ => s) s

/-- The tone of a link and the alarm bits of its monitors' replies disagree (R229): a tone while every monitor replies without one,
or an alarm bit while the link shows no tone and a monitor of it is asleep. -/
def State.toneDisagrees (s : State) (n : Nat) : Bool :=
  let ps := List.range (s.monCount n)
  let alarm := ps.any fun p => decide ((s.mon n p).status / 16 % 8 ≠ 0)
  let sleeps := ps.any fun p => (s.mon n p).asleep
  if (s.links.get n).tone then !alarm && !sleeps else alarm && sleeps

/-- `TONE_DISAGREE_TIMEOUT` (R229): tone and reply alarm bits have disagreed for 10 ms. -/
def execToneDisagreeTimeout (n : Nat) (s : State) : Host.Outcome State Fault Refusal :=
  run (fun s => if s.linkUsed n && s.toneDisagrees n then s.raise (src 1 9) (itemLink n) 2 else s) s

/-- A tone and the alarm bits of the replies agree: LK.09's condition has ended (R229). -/
def State.toneAgrees (s : State) (n : Nat) : State :=
  s.when (!s.toneDisagrees n) fun s => s.endFault (src 1 9) (itemLink n)

end Sys2Proof.Machine
end

