-- ==== Sys2Proof/Machine/Measure.lean ====
section
/-! DEFINITION. Brick measurement and active balancing (chapter 07): the rows a SAMPLE reply gives, the stack cross-check,
open-wire tests, broken spans, shuttle booking, balancing commands, and what the Guard core sees of a reply. -/

namespace Sys2Proof.Machine

open Sys2Proof

/-! ### Items and small views -/

/-- The item of a brick. -/
def itemBrick (b : Nat) : Nat := item 2 b

/-- Bits 4 to 6 of STATUS (R209): OT, UV, OV. -/
def alarmBits (status : Nat) : Nat := status / 16 % 8

/-- The brick's row is used: the brick above in the same pack exists. -/
def State.hasUpper (s : State) (b : Nat) : Bool := s.brickUsed b && decide (b % 24 ≠ 23) && s.brickUsed (b + 1)

/-- Flagged and suspect lines of a monitor (R249). -/
def Monitor.bad (m : Monitor) : Nat := m.flagged ||| m.suspect

/-- A brick lies in a span of its monitor: a line beside it is flagged or suspect (R249). -/
def State.inSpan (s : State) (b : Nat) : Bool :=
  let m := s.mon (b / 24) (b % 24 / 12)
  bitOf m.bad (b % 12) || bitOf m.bad (b % 12 + 1)

/-- The runs of channels whose lines are bad (first channel, bricks) (R249). -/
def spanRuns (bad : Nat) : List (Nat × Nat) :=
  let step := fun (acc : List (Nat × Nat)) (c : Nat) =>
    if bitOf bad c || bitOf bad (c + 1) then
      match acc with
      | (f, n) :: t => if f + n = c ∧ bitOf bad c then (f, n + 1) :: t else (c, 1) :: acc
      | [] => [(c, 1)]
    else acc
  ((List.range 12).foldl step []).reverse

/-- Sum of a list of readings, none when one is invalid. -/
def sumValid (l : List (Option Int)) : Option Int :=
  l.foldl (fun a x => match a, x with | some a, some x => some (a + x) | _, _ => none) (some 0)

/-- U of a span in 100 uV (R249). -/
def spanU (bad : Nat) (v : List (Option Int)) (stack : Option Int) (first n : Nat) : Option Int :=
  let inside := (v.drop first).take n
  let edge := (decide (first = 0) && bitOf bad 0) || (decide (first + n = 12) && bitOf bad 12)
  if edge then
    match stack, sumValid (v.take first ++ v.drop (first + n)) with
    | some t, some o => some (10 * t - o)
    | _, _ => none
  else sumValid inside

/-- Channel `c` lies in a span. -/
def inRun (u : Nat × Nat × Option Int) (c : Nat) : Bool := decide (u.1 ≤ c) && decide (c < u.1 + u.2.1)

/-! ### Shuttle currents (R235, R237) -/

/-- `MEAS.SHUTTLE_EFFICIENCY`. -/
def State.eta (s : State) : Rat := s.real P.measShuttleEfficiency

/-- Contribution in mA of a shuttle with applied current `a` (20 mA) to the brick at its lower (`lower`) or upper end. -/
def shuttlePart (eta : Rat) (a : Int) (lower : Bool) : Rat :=
  let i : Rat := ((20 * a.natAbs : Nat) : Rat)
  if a = 0 then 0 else if decide (0 < a) == lower then -i else eta * i

/-- i_b of channel `c` of monitor `p`: its own shuttle, the one below it, and shuttle 11 of position 0 for channel 0 of
position 1 (R235). -/
def State.netShuttle (s : State) (n p c : Nat) : Rat :=
  let own := shuttlePart s.eta ((s.mon n p).applied.getD c 0) true
  let below := if 0 < c then (s.mon n p).applied.getD (c - 1) 0 else if p = 1 then (s.mon n 0).applied.getD 11 0 else 0
  own + shuttlePart s.eta below false

/-- SERIES_RES of a brick, or its default where it is invalid (R235). -/
def State.resOf (s : State) (b : Nat) : Nat :=
  let r := (s.bricks.get b).seriesRes
  if r = 0xFFFF ∨ !hasIsu s.ident.variant then s.nat P.measSeriesResDefault else r

/-! ### Booking (R256, R257) -/

/-- Book charge of a shuttle into a brick's balance and its own counters. -/
def State.bookBrick (s : State) (b : Nat) (x : Int) : State :=
  let s := s.modBrick b fun r => { r with
    q := r.q + x, shuttleNow := r.shuttleNow + x, shuttleCharge := r.shuttleCharge + x, dq := r.dq + x }
  s.when s.accrues fun s => s.ledCharge (ledKey 1 b) 100 x

/-- Book eta times a charge, the fraction carried at 1/10^6 uC. -/
def State.bookScaled (s : State) (b : Nat) (x : Nat) : State :=
  let f := (s.bricks.get b).etaFrac + roundAway (s.eta * ((x * 1000000 : Nat) : Rat))
  (s.modBrick b fun r => { r with etaFrac := f % 1000000 }).bookBrick b (f / 1000000)

/-- Book the charge q (uC, signed from brick b upward) of the shuttle above brick b: source at full value, destination by eta. -/
def State.bookShuttle (s : State) (b : Nat) (q : Int) : State :=
  if q = 0 then s
  else
    let up := s.hasUpper b
    let s := s.modBrick b fun r => { r with targetBooked := r.targetBooked + q }
    let s := s.modEst fun e => { e with pairs := e.pairs.map fun t =>
      if t.brick = b then { t with booked := t.booked + (if t.target < 0 then -q else q) } else t }
    if 0 < q then
      let s := s.bookBrick b (-q)
      if up then s.bookScaled (b + 1) q.toNat else s
    else
      let s := if up then s.bookBrick (b + 1) q else s
      s.bookScaled b (-q).toNat

/-- Expected charge per sweep of a shuttle in uC (R257): 20 mA steps over the duty of its mode (R234). -/
def expectedQ (a : Int) (mode : Nat) : Rat := ((20 * a.natAbs : Nat) : Rat) * (if mode = 0 then 73 / 100 else 1)

/-- The sign of a number as an integer. -/
def sgn (x : Int) : Int := if 0 < x then 1 else if x < 0 then -1 else 0

/-- Step 9 of R233 for one monitor: every SHUTTLE_Q booked, with the estimate of R257 after missed replies and the checks of
ME.08 (R256). -/
def State.bookReply (s : State) (n p : Nat) (r : SampleReply) : State :=
  let m := s.mon n p
  -- missed replies; across a gap of R290 every cycle since its checkpoint
  let missed := match m.gapSince with
    | some t => max m.missedK ((s.time.ns - t) / 1000000 - 1)
    | none => m.missedK
  let mode := r.status % 4
  let s := s.forAll (List.range 12) fun c s =>
    let a := m.applied.getD c 0
    -- the currents that ran since the last reply, over the cycles the reply may cover (log 192)
    let most := max (expectedQ a mode) (expectedQ (m.appliedPrev.getD c 0) mode) * ((missed + 1 : Nat) : Rat)
    let q := 10 * r.shuttleQ.getD c 0
    let e := expectedQ a mode
    let est := decide (0 < missed) && decide (e ≠ 0) && decide (((q.natAbs : Nat) : Rat) < 3 / 2 * e)
    let q' := if est then q + sgn a * roundAway ((missed : Rat) * e) else q
    let s := s.when est fun s => s.raise (src 0 7) (itemLink n p c) 1 (single := true)
    let wrong := (decide (q ≠ 0) && decide (2 ≤ m.zeroRun.getD c 0))
      || decide (6 / 5 * most < ((q.natAbs : Nat) : Rat))
    let s := s.when wrong fun s => s.raise (src 0 8) (itemLink n p) 2 (single := true)
    (s.bookShuttle (24 * n + 12 * p + c) q').modMon n p fun m => { m with
      shuttleCount := updAt m.shuttleCount c fun x => wrapI 32 (x + r.shuttleQ.getD c 0) }
  s.modMon n p fun m => { m with missedK := 0, gapSince := none, appliedPrev := m.applied, bookedNow := true }

/-! ### Balancing commands (R251 to R255, R258) -/

/-- A brick takes part in balancing (R252). -/
def State.eligible (s : State) (b : Nat) : Bool :=
  let ro := s.rows.get b
  s.brickUsed b && !bitOf ro.status 6 && !bitOf ro.status 3 && !bitOf ro.status 2 && !bitOf ro.status 1
    && (match ro.temperature with | some t => decide (t < s.val P.thBrickThrottle) | none => true)

/-- What remains of a brick's target, 0.1 C: 0 for the top brick of a run of eligible bricks and for every brick that is not
eligible (R252). -/
def State.balanceTarget (s : State) (b : Nat) : Int :=
  let r := s.bricks.get b
  if !(s.eligible b && s.hasUpper b && s.eligible (b + 1)) then 0
  else divNear (r.target * 100000 - r.targetBooked) 100000

/-- The module may send balancing commands on a link (R251). -/
def State.maySend (s : State) (n : Nat) : Bool :=
  s.active && decide (4 ≤ s.modes.mode.num) && decide (s.modes.mode.num ≤ 6) && s.swept n && s.flag (P.lnkBalanceEnable n)
    && !(s.links.get n).capture

/-- Automatic targets move charge on a link (R251, R282, R516); where only the rest hold or a survey before its capture stops them,
the commands that go out are 0 (R255). -/
def State.balances (s : State) (n : Nat) : Bool :=
  s.maySend n && !s.modes.dormantEntry && s.time.step.isNone && decide (s.time.stepHold = 0)
    && (match s.railOf n with
      | some r => !(s.rails.get r).restHold && !(decide (1 ≤ s.survey.state) && decide (s.survey.state ≤ 4) && decide (s.survey.rail = r))
      | none => false)

/-- Pair targets act: not in M7, nor in a Dormant entry (R111, R122, R251). -/
def State.pairsAct (s : State) : Bool := decide (s.modes.mode ≠ .m7) && !s.modes.dormantEntry

/-- A pair target runs on a link. -/
def State.pairOn (s : State) (n : Nat) : Bool := s.pairsAct && s.est.pairs.any fun t => decide (t.brick / 24 = n)

/-- The command of shuttle c in 20 mA (R253, R249, R258, R263). -/
def State.shuttleCmd (s : State) (n p c : Nat) : Int :=
  let b := 24 * n + 12 * p + c
  let now := (s.mon n p).cmd.getD c 0
  let cur : Int := (s.nat P.balCurrent / 20 : Nat)
  if !s.hasUpper b || s.inSpan b || s.inSpan (b + 1) || (s.instOf (src 0 8) (itemLink n p)).isSome then 0
  else match s.est.pairs.find? fun t => s.pairsAct && decide (t.brick = b) with
    | some t => sgn t.target * cur
    | none =>
      if !s.balances n then 0
      else
        let t := s.balanceTarget b
        let d := s.val P.balDeadband
        if d ≤ t.natAbs then sgn t * cur
        else if now ≠ 0 ∧ sgn now = sgn t ∧ d ≤ 2 * t.natAbs then sgn t * cur
        else 0

/-- Decide the commands of one monitor anew; a change is sent in the next command window (R255). -/
def State.decideCmds (s : State) (n p : Nat) : State :=
  let new := (List.range 12).map fun c => s.shuttleCmd n p c
  if new = (s.mon n p).cmd then s else s.modMon n p fun m => { m with cmd := new, balanceDue := true }

/-- Decide the commands of every monitor of a link: the last shuttle of position 0 depends on both (R249, R253). -/
def State.decideLink (s : State) (n : Nat) : State := s.forAll (List.range (s.monCount n)) fun p s => s.decideCmds n p

/-- BALANCE to one monitor (R254). -/
def State.sendBalance (s : State) (n p : Nat) (stop : Bool) : State :=
  let cs := if stop then List.replicate 12 0 else (s.mon n p).cmd
  let s := s.modMon n p fun m => { m with balanceDue := false, cmd := cs, commanded := true }
  s.sendHop n (s.hopOf n p) 0x06 ([b2n stop, 0] ++ cs.map (patI 8))

/-- STOP_ALL to each monitor of a link (R251); it ends the pair targets there (R258). -/
def State.stopAll (s : State) (n : Nat) : State :=
  let s := s.modEst fun e => { e with pairs := e.pairs.filter fun t => decide (t.brick / 24 ≠ n) }
  if s.sends n && s.swept n then s.forAll (s.reached n) fun p s => s.sendBalance n p true else s

/-- STOP_ALL on every link as the module enters M7 or a Dormant entry (R111, R251); with it every pair target ends (R258). -/
def State.stopNow (s : State) : State :=
  if !s.modes.stopDue || (s.arch.engines.get 2).inReset then s
  else (s.forAll s.usedLinks fun n s => s.stopAll n).modModes fun m => { m with stopDue := false }

/-- The changed commands of a link go out in the window that opens (R255); a change that only stops shuttles goes out as well when
the balancing that moved them is over (R251, R258). -/
def State.sendChanges (s : State) (n : Nat) : State :=
  if s.sends n && s.swept n && (s.active || s.pairOn n) then
    s.forAll (s.reached n) fun p s => if (s.mon n p).balanceDue then s.sendBalance n p false else s
  else s

/-- A brick is at or above the throttle temperature. -/
def State.brickHot (s : State) (b : Nat) : Bool := match (s.bricks.get b).temperature with
  | some x => decide (s.val P.thBrickThrottle ≤ x)
  | none => false

/-- A pair target ends by its charge, a throttle temperature or an alarm (R258). -/
def State.pairEnds (s : State) (t : PairTarget) : Bool :=
  let mon := fun (b : Nat) => s.mon (t.brick / 24) (b % 24 / 12)
  decide ((t.target.natAbs : Int) * 100000 ≤ t.booked) || s.brickHot t.brick || s.brickHot (t.brick + 1)
    || decide (alarmBits (mon t.brick).status ≠ 0) || decide (alarmBits (mon (t.brick + 1)).status ≠ 0)

/-- The pair targets of a link that end now go (R258). -/
def State.endPairs (s : State) (n : Nat) : State :=
  s.modEst fun e => { e with pairs := e.pairs.filter fun t => decide (t.brick / 24 ≠ n) || !(s.pairEnds t) }

/-- `BALANCE_REPLY` (R254): the applied currents. -/
def execBalanceReply (n hop : Nat) (x : LineHead) (back : BalanceBack) (status : Nat) (s : State) :
    Host.Outcome State Fault Refusal :=
  run (fun s => s.takeReply n hop 0x06 x (balanceBytes back.flags back.applied status) fun p _ s =>
    if p = 0xF then s
    else
      let a := (List.range 12).map fun c => back.applied.getD c 0
      let s := s.modMon n p fun m => { m with applied := a, status := (m.status / 2048) * 2048 + status % 2048 }
      -- before T0 of a survey every APPLIED must read 0 (R315)
      if a.all (· = 0) && s.survey.quiet.contains (2 * n + p) == false then
        s.modSurvey fun v => { v with quiet := v.quiet ++ [2 * n + p] }
      else s) s

/-- `BALANCE_REFRESH_DUE` (R255): 100 ms without a BALANCE to the monitor at position `p`. -/
def execBalanceRefreshDue (n p : Nat) (s : State) : Host.Outcome State Fault Refusal :=
  run (fun s => if s.sends n && s.swept n && (s.reached n).contains p && (s.maySend n || s.pairOn n)
    then s.sendBalance n p false else s) s

/-- a[i] of R252 in 0.1 C: charge above empty, or less the charge to full. -/
def State.balanceBase (s : State) (b : Nat) : Int :=
  let r := s.bricks.get b
  if s.val P.balStrategy = 0 then divNear (r.q - r.e) 100000 else -((r.c : Int) - divNear (r.q - r.e) 100000)

/-- The maximal runs of a list of consecutive numbers that satisfy `ok`. -/
def segments (ok : Nat → Bool) (l : List Nat) : List (List Nat) :=
  let step := fun (acc : List (List Nat)) (b : Nat) =>
    if ok b then match acc with
      | (x :: t) :: r => (x :: t ++ [b]) :: r
      | [] :: r => [b] :: r
      | [] => [[b]]
    else [] :: acc
  ((l.foldl step []).filter fun g => !g.isEmpty).reverse

/-- The targets of one segment, bottom up (R252): brick and target. -/
def State.segmentTargets (s : State) (g : List Nat) : List (Nat × Int) :=
  let a := g.map s.balanceBase
  let sum := a.foldl (· + ·) 0
  let n : Int := g.length
  -- t is carried as n times the target, so that the mean loses nothing
  ((g.zip a).foldl (fun (acc : Int × List (Nat × Int)) x =>
    let t := acc.1 + (n * x.2 - sum)
    (t, (x.1, divNear t g.length) :: acc.2)) (0, [])).2.reverse.dropLast

/-- `BALANCE_TARGET_RECOMPUTE` (R252): the targets of every pack segment. -/
def execBalanceTargetRecompute (s : State) : Host.Outcome State Fault Refusal :=
  run (fun s =>
    s.forAll s.usedLinks fun n s =>
      let l := s.bricksOfLink n
      let t := (segments s.eligible l).flatMap s.segmentTargets
      let s := s.forAll l fun b s => s.modBrick b fun r => { r with
        target := (match t.find? fun x => x.1 == b with | some x => x.2 | none => 0), targetBooked := 0 }
      s.decideLink n) s

def cmdBalanceTest : Cmd := { code := 0x0302, kind := .x, cls := 1, engine := 2 }

/-- BALANCE_TEST carried out (R258, R314). -/
def bodyBalanceTest (b : Nat) (t : Int) (s : State) : Answer :=
  if !s.brickUsed b || !s.hasUpper b then (some (fieldRange 0 none32 none32), s)
  else if 100000 < t.natAbs then (some (fieldRange 4 (patI 32 (-100000)) 100000), s)
  else
    let rail := s.railOf (b / 24)
    if decide (1 ≤ s.survey.state) && decide (s.survey.state ≤ 4) && decide (rail = some s.survey.rail) then
      (some (busy 5 s.survey.rail), s)
    else
      let others := s.est.pairs.filter fun x => decide (x.brick ≠ b)
      if t = 0 then
        (some done, (s.modEst fun e => { e with pairs := others }).decideLink (b / 24))
      else if 8 ≤ others.length then (some (busy 5), s)
      else
        (some done, (s.modEst fun e => { e with pairs := others ++ [{ brick := b, target := t }] }).decideLink (b / 24))

/-- `BALANCE_TEST` (R258). -/
def execBalanceTest (f : Frame) (b : Nat) (t : Int) (s : State) : Host.Outcome State Fault Refusal :=
  run (fun s => s.wicket f cmdBalanceTest (.balanceTest f b t) (fixedLen f 8) (bodyBalanceTest b t)) s

/-! ### Open-wire tests (R239, R242 to R246, R250) -/

/-- A module tests the lines of a link (R242). -/
def State.testsLines (s : State) (n : Nat) : Bool :=
  s.active && s.swept n && decide (3 ≤ s.modes.mode.num) && s.sends n

/-- `OPEN_WIRE_ROUND_DUE` (R242): lines 0 to 12 in turn. -/
def execOpenWireRoundDue (n : Nat) (s : State) : Host.Outcome State Fault Refusal :=
  run (fun s => if s.testsLines n && (s.links.get n).owLines.isEmpty then
    s.modLink n fun l => { l with owLines := List.range 13, owDeferred := l.owDeferred.filter fun e => decide (4 ≤ e.2) } else s) s

/-- Ask for a test out of turn, before the scheduled ones (R239, R247). -/
def State.askTest (s : State) (n p line : Nat) : State :=
  let e := (line, (2 ^ p : Nat) + 4)
  let l := s.links.get n
  let runs := match l.owTest with | some t => t.special && decide (t.line = line) && bitOf t.mons p | none => false
  if runs || l.owSpecial.contains e || l.owDeferred.contains e || !s.testsLines n then s
  else s.modLink n fun l => { l with owSpecial := l.owSpecial ++ [e] }

/-- `STACK_CHECK_COUNT_REACHED` (R239): lines 0 and 12 of the monitor are tested at once; a module that does not transmit waits for the
tests it hears (R246). -/
def execStackCheckCountReached (n p : Nat) (s : State) : Host.Outcome State Fault Refusal :=
  run (fun s =>
    let m := s.mon n p
    if decide (s.nat P.measStackCount ≤ m.stackFails) && (s.testsLines n || !s.sends n) then
      ((s.modMon n p fun m => { m with stackTest := true, stackDone := if m.stackTest then m.stackDone else 0 }).askTest n p 0).askTest n p 12
    else s) s

/-- The source of monitor `p` was confirmed on in this sweep cycle. -/
def OpenWire.onAt (t : OpenWire) (p : Nat) : Option Nat := if p = 0 then t.on0 else t.on1

/-- Confirm the source of monitor `p`. -/
def OpenWire.setOn (t : OpenWire) (p sweep : Nat) : OpenWire := if p = 0 then { t with on0 := some sweep } else { t with on1 := some sweep }

/-- The sweep in which OPEN_WIRE went out to monitor `p`. -/
def OpenWire.startAt (t : OpenWire) (p : Nat) : Option Nat := if p = 0 then t.start0 else t.start1

/-- Cycles since sweep `j`. -/
def State.since (s : State) (j : Nat) : Nat := (s.time.sweep + 2 ^ 32 - j) % 2 ^ 32

/-- Cycles since the source of monitor `p` was confirmed on. -/
def State.sinceOn (s : State) (t : OpenWire) (p : Nat) : Option Nat := (t.onAt p).map s.since

/-- Cycles since the test of monitor `p` began: for a module that only hears it, since the source was found on (R246). -/
def State.sinceStart (s : State) (n : Nat) (t : OpenWire) (p : Nat) : Option Nat :=
  if s.sends n then (t.startAt p).map s.since else s.sinceOn t p

/-- The channels a test of line `l` touches, as a mask (R243). -/
def touched (l : Nat) : Nat := if l = 0 then 1 else if l = 12 then 2048 else 2 ^ (l - 1) + 2 ^ l

/-- `OPEN_WIRE_REPLY` (R244): source on, or the result is void with ME.09; heard replies serve a listening module's own
evaluation (R246). -/
def execOpenWireReply (n hop : Nat) (x : LineHead) (line state : Nat) (s : State) : Host.Outcome State Fault Refusal :=
  run (fun s => s.takeReply n hop 0x07 x (wireBytes [(1, line), (1, state)]) fun p _ s =>
    match (s.links.get n).owTest with
    | some t =>
      if t.line ≠ line ∨ !bitOf t.mons p then s
      else if state = 1 then s.modLink n fun l => { l with owTest := some (t.setOn p s.time.sweep) }
      else
        let s := s.modLink n fun l => { l with owTest := some { t with void := putBit t.void p true } }
        s.raise (src 0 9) (itemLink n p line) 1 (single := true)
    | none => s) s

/-- The shift S of R244, none where a reading is invalid: twice its value. -/
def shift2 (line : Nat) (v0 v1 : List (Option Int)) : Option Int :=
  let dv := fun (c : Nat) => match v1.getD c none, v0.getD c none with | some a, some b => some (a - b) | _, _ => none
  if line = 0 then (dv 0).map fun x => -2 * x
  else if line = 12 then (dv 11).map fun x => -2 * x
  else match dv line, dv (line - 1) with
    | some a, some b => some (a - b)
    | _, _ => none

/-- The source of a broken line (R248): ME.02 inner, ME.03 edge. -/
def lineSource (line : Nat) : Nat := if line = 0 ∨ line = 12 then src 0 3 else src 0 2

/-- A test of an edge line after a stack finding: with both lines tested the finding is decided (R248). The count of failed checks
begins again. -/
def State.stackResult (s : State) (n p line : Nat) : State :=
  let m := s.mon n p
  if !m.stackTest ∨ (line ≠ 0 ∧ line ≠ 12) then s
  else
    let d := putBit m.stackDone (line / 12) true
    if d % 4 ≠ 3 then s.modMon n p fun m => { m with stackDone := d }
    else
      let s := s.modMon n p fun m => { m with stackTest := false, stackDone := 0, stackFails := 0 }
      s.when (!bitOf m.flagged 0 && !bitOf m.flagged 12) fun s => s.raise (src 0 1) (itemLink n p) 2

/-- The result of a test of one line of a monitor (R244, R248, R250). A suspicion withdrawn ends with the next sweep, in which the
readings are back (log 194). -/
def State.lineResult (s : State) (n p line : Nat) (flag special : Bool) : State :=
  let m := s.mon n p
  let s := if flag then
      s.modMon n p fun m => { m with flagged := putBit m.flagged line true, suspect := putBit m.suspect line false, passes := m.passes.set line 0 }
    else if bitOf m.suspect line then
      ((s.modMon n p fun m => { m with withdrawn := putBit m.withdrawn line true }).modLink n fun l => { l with
        owTest := l.owTest.map fun t => { t with lifted := putBit t.lifted p true } }).raise (src 0 5) (itemLink n p line) 1 (single := true)
    else if bitOf m.flagged line && !special then
      let k := m.passes.get line + 1
      if s.nat P.measRepairPasses ≤ k then
        (s.modMon n p fun m => { m with flagged := putBit m.flagged line false, passes := m.passes.set line 0 }).endFault
          (lineSource line) (itemLink n p line)
      else s.modMon n p fun m => { m with passes := m.passes.set line k }
    else s
  s.stackResult n p line

/-- A module that only hears a test finds the source of a monitor on by OPEN_WIRE_ON in the sweep after the command (R246). -/
def State.hearTest (s : State) (n p status : Nat) : State :=
  match (s.links.get n).owTest with
  | some t => match t.startAt p with
    | some j => if !s.sends n && decide (s.since j = 1) && bitOf status 9 then s.modLink n fun l => { l with owTest := some (t.setOn p j) } else s
    | none => s
  | none => s

/-- Evaluate the test of a link on a reply that follows the cycle of the source (R244, R245); a reply sampled with the source on is no
baseline. -/
def State.evaluateTest (s : State) (n p : Nat) (v0 v1 : List (Option Int)) (baseline : Bool) (status : Nat) : State :=
  match (s.links.get n).owTest with
  | none => s
  | some t =>
    if s.sinceOn t p = some 1 ∧ bitOf t.mons p ∧ !bitOf t.evald p ∧ baseline ∧ bitOf status 9
        ∧ (s.links.get n).sampleMode = (s.links.get n).samplePrev then
      match shift2 t.line v0 v1 with
      | some x =>
        let s := s.modLink n fun l => { l with owTest := some { t with evald := putBit t.evald p true } }
        -- a heard test that follows a stack finding is none of the scheduled ones
        let special := t.special || (!s.sends n && (s.mon n p).stackTest && (decide (t.line = 0) || decide (t.line = 12)))
        s.lineResult n p t.line (decide (2 * s.val P.measOwThreshold ≤ x)) special
      | none => s
    else s

/-- The three cycles of a test are over on every monitor of it, and none of its commands waits (R242). -/
def State.testOver (s : State) (n : Nat) (t : OpenWire) : Bool :=
  let l := s.links.get n
  !((l.queue ++ l.resend ++ l.outstanding.toList).any fun c => decide (c.opcode = 0x07))
    && (maskIdx 2 t.mons).all fun p => match t.startAt p with | some j => decide (3 ≤ s.since j) | none => true

/-- The tests of a link at a sweep boundary: one that is over ends, and the next starts with its OPEN_WIRE commands as the first
exchanges of the window (R242). Tests out of turn go first, then the lines of the round, then those put off, the longest put off
first (R245, R247). -/
def State.stepTests (s : State) (n : Nat) : State :=
  let s := match (s.links.get n).owTest with
    | none => s
    | some t =>
      if !s.testOver n t then s
      else
        let left := (maskIdx 2 t.mons).filter fun p => !bitOf t.evald p
        let s := s.modLink n fun l => { l with owTest := none }
        if left.isEmpty || !s.testsLines n then s
        else s.modLink n fun l => { l with owDeferred := l.owDeferred ++ [(t.line, ofIdx left + (if t.special then 4 else 0))] }
  let l := s.links.get n
  if l.owTest.isSome || l.capture || !s.testsLines n then s
  else
    let begin' := fun (line m : Nat) (s : State) =>
      let ps := (s.reached n).filter fun p => bitOf m p
      if ps.isEmpty then s
      else
        let s := s.modLink n fun l => { l with owTest := some { line := line, mons := ofIdx ps, special := decide (4 ≤ m) } }
        s.sendFirst n (ps.map fun p =>
          let on := s.nat P.measOwOnTime
          { hop := s.hopOf n p, opcode := 0x07, payload := [line, 1, on % 256, on / 256] })
    match l.owSpecial, l.owLines, l.owDeferred with
    | (line, m) :: t, _, _ => begin' line m (s.modLink n fun l => { l with owSpecial := t })
    | [], line :: t, _ => begin' line 3 (s.modLink n fun l => { l with owLines := t })
    | [], [], (line, m) :: t => begin' line m (s.modLink n fun l => { l with owDeferred := t })
    | [], [], [] => s

/-! ### What a reply makes of the rows (R233) -/

/-- Pair-sum plausibility of inner line `l` (R247), on this reply's and the previous one's readings. -/
def pairSuspect (tol step : Int) (skip : Nat) (v0 v1 : List (Option Int)) (l : Nat) : Bool :=
  let dv := fun (c : Nat) => match v1.getD c none, v0.getD c none with | some a, some b => some (a - b) | _, _ => none
  match dv (l - 1), dv l with
  | some dl, some du =>
    decide (((dl + du).natAbs : Int) ≤ tol) && decide (step ≤ dl.natAbs) && decide (step ≤ du.natAbs) && decide (sgn dl ≠ sgn du)
      && !bitOf skip (l - 1) && !bitOf skip l
      && (List.range 12).all fun m => decide (m = l - 1) || decide (m = l) || bitOf skip m ||
          (match dv m with | some x => decide (2 * (x.natAbs : Int) < step) | none => false)
  | _, _ => false

/-- A single channel that has stepped while the others stand still (R247). -/
def singleStep (step : Int) (skip : Nat) (v0 v1 : List (Option Int)) (c : Nat) : Bool :=
  let dv := fun (c : Nat) => match v1.getD c none, v0.getD c none with | some a, some b => some (a - b) | _, _ => none
  match dv c with
  | some d => decide (step ≤ d.natAbs) && !bitOf skip c &&
      (List.range 12).all fun m => decide (m = c) || bitOf skip m ||
        (match dv m with | some x => decide (2 * (x.natAbs : Int) < step) | none => false)
  | none => false

/-- Step 4 of R233: the stack cross-check (R238): none skipped, some true passed. -/
def State.stackCheck (s : State) (n p : Nat) (v : List (Option Int)) (stack : Option Int) : Option Bool :=
  let testing := match (s.links.get n).owTest with
    | some t => (decide (t.line = 0) || decide (t.line = 12)) && bitOf t.mons p &&
        (match s.sinceStart n t p with | some k => decide (k ≤ 2) | none => false)
    | none => false
  match sumValid v, stack with
  | some t, some k => if testing then none else some (decide ((t - 10 * k).natAbs ≤ 10 * s.nat P.measStackTol))
  | _, _ => none

/-- The alarm bits of a reply reach the Guard core (R261, R398, R422, R424). -/
def State.guardAlarms (s : State) (n p : Nat) (r : SampleReply) : State :=
  let s := s.condition (src 3 63) (itemLink n p) 4 (bitOf r.status 4 || bitOf r.status 5)
  if bitOf r.status 6 then
    let dead := (List.range 4).filter fun i => r.therm.getD i (-32768) = -32768
    let others := (List.range 4).all fun i => dead.contains i || decide (r.therm.getD i (-32768) < s.val P.thBrickShutdown)
    if !dead.isEmpty && others then
      let s := s.raise (src 2 6) (itemLink n p) 2
      s.forAll dead fun i s =>
        (s.modTherm fun t => { t with therms := t.therms.modify (8 * n + 4 * p + i) fun x => { x with failed := true } }).raise
          (src 2 4) (item 7 (0x8000 + 8 * n + 4 * p + i)) 2
    else s.thermalShutdown (src 2 3) (itemLink n p)
  else s.endFault (src 2 6) (itemLink n p)

/-- The window of a span (R249): n x OV_LIMIT and n x UV_LIMIT, drawn in by BRK.PAIR_MARGIN; a span without a U is not within. -/
def State.spanInside (s : State) (u : Nat × Nat × Option Int) : Bool := match u.2.2 with
  | some x => decide (u.2.1 * s.val P.brkUvLimit + s.val P.brkPairMargin ≤ x) && decide (x ≤ u.2.1 * s.val P.brkOvLimit - s.val P.brkPairMargin)
  | none => false

/-- The Guard core finds every voltage of a monitor within its limits: each brick's own, or its span's (R249, R261). -/
def State.voltsInside (s : State) (n p : Nat) : Bool :=
  let us := (s.mon n p).spans
  us.all s.spanInside && (List.range 12).all fun c =>
    let b := s.bricks.get (24 * n + 12 * p + c)
    us.any (fun u => inRun u c) || (decide (b.voltage ≠ 0xFFFF) && decide ((b.voltage : Int) ≤ s.val P.brkOvLimit) && decide (s.val P.brkUvLimit ≤ b.voltage))

/-- ALARM_CLEAR to a monitor whose alarm faults are acknowledged and whose readings are within limits (R261, R398): a thermistor
without a reading holds back the OT bit alone. -/
def State.alarmClear (s : State) (n p : Nat) : State :=
  let m := s.mon n p
  let acked := fun (l : List Nat) =>
    let on := l.filterMap fun source => s.instOf source (itemLink n p)
    !on.isEmpty && on.all fun i => i.acked
  let inside := s.voltsInside n p && m.therm.all fun t => match t with | some x => decide (x < s.val P.thBrickShutdown) | none => true
  let cool := m.therm.all Option.isSome
  let mask : Nat := (if bitOf m.status 4 && acked [src 3 63] then 1 else 0) + (if bitOf m.status 5 && acked [src 3 63] then 2 else 0)
    + (if bitOf m.status 6 && cool && acked [src 2 3, src 2 6] then 4 else 0)
  let l := s.links.get n
  let waits := (l.queue ++ l.outstanding.toList ++ l.resend).any fun c => decide (c.opcode = 0x0A) && decide (c.hop = s.hopOf n p)
  if s.sends n && inside && decide (0 < mask) && !waits then s.sendHop n (s.hopOf n p) 0x0A [mask] else s

/-- `ALARM_CLEAR_REPLY` (R205): STATUS after the clear. -/
def execAlarmClearReply (n hop : Nat) (x : LineHead) (status : Nat) (s : State) : Host.Outcome State Fault Refusal :=
  run (fun s => s.takeReply n hop 0x0A x (wireBytes [(2, status)]) fun p _ s =>
    if p = 0xF then s
    else
      let s := s.modMon n p fun m => { m with status := status }
      let s := s.when (!bitOf status 4 && !bitOf status 5) fun s => s.endFault (src 3 63) (itemLink n p)
      s.toneAgrees n) s

/-- Thermistor readings into the evaluation intervals of both cores (R394, R395). -/
def State.thermIn (s : State) (n p : Nat) (r : SampleReply) : State :=
  s.forAll (List.range 4) fun i s =>
    let x := r.therm.getD i (-32768)
    let ok := decide (x ≠ -32768)
    s.modTherm fun t => { t with therms := t.therms.modify (8 * n + 4 * p + i) fun h => { h with
      sum := if ok then h.sum + x else h.sum, valid := h.valid + b2n ok, total := h.total + 1
      gSum := if ok then h.gSum + x else h.gSum, gValid := h.gValid + b2n ok, gTotal := h.gTotal + 1 } }

/-- Bits of a row's STATUS that the reply decides (R187). -/
def State.rowStatus (s : State) (n p c old : Nat) (shuttle : Bool) (temp : Option Int) : Nat :=
  let m := s.mon n p
  let st := putBit old 4 (shuttle && decide (s.netShuttle n p c ≠ 0))
  let st := putBit st 3 (bitOf m.bad c || bitOf m.bad (c + 1))
  let st := putBit st 1 temp.isNone
  putBit (putBit st 0 (s.links.get n).capture) 6 false

/-- Steps 2 and 3 of R233: the readings of a reply in 100 uV less the offsets, none invalid. -/
def State.readings (s : State) (n p : Nat) (r : SampleReply) : List (Option Int) :=
  (List.range 12).map fun c =>
    let x := r.volt.getD c 0xFFFF
    if bitOf r.status 8 || decide (x = 0xFFFF) then none
    else some ((x : Int) - (s.bricks.get (24 * n + 12 * p + c)).vOffset)

/-- ME.04 of a reply: the monitor's conversion error, or a channel without a reading. -/
def State.convErrors (s : State) (n p : Nat) (r : SampleReply) : State :=
  let conv := bitOf r.status 8
  let s := s.condition (src 0 4) (itemLink n p) 2 conv
  s.forAll (List.range 12) fun c s => s.condition (src 0 4) (itemLink n p c) 2 (!conv && decide (r.volt.getD c 0xFFFF = 0xFFFF))

/-- Count the stack checks that fail in a row (R239). A sweep whose check is skipped, or whose reply is missing, does not break the
run: the spec does not say, and this is the model's choice (log 191). -/
def State.countStack (s : State) (n p : Nat) (check : Option Bool) : State :=
  match check with
  | some true => (s.modMon n p fun m => { m with stackFails := 0 }).endFault (src 0 1) (itemLink n p)
  | some false => s.modMon n p fun m => { m with stackFails := m.stackFails + 1 }
  | none => s

/-- Step 5 of R233: the readings corrected for the shuttle currents (R235, R237). -/
def State.corrected (s : State) (n p : Nat) (correct : Bool) (v : List (Option Int)) : List (Option Int) :=
  if correct then (v.zip (List.range 12)).map fun x => x.1.map fun a =>
    a - roundAway (s.netShuttle n p x.2 * (s.resOf (24 * n + 12 * p + x.2) : Rat) / 10000)
  else v

/-- Step 6 of R233: the channels a running test holds (R243). -/
def State.heldMask (s : State) (n p : Nat) : Nat :=
  match (s.links.get n).owTest with
  | some t =>
    let k := s.sinceStart n t p
    if bitOf t.mons p && (decide (k = some 1) || (decide (k = some 2) && !bitOf t.lifted p)) then touched t.line else 0
  | none => 0

/-- Step 7 of R233 on consecutive replies: suspect lines, each tested out of turn, and the single step of ME.06 (R247). -/
def State.plausibility (s : State) (n p skip : Nat) (check : Option Bool) (v0 v1 : List (Option Int)) : State :=
  let tol := s.val P.measPairSumTol
  let step := s.val P.measPairStep
  let sus := (List.range 12).filter fun l => decide (1 ≤ l) && !bitOf (s.mon n p).bad l && pairSuspect tol step skip v0 v1 l
  let s := s.forAll sus fun l s => (s.modMon n p fun m => { m with suspect := putBit m.suspect l true }).askTest n p l
  if check = some true then
    match (List.range 12).find? fun c => singleStep step skip v0 v1 c with
    | some c => s.raise (src 0 6) (itemLink n p c) 1 (single := true)
    | none => s
  else s

/-- The spans of a set of lines with their U (R249): first channel, bricks, U. -/
def spansOf (bad : Nat) (v : List (Option Int)) (stack : Option Int) : List (Nat × Nat × Option Int) :=
  (spanRuns bad).map fun x => (x.1, x.2, spanU bad v stack x.1 x.2)

/-- A span whose bricks cannot be told apart well enough: more than 3, or an edge span without a STACK (R249). -/
def wideSpan (bad : Nat) (stack : Option Int) (u : Nat × Nat × Option Int) : Bool :=
  let edge := (decide (u.1 = 0) && bitOf bad 0) || (decide (u.1 + u.2.1 = 12) && bitOf bad 12)
  decide (3 < u.2.1) || (edge && stack.isNone)

/-- ME.02 or ME.03 of the flagged lines of the spans, at G3 where a span is too wide (R248, R249). -/
def State.raiseSpans (s : State) (n p : Nat) (stack : Option Int) (us : List (Nat × Nat × Option Int)) : State :=
  let bad := (s.mon n p).bad
  s.forAll us fun u s =>
    let lines := (List.range 13).filter fun l => bitOf (s.mon n p).flagged l && decide (u.1 ≤ l) && decide (l ≤ u.1 + u.2.1)
    s.forAll lines fun l s => s.raise (lineSource l) (itemLink n p l) (if wideSpan bad stack u then 3 else 2)

/-- The spans the Guard core checks: on the readings of the sweep, those of bad lines and that of a test that holds channels (R243,
R249, SI.62). -/
def State.guardSpans (s : State) (n p held : Nat) (v : List (Option Int)) (stack : Option Int) : List (Nat × Nat × Option Int) :=
  let us := spansOf (s.mon n p).bad v stack
  let line := match (s.links.get n).owTest with | some t => t.line | none => 0
  if held = 0 then us
  else us ++ (spansOf (2 ^ line) v stack).filter fun x => !us.any fun u => inRun u x.1

/-- VOLTAGE of a row (R243, R249): that of cycle j on a held channel, U / n in a span, else the reading. -/
def rowVolt (us : List (Nat × Nat × Option Int)) (held : Nat) (v : List (Option Int)) (was c : Nat) : Nat :=
  if bitOf held c then was
  else match us.find? fun u => inRun u c with
  | some u => (match u.2.2 with | some x => if 0 ≤ x then min 0xFFFE (x.toNat / u.2.1) else 0 | none => 0xFFFF)
  | none => match v.getD c none with | some x => min 0xFFFE x.toNat | none => 0xFFFF

/-- A thermistor reading of a reply, none open or short (R240). -/
def replyTemp (r : SampleReply) (i : Nat) : Option Int :=
  let x := r.therm.getD i (-32768)
  if x = -32768 then none else some x

/-- Step 10 of R233: the rows of a monitor. -/
def State.writeRows (s : State) (n p : Nat) (r : SampleReply) (volt : Nat → Nat → Nat) : State :=
  s.forAll (List.range 12) fun c s => s.modBrick (24 * n + 12 * p + c) fun b => { b with
    voltage := volt b.voltage c
    temperature := replyTemp r (c / 3)
    status := s.rowStatus n p c b.status (bitOf r.status 10) (replyTemp r (c / 3))
    sampleOffset := ((s.mon n p).delay * 160 + (s.mon n p).owd + c * 160000) / 160 }

/-- Steps 2 to 10 of R233 for a monitor; `book` false where the shuttle charge is booked otherwise (R289). -/
def State.formRows (s : State) (n p : Nat) (r : SampleReply) (book : Bool := true) : State :=
  -- a suspicion withdrawn in the last sweep has ended (R248)
  let s := s.modMon n p fun m => { m with suspect := m.suspect - (m.suspect &&& m.withdrawn), withdrawn := 0 }
  let old := s.mon n p
  let v3 := s.readings n p r
  let stack : Option Int := if bitOf r.status 8 then none else some r.stack
  let s := s.convErrors n p r
  let check := s.stackCheck n p v3 stack
  let s := s.countStack n p check
  let late := decide (r.status % 4 = 0) && bitOf r.status 10
  let s := s.when late fun s => s.raise (src 0 8) (itemLink n p) 2 (single := true)
  let v5 := s.corrected n p (decide (r.status % 4 = 1) || late) v3
  -- the open-wire result works on the values of step 3 (R244)
  let consecutive := match old.lastSweep with | some k => decide ((k + 1) % 2 ^ 32 = s.time.sweep % 2 ^ 32) | none => false
  let s := (s.hearTest n p r.status).evaluateTest n p old.vPrev v3 (consecutive && !old.onPrev) r.status
  let held := s.heldMask n p
  let v6 := (List.range 12).map fun c => if bitOf held c then old.vHeld.getD c none else v5.getD c none
  let s := s.when consecutive fun s => s.plausibility n p (held ||| old.heldNow) check old.vCorr v5
  let us := spansOf (s.mon n p).bad v6 stack
  let s := s.raiseSpans n p stack us
  let guard := s.guardSpans n p held v5 stack
  let s := s.when book fun s => s.bookReply n p r
  let s := s.writeRows n p r (rowVolt us held v6)
  s.modMon n p fun m => { m with
    vPrev := v3, vCorr := v5, vHeld := v6, onPrev := bitOf r.status 9, lastSweep := some s.time.sweep, stack := stack.map Int.toNat
    spans := guard, heldNow := held, therm := (List.range 4).map (replyTemp r) }

/-- The alarm tone of a link with a monitor whose reply is missing (R422, R423), judged when the replies of the sweep are due. -/
def State.toneDemand (s : State) (n : Nat) : State :=
  let l := s.links.get n
  let linkCoreDown := (s.arch.engines.get 2).inReset
  let absent := linkCoreDown || (List.range (s.monCount n)).any fun p => !(s.mon n p).replied
  s.condition (src 3 64) (itemLink n) 4 (l.tone && absent)

/-- A Tally core counts: its engine (3 for core 0, 4 for core 1) is not in reset. -/
def State.counts (s : State) (core : Nat) : Bool := !(s.arch.engines.get (3 + core)).inReset

/-- A brick frame for a Tally core in reset waits in the fabric (R26); its shuttle charge is in the cumulative counters, from
which the core books it when it comes back (R289). -/
def State.bufferFrame (s : State) (n p : Nat) (r : SampleReply) : State :=
  let m : FabricMsg := { senderEpoch := (s.arch.engines.get 2).epoch, expected := (s.arch.engines.get (3 + n % 2)).epoch, link := n, pos := p
                         sweep := s.time.sweep, volt := r.volt, stack := r.stack, therm := r.therm, shuttleQ := r.shuttleQ, status := r.status }
  let s := s.modArch fun a => { a with engines := a.engines.modify (3 + n % 2) fun g => { g with buffer := g.buffer ++ [m] } }
  s.modMon n p fun m => { m with
    missedK := 0, shuttleCount := (m.shuttleCount.zip (List.range 12)).map fun x => wrapI 32 (x.1 + r.shuttleQ.getD x.2 0) }

/-- The shuttle charge of a SAMPLE reply whose SAMPLE was not heard (R259). -/
def State.bookHeard (s : State) (n p : Nat) (r : SampleReply) : State :=
  if s.counts (n % 2) then s.bookReply n p r
  else s.modMon n p fun m => { m with
    bookedNow := true, missedK := 0, shuttleCount := (m.shuttleCount.zip (List.range 12)).map fun x => wrapI 32 (x.1 + r.shuttleQ.getD x.2 0) }

/-- A brick frame that has waited forms its rows as of its own sweep (R26); its shuttle charge is in the counters that the core books
from as it comes back (R289). -/
def State.takeBuffered (s : State) (m : FabricMsg) : State :=
  let now := s.time.sweep
  let r : SampleReply := { link := m.link, volt := m.volt, stack := m.stack, therm := m.therm, shuttleQ := m.shuttleQ, status := m.status }
  ((s.modTime fun t => { t with sweep := m.sweep }).formRows m.link m.pos r (book := false)).modTime fun t => { t with sweep := now }

/-- `SAMPLE_REPLY` (R233): accepted under R199, placed by hop, and turned into the monitor's rows. -/
def execSampleReply (r : SampleReply) (s : State) : Host.Outcome State Fault Refusal :=
  run (fun s =>
    let n := r.link
    if !s.linkHears n then s
    else if !(r.head.accepts 1 r.hop 0x01 (sampleBytes r)) then s.linkError n
    else match s.posOf n r.hop with
      | none => s.linkError n
      | some p =>
        let old := s.mon n p
        let s := (s.markReply n r.head.endUs).heardMon n p
        -- a reply that ends after +600 us is missing for the cycle (R42)
        if !s.swept n || decide (600 < r.head.endUs) then s
        -- heard without its SAMPLE, it gives no rows, but its charge counts (R230, R259)
        else if !(s.links.get n).sampled then s.bookHeard n p r
        else
          let s := s.modMon n p fun m => { m with
            replied := true, missedRun := 0, status := r.status, sampleStatus := r.status, fresh := false, wokeAt := none }
          let s := s.endFault (src 1 2) (itemLink n p)
          let s := if s.counts (n % 2) then s.formRows n p r else s.bufferFrame n p r
          let s := (s.thermIn n p r).guardAlarms n p r
          let s := (s.alarmClear n p).toneAgrees n
          let s := (s.endPairs n).decideLink n
          -- WOKE without a gap (R226): the link is identified again
          if bitOf r.status 11 && !old.fresh && old.wokeAt.isNone then
            (s.raise (src 1 8) (itemLink n p) 2 (single := true)).identifyAgain n
          else s) s

/-! ### Tone and heard commands (R228 to R230, R246) -/

/-- `ALARM_TONE_PRESENT` (R228, R422, R423): in M0 to Night Safe alone, else to the Guard core as well. -/
def execAlarmTonePresent (n : Nat) (s : State) : Host.Outcome State Fault Refusal :=
  run (fun s =>
    if !s.linkUsed n then s
    else
      let s := (s.modLink n fun l => { l with tone := true }).abandonDormant 2
      if s.night.inCharge || !s.power.mainUp then s
      else
        let s := s.when ((s.arch.engines.get 2).inReset) fun s => s.toneDemand n
        s.forAll (List.range (s.monCount n)) fun p s => s.alarmClear n p) s

/-- `ALARM_TONE_ABSENT` (R228). -/
def execAlarmToneAbsent (n : Nat) (s : State) : Host.Outcome State Fault Refusal :=
  run (fun s =>
    let s := s.modLink n fun l => { l with tone := false }
    ((s.endFault (src 3 64) (itemLink n))).toneAgrees n) s

/-- `HEARD_COMMAND_FRAME` (R230, R246): a listening module runs its sweep, its counter and its tests from the frames it hears. -/
def execHeardCommandFrame (n hop opcode : Nat) (x : LineHead) (payload : List Nat) (s : State) : Host.Outcome State Fault Refusal :=
  run (fun s =>
    if !s.linkHears n then s
    else if !(x.accepts 0 hop opcode (payload.flatMap (leBytes 1))) then s.linkError n
    else if s.sends n then s
    else
      let s := s.modTwin fun t => { t with ringAt := some s.time.ns }
      let s := s.modLink n fun l => { l with
        lastFrame := s.time.ns, mark := s.time.ns, originZero := if x.origin = 0 then s.time.ns else l.originZero
        -- a command that a monitor has taken arrives here with HOP 0, and draws a reply (R200, R206)
        heardCmd := if hop = 0 then some { hop := hop, opcode := opcode, payload := payload, tag := x.tag } else l.heardCmd }
      -- frames after a silence: the link is identified again (R216, R223)
      let s := if (s.links.get n).state = 5 then s.identifyAgain n else s
      match opcode with
      | 0x01 =>
        let k := payload.getD 0 0 + 256 * payload.getD 1 0 + 65536 * payload.getD 2 0 + 2 ^ 24 * payload.getD 3 0
        let s := s.modTime fun t => { t with sweep := k, sweepSet := true }
        let s := s.modLink n fun l => { l with
          sampled := true, samplePrev := l.sampleMode, sampleMode := payload.getD 4 0, capture := decide (payload.getD 4 0 = 2) }
        s.modModes fun m => { m with sweeping := true }
      | 0x07 =>
        -- which monitor takes the test shows in its reply and in OPEN_WIRE_ON (log 195)
        let k := s.time.sweep
        let again := match (s.links.get n).owTest with
          | some t => decide (t.line = payload.getD 0 0) && decide (t.start0 = some k)
          | none => false
        if payload.getD 1 0 != 1 || again then s
        else s.modLink n fun l => { l with owTest := some { line := payload.getD 0 0, start0 := some k, start1 := some k } }
      | _ => s) s

/-! ### The end of a cycle (R231, R232, R257) -/

/-- Missed SAMPLE replies of the cycle that ends (R225, R231, R232). -/
def State.missedReplies (s : State) : State :=
  s.forAll s.usedLinks fun n s =>
    if !s.swept n then s
    else if !(s.links.get n).sampled then
      -- a sweep whose SAMPLE was not heard: a charge that has not come is booked with the next (R257, R259)
      s.forAll (List.range (s.monCount n)) fun p s => s.modMon n p fun m => if m.bookedNow then m else { m with missedK := m.missedK + 1 }
    else s.forAll (List.range (s.monCount n)) fun p s =>
      let m := s.mon n p
      let waking := match m.wokeAt with | some t => decide (s.time.ns < t + 21000000) | none => false
      if m.replied || waking then s
      else
        let s := s.modLink n fun l => { l with missedReplies := satU 32 (l.missedReplies + 1) }
        let s := s.modMon n p fun m => { m with missedRun := m.missedRun + 1, missedK := m.missedK + 1 }
        let k := (s.mon n p).missedRun
        if k = 10 then s.raise (src 1 2) (itemLink n p) 2 else if k = 500 then s.raise (src 1 2) (itemLink n p) 3 else s

/-- The identified links with a monitor that has not replied in the cycle (R97). -/
def State.missedLinks (s : State) : List Nat :=
  (s.usedLinks.filter s.swept).filter fun n => (List.range (s.monCount n)).any fun p => !(s.mon n p).replied

/-- The monitor is taken as asleep (R229). -/
def State.sleepers (s : State) : State :=
  s.forAll s.usedLinks fun n s => s.forAll (List.range (s.monCount n)) fun p s =>
    let far := fun (t : Nat) => decide (t + 2000000000 ≤ s.time.ns)
    if far (s.mon n p).lastReply || far (s.links.get n).lastFrame then s.modMon n p fun m => { m with asleep := true } else s

/-- No exchange starts between the end of a command window and the next one (R212). -/
def State.closeWindows (s : State) : State := s.forAll s.usedLinks fun n s => s.modLink n fun l => { l with winAt := 10000 }

/-- Prepare every link for the cycle that begins: counters of shuttles commanded 0, missed exchanges back in front, a heard test that
is over, LK.01 with too few failures left, LK.09. -/
def State.openWindows (s : State) : State :=
  s.forAll s.usedLinks fun n s =>
    let s := s.forAll (List.range (s.monCount n)) fun p s => s.modMon n p fun m => { m with
      replied := false, bookedNow := false
      zeroRun := (m.zeroRun.zip m.cmd).map fun x => if x.2 = 0 ∧ m.commanded ∧ !m.balanceDue then x.1 + 1 else 0 }
    let s := s.when (!s.failing n) fun s => s.endFault (src 1 1) (itemLink n)
    let ended := match (s.links.get n).owTest with | some t => !s.sends n && s.testOver n t | none => false
    (s.modLink n fun l => { l with
      queue := l.resend ++ l.queue, resend := [], sampled := false, owTest := if ended then none else l.owTest }).toneAgrees n

/-- SAMPLE on every link the module sweeps, and the exchanges of the command windows (R212, R214, R226, R234). -/
def State.broadcast (s : State) : State :=
  s.forAll s.usedLinks fun n s =>
    if !s.sends n || (s.arch.engines.get 2).inReset then s
    else
      let l := s.links.get n
      let s := if l.state = 5 then s.wakeLink n else s
      let l := s.links.get n
      let s := if s.swept n then
          let mode := if l.capture then 2 else s.nat (P.lnkSampleMode n)
          let k := s.time.sweep
          let s := s.modLink n fun l => { l with sampled := true, samplePrev := l.sampleMode, sampleMode := mode, lastFrame := s.time.ns }
          s.emit (.line n 7 0x01 (k % 2 ^ 16) s.pos (wordBytes [k, k / 2 ^ 16] ++ [mode, 0]))
        else s
      let s := s.modLink n fun l => { l with winAt := if l.capture then 2900 else 3000 }
      let s := if l.waking && l.outstanding.isNone && l.queue.isEmpty then s.sendHop n 1 0x02 [] else s
      let s := s.stepTests n
      (s.sendChanges n).startNext n

end Sys2Proof.Machine
end

