-- ==== Sys2Proof/Machine/Estimate.lean ====
section
/-! DEFINITION. Charge estimation (chapter 08): counting, OCV tables, cut points, positions, anchors, glide, rail and string
figures, warnings, rest points, capacity learning, gaps, checkpoints and the triggers of a write-back. -/

namespace Sys2Proof.Machine

open Sys2Proof

/-! ### OCV tables (R178, R269) -/

/-- A plane is used: some point of it is not 0 (R178). -/
def State.ocvUsed (s : State) (p : Nat) : Bool := s.par.force.any fun x =>
  decide (P.ocvPoint p 0 ≤ x.1) && decide (x.1 ≤ P.ocvPoint p 100) && decide (x.2.getD 0 ≠ 0)

/-- The planes in use. -/
def State.planes (s : State) : List Nat := (List.range 6).filter s.ocvUsed

/-- The planes that a temperature is read from, with their weights (R269). -/
def State.planeMix (s : State) (t : Rat) : List (Nat × Rat) :=
  let temp := fun (p : Nat) => ((s.val (P.ocvTemperature p) : Int) : Rat)
  let pick := fun (better : Rat → Rat → Bool) (l : List Nat) => l.foldl (fun (m : Option Nat) p => match m with
    | some q => if better (temp p) (temp q) then some p else some q
    | none => some p) none
  let low := pick (fun a b => decide (b < a)) (s.planes.filter fun p => decide (temp p ≤ t))
  let high := pick (fun a b => decide (a < b)) (s.planes.filter fun p => decide (t ≤ temp p))
  match low, high with
  | some a, some b =>
    if temp a = temp b then [(a, 1)]
    else [(a, (temp b - t) / (temp b - temp a)), (b, (t - temp a) / (temp b - temp a))]
  | some a, none => [(a, 1)]
  | none, some b => [(b, 1)]
  | none, none => []

/-- The hysteresis of a plane at position `i` %, between its 5 % points. -/
def State.hystAt (s : State) (p i : Nat) : Rat :=
  let v := fun (j : Nat) => ((s.val (P.ocvHyst p j) : Int) : Rat)
  if i % 5 = 0 then v (i / 5) else v (i / 5) + (v (i / 5 + 1) - v (i / 5)) * ((i % 5 : Nat) : Rat) / 5

/-- The OCV curve at `i` %, with `h` times the hysteresis (0 discharge, 1 charge, 1/2 unknown). -/
def State.curve (s : State) (mix : List (Nat × Rat)) (h : Rat) (i : Nat) : Rat :=
  mix.foldl (fun a x => a + x.2 * (((s.val (P.ocvPoint x.1 i) : Int) : Rat) + (if h = 0 then 0 else h * s.hystAt x.1 i))) 0

/-- Mean of a list of temperatures, none with none. -/
def meanTemp (l : List Int) : Option Int := if l.isEmpty then none else some (divNear (l.foldl (· + ·) 0) l.length)

/-- T of a brick (R269): its own, its monitor's mean, its rail's mean, or the last T used. -/
def State.tempOf (s : State) (b : Nat) : Option Int :=
  let own := fun (b : Nat) => (s.bricks.get b).temperature
  match own b with
  | some t => some t
  | none => match meanTemp ((halfBricks (b / 24) (b % 24 / 12)).filterMap own) with
    | some t => some t
    | none => match meanTemp ((match s.railOf (b / 24) with | some r => s.bricksOf r | none => []).filterMap own) with
      | some t => some t
      | none => (s.bricks.get b).lastT

/-- s_cut in % of R270 at a current of `i` mA: the lowest position that keeps the stop voltage. -/
def State.cutAt (s : State) (b : Nat) (i : Rat) : Rat :=
  match s.tempOf b with
  | none => 0
  | some t =>
    let mix := s.planeMix t
    if mix.isEmpty then 0
    else
      let x := s.bricks.get b
      let res : Nat := if x.seriesRes = 0xFFFF ∨ x.rcARes = 0xFFFF ∨ x.rcBRes = 0xFFFF ∨ !hasIsu s.ident.variant
        then 2 * s.nat P.measSeriesResDefault else x.seriesRes + x.rcARes + x.rcBRes
      let v : Rat := ((s.val P.estStopVoltage : Int) : Rat) - min i 0 * (res : Rat) / 10000
      if v ≤ s.curve mix 0 0 then 0
      else match (List.range 50).find? fun j => decide (v ≤ s.curve mix 0 (j + 1)) with
        | some j =>
          let a := s.curve mix 0 j
          let c := s.curve mix 0 (j + 1)
          (j : Rat) + (if c = a then 1 else (v - a) / (c - a))
        | none => 50

/-- s_ocv of a reading, 0.01 %, on the curve of a direction, none where its 1 % interval is too flat (R283). -/
def State.ocvPosition (s : State) (b direction reading : Nat) : Option Nat :=
  match s.tempOf b with
  | none => none
  | some t =>
    let mix := s.planeMix t
    if mix.isEmpty then none
    else
      let h : Rat := if direction = 2 then 0 else if direction = 1 then 1 else 1 / 2
      let v : Rat := (reading : Rat)
      let slope : Rat := ((s.val P.estOcvMinSlope : Int) : Rat)
      match (List.range 100).find? fun j =>
          decide (s.curve mix h j ≤ v) && decide (v ≤ s.curve mix h (j + 1)) && decide (slope ≤ s.curve mix h (j + 1) - s.curve mix h j) with
      | some j =>
        let a := s.curve mix h j
        let c := s.curve mix h (j + 1)
        some (roundAway (100 * ((j : Rat) + (v - a) / (c - a)))).toNat
      | none => none

/-! ### Positions (R271, R286) -/

/-- A_b in uC. -/
def Brick.above (b : Brick) : Int := b.q - b.e

/-- C_b in uC. -/
def Brick.cap (b : Brick) : Int := (b.c : Int) * 100000

/-- A position of R271 for a charge above empty, 0.01 %. -/
def Brick.posOf (b : Brick) (a : Int) : Nat :=
  if b.cap ≤ b.cut then 0 else (clampI 0 10000 (divNear ((a - b.cut) * 10000) (b.cap - b.cut).toNat)).toNat

/-- RAW_POSITION. -/
def Brick.rawPosition (b : Brick) : Nat := match b.heldPos with
  | some p => p.2
  | none => b.posOf b.above

/-- POSITION; R286 holds it at an end for as long as the count stands there. -/
def Brick.position (b : Brick) : Nat := match b.heldPos with
  | some p => p.1
  | none =>
    if b.driftHold = 1 ∧ b.posOf b.above = 0 then 0
    else if b.driftHold = 2 ∧ b.posOf b.above = 10000 then 10000
    else b.posOf (b.above + b.g)

/-- An anchor or a learn moves u and h at once: the next glide step starts from the new ones (R276, R277), and a hold of R286 ends. -/
def Brick.settled (b : Brick) : Brick := { b with uPrev := b.above - b.cut, hPrev := b.cap - b.above, driftHold := 0 }

/-- Change E or C, and set the glide so that POSITION stays (R275). -/
def Brick.glided (old new : Brick) : Brick :=
  let span := (old.cap - old.cut).toNat
  let x := if old.driftHold = 1 then 0 else clampI 0 (old.cap - old.cut) (old.above + old.g - old.cut)
  let x := if old.driftHold = 2 then old.cap - old.cut else x
  let g := divNear (x * (new.cap - new.cut)) span + new.cut - new.above
  if span = 0 then new.settled else ({ new with g := g, g0 := g.natAbs, gFrac := 0 } : Brick).settled

/-- The charge of the last 1,000 sweeps in uC, which is the 1 s mean current in mA times 1,000 (R272). -/
def Brick.meanCharge (b : Brick) : Int := b.hist.foldl (fun a x => a + x.1) 0

/-- |i| mA is below C_b ÷ `div` per hour. -/
def Brick.below (b : Brick) (div : Nat) (i : Rat) : Bool :=
  decide ((if i < 0 then -i else i) * ((div * 3600 : Nat) : Rat) < ((b.c * 100 : Nat) : Rat))

/-- The rest threshold of a rail: that of its brick with the least capacity (0 without bricks). -/
def State.restBelow (s : State) (r : Nat) (i : Rat) : Bool :=
  let l := s.bricksOf r
  !l.isEmpty && l.all fun b => (s.bricks.get b).below (s.nat P.estRestDivisor) i

/-- R273: the row excludes the brick from anchors and rest points; R268: so does MISSING. -/
def Brick.excluded (b : Brick) : Bool :=
  bitOf b.status 0 || bitOf b.status 1 || bitOf b.status 3 || bitOf b.status 4 || bitOf b.status 6

/-! ### Triggers of a write-back (R297, R298) -/

/-- A write-back is queued, or made once more after the one that runs (R297). -/
def State.writeBack (s : State) : State :=
  let runs := match s.vault.writing with | some w => decide (w.order = 5) | none => false
  if runs then s.modEst fun e => { e with again := true } else s.queueVault 5

/-- An anchor or a learn makes a write-back due (R298). -/
def State.anchored (s : State) : State := s.modEst fun e => { e with holdoff := true }

/-- `LEARNED_PERIOD_EXPIRY` (R298). -/
def execLearnedPeriodExpiry (s : State) : Host.Outcome State Fault Refusal := run State.writeBack s

/-- `WRITE_HOLDOFF_EXPIRY` (R298): after the first anchor or learn since the last generation. -/
def execWriteHoldoffExpiry (s : State) : Host.Outcome State Fault Refusal :=
  run (fun s => if s.est.holdoff then (s.modEst fun e => { e with holdoff := false }).writeBack else s) s

/-! ### Anchors (R272 to R275) -/

/-- The marks every anchor leaves: ANCHOR_TIME, the kind, POSITION_UNCERTAIN cleared (R272). -/
def State.anchorMarks (s : State) (kind : Nat) (b : Brick) : Brick :=
  { b with anchorTime := s.sec32, flags := putBit b.flags 1 false % 16 + 16 * kind }

/-- A brick's A_b has moved by 5 % of C_b since an anchor of the kind. -/
def Brick.moved (b : Brick) (last : Option Int) : Bool :=
  match last with | none => true | some a => decide (b.cap ≤ 20 * ((b.above - a).natAbs : Int))

/-- `FULL_ANCHOR` (R272): the full condition has held for EST.FULL_TIME at brick `b`. -/
def execFullAnchor (b : Nat) (s : State) : Host.Outcome State Fault Refusal :=
  run (fun s =>
    let x := s.bricks.get b
    if s.brickUsed b && !x.excluded && decide (x.voltage ≠ 0xFFFF) && decide (s.nat P.estFullVoltage ≤ x.voltage)
        && x.below (s.nat P.estFullDivisor) (x.dq : Rat) && x.moved x.fullAt then
      let s := s.modBrick b fun x =>
        let y := s.anchorMarks 1 { x with e := x.q - x.cap, fullAnchors := satU 16 (x.fullAnchors + 1) }
        let y := x.glided y
        { y with fullAt := some y.above }
      s.anchored
    else s) s

/-- The empty anchor of a brick (R272): E_b from the cut point at the 1 s mean current, no glide (R275). -/
def State.emptyAnchor (s : State) (b : Nat) : State :=
  let x := s.bricks.get b
  let mean : Rat := (x.meanCharge : Rat) / 1000
  let cut := roundAway (s.cutAt b mean * (x.cap : Rat) / 100)
  let s := s.modBrick b fun x =>
    let y := s.anchorMarks 2 { x with
      e := x.q - cut, cut := cut, g := 0, g0 := 0, gFrac := 0
      iF := x.meanCharge * 1000000, emptyAnchors := satU 16 (x.emptyAnchors + 1) }
    ({ y with emptyAt := some y.above } : Brick).settled
  s.anchored

/-- The row of a brick follows a step of its position within the sweep that has published it (R277, R287). -/
def State.rowFollows (s : State) (b : Nat) : State :=
  let put := fun (t : Table Brick) => t.set b { s.bricks.get b with status := (t.get b).status, heldPos := none }
  { s with rows := put s.rows, readRows := if s.arch.readSweep = s.time.sweep then put s.readRows else s.readRows }

/-- `EMPTY_ANCHOR` (R272, R287): the empty condition has held for EST.EMPTY_SWEEPS at brick `b`; its row, and with it the rail and
string figures of the sweep, follow. -/
def execEmptyAnchor (b : Nat) (s : State) : Host.Outcome State Fault Refusal :=
  run (fun s =>
    let x := s.bricks.get b
    if s.brickUsed b && !x.excluded && decide (s.nat P.estEmptySweeps ≤ x.emptyRun) && x.moved x.emptyAt then (s.emptyAnchor b).rowFollows b
    else s) s

/-! ### Rest points and capacity learning (R282 to R285) -/

/-- Decide the commands of every monitor of a rail anew. -/
def State.decideRail (s : State) (r : Nat) : State :=
  s.forAll (s.linksOf r) fun n s => s.forAll (List.range (s.monCount n)) fun p s => s.decideCmds n p

/-- `REST_HOLD_REACHED` (R282): every automatic shuttle of rail `r` is commanded 0. -/
def execRestHoldReached (r : Nat) (s : State) : Host.Outcome State Fault Refusal :=
  run (fun s =>
    let x := s.rails.get r
    if s.railUsed r && !x.restTaken && !x.restHold && decide ((s.nat P.estRestTime - s.nat P.estRestHold) * 60 ≤ x.restTimer) then
      let s := s.modRail r fun x => { x with restHold := true }
      let s := s.forAll (s.bricksOf r) fun b s => s.modBrick b fun x => { x with restSpoiled := false }
      s.decideRail r
    else s) s

/-- The mean VOLTAGE of the valid rows of the last second, none where fewer than 900 are valid or one carries SHUTTLE_ACTIVE
(R283). -/
def Brick.restReading (b : Brick) : Option Nat :=
  let l := b.hist.filterMap fun x => x.2.1
  if 900 ≤ l.length ∧ b.hist.all (fun x => !x.2.2) then some (divNear ((l.foldl (· + ·) 0 : Nat) : Int) l.length).toNat else none

/-- The capacity of a learn (R285) between the stored rest point and (Q2, s2): none none tried; else the new capacity (none
rejected) and whether its step was limited. -/
def State.learn (s : State) (x : Brick) (s2 : Nat) : Option (Option Nat × Bool) :=
  let ds : Int := (s2 : Int) - x.restPosition
  let dq : Int := x.q - x.restBalance * 100000
  if bitOf x.flags 2 && !bitOf x.flags 3 && !bitOf x.flags 0 && decide (s.nat P.estLearnSpan ≤ ds.natAbs)
      && decide (dq ≠ 0) && decide (0 < dq ↔ 0 < ds) then
    let new : Rat := (dq : Rat) / 10 / (ds : Rat)
    let c : Rat := (x.c : Rat)
    let d : Rat := (new - c) / c
    let l : Rat := ((s.val P.estLearnStep : Int) : Rat) / 10000
    let m := if d < 0 then -d else d
    let take := if m ≤ l then some new else if m ≤ 3 * l then some (if 0 ≤ d then c * (1 + l) else c * (1 - l)) else none
    let rated : Rat := ((s.val P.estRatedCapacity : Int) : Rat)
    match take with
    | some y =>
      let z := roundAway y
      let lo := rated * ((s.val P.estCapacityMin : Int) : Rat) / 10000
      let hi := rated * ((s.val P.estCapacityMax : Int) : Rat) / 10000
      if (z : Rat) < lo ∨ hi < (z : Rat) then some (none, false) else some (some z.toNat, decide (l < m))
    | none => some (none, false)
  else none

/-- A brick's cut point follows its capacity (R270). -/
def Brick.withCap (b : Brick) (c : Nat) : Brick := { b with c := c, cut := if b.c = 0 then 0 else divNear (b.cut * c) b.c }

/-- The rail of a brick counts from another source than its shunt: no learn runs across it (R266, R285). -/
def State.countsElse (s : State) (b : Nat) : Bool := match s.railOf (b / 24) with
  | some r => decide ((s.rails.get r).countSource ≠ 0)
  | none => false

/-- A rest point of a brick with its reading and s_ocv (R284). -/
def State.restPoint (s : State) (b reading sOcv : Nat) (learning : Bool) : State :=
  let x := s.bricks.get b
  let s := match (if learning then s.learn x sOcv else none) with
    | some (some c, limited) =>
      let s := s.modBrick b fun x => { x.glided (x.withCap c) with learns := satU 16 (x.learns + 1) }
      let s := s.when limited fun s => s.raise (src 0 15) (itemBrick b) 0 (single := true)
      s.anchored
    | some (none, _) =>
      (s.modBrick b fun x => { x with learnRejects := satU 16 (x.learnRejects + 1) }).raise (src 0 12) (itemBrick b) 1 (single := true)
    | none => s
  let x := s.bricks.get b
  let off := (x.above * 10000 - (sOcv : Int) * x.cap).natAbs
  let s := if bitOf x.flags 1 || bitOf x.flags 0 || decide (s.nat P.estRestAnchorTol * x.cap.toNat < off) then
      s.modBrick b fun x => x.glided (s.anchorMarks 3 { x with e := x.q - (sOcv : Int) * x.cap / 10000 })
    else s
  let s := s.modBrick b fun x => { x with
    driftHold := 0, status := putBit x.status 2 false, ocvLast := reading, restPosition := sOcv, restTime := s.sec32
    restBalance := satI 32 (x.q / 100000), flags := putBit (putBit (putBit x.flags 0 false) 2 true) 3 (s.countsElse b) }
  s.endFault (src 0 10) (itemBrick b)

/-- The rest points of a rail (R283, R284): every brick with a valid one; bricks of pair targets take none (R282). -/
def State.restPoints (s : State) (r : Nat) : State :=
  let rail := s.rails.get r
  if s.planes.isEmpty then s
  else s.forAll (s.bricksOf r) fun b s =>
    let x := s.bricks.get b
    let pair := s.est.pairs.any fun t => decide (t.brick = b) || decide (t.brick + 1 = b)
    match x.restReading with
    | some v =>
      -- ME.13 stays present until it is acknowledged (R267, R283)
      if x.excluded || x.restSpoiled || pair || (s.instOf (src 0 13) (item 3 r)).isSome then s
      else match s.ocvPosition b rail.direction v with
        | some p => s.restPoint b v p true
        | none => s
    | none => s

/-- `REST_TIME_REACHED` (R282): the rest points of rail `r`, once per rest period; balancing resumes. -/
def execRestTimeReached (r : Nat) (s : State) : Host.Outcome State Fault Refusal :=
  run (fun s =>
    let x := s.rails.get r
    if s.railUsed r && x.restHold && !x.restTaken && decide (s.nat P.estRestTime * 60 ≤ x.restTimer) then
      let s := s.restPoints r
      (s.modRail r fun x => { x with restTaken := true, restHold := false }).decideRail r
    else s) s

/-- `DIRECTION_SET` (R283): |I_r| has exceeded the rest threshold in one direction for 60 s. -/
def execDirectionSet (r : Nat) (charge : Bool) (s : State) : Host.Outcome State Fault Refusal :=
  run (fun s =>
    let i := (s.rails.get r).current
    if s.railUsed r && !s.restBelow r (i : Rat) && decide (if charge then 0 < i else i < 0) then
      s.modRail r fun x => { x with direction := if charge then 1 else 2 }
    else s) s

/-- `DRIFT_TIMEOUT` (R286): the count places brick `b` at an end that its voltage has denied for EST.DRIFT_TIME. -/
def execDriftTimeout (b : Nat) (full : Bool) (s : State) : Host.Outcome State Fault Refusal :=
  run (fun s =>
    let x := s.bricks.get b
    let m := s.nat P.estDriftMargin
    let stands := if full then decide (x.rawPosition = 10000) && decide (0 < x.dq) && decide (x.voltage + m < s.nat P.estFullVoltage)
      else decide (x.rawPosition = 0) && decide (x.dq < 0) && decide (s.nat P.estStopVoltage + m < x.voltage)
    if s.brickUsed b && decide (x.voltage ≠ 0xFFFF) && !bitOf x.status 6 && stands then
      let s := s.modBrick b fun x => { x with
        driftHold := if full then 2 else 1, flags := putBit x.flags 0 true, status := putBit x.status 2 true
        driftCount := satU 16 (x.driftCount + 1) }
      s.raise (src 0 10) (itemBrick b) 1
    else s) s

/-! ### Count sources (R266, R267) -/

/-- A break in the charge record of a rail's bricks: REST_PATH_BROKEN, and POSITION_UNCERTAIN where asked (R285, R294). -/
def State.breakPath (s : State) (r : Nat) (uncertain : Bool) : State :=
  s.forAll (s.bricksOf r) fun b s => s.modBrick b fun x => { x with
    flags := putBit (if uncertain then putBit x.flags 1 true else x.flags) 3 true }

/-- The count source of a rail from its valid channels (R266), with ME.14 and the marks of its bricks. -/
def State.countFrom (s : State) (r : Nat) (shunt hall : Bool) : State :=
  let code := if shunt then 0 else if hall then 1 else 2
  let s := s.modRail r fun x => { x with shuntValid := shunt, hallValid := hall, countSource := code }
  if code = 0 then s.endFault (src 0 14) (item 3 r)
  else (s.breakPath r (decide (code = 2))).raise (src 0 14) (item 3 r) (if code = 2 then 3 else 2)

/-- `HALL_MISMATCH_TIMEOUT` (R267): shunt and Hall have disagreed for 1 s. -/
def execHallMismatchTimeout (r : Nat) (s : State) : Host.Outcome State Fault Refusal :=
  run (fun s =>
    let x := s.rails.get r
    if s.railUsed r && x.shuntValid && x.hallValid then
      ((s.modRail r fun x => { x with hallMismatch := true }).breakPath r false).raise (src 0 13) (item 3 r) 2
    else s) s

/-! ### Booking (R264, R290) -/

/-- Book rail charge in uC into the bricks of a rail; `cores` marks the Tally cores that count. -/
def State.bookBricks (s : State) (r : Nat) (q : Int) (cores : Nat → Bool) : State :=
  s.forAll ((s.bricksOf r).filter fun b => cores (b / 24 % 2)) fun b s =>
    let s := s.modBrick b fun x => { x with q := x.q + q, dq := x.dq + q }
    s.when s.accrues fun s => s.ledCharge (ledKey 1 b) 100 q

/-- Book charge in uC into a rail and into every brick of it. -/
def State.bookRail (s : State) (r : Nat) (q : Int) (cores : Nat → Bool) : State :=
  let s := s.modRail r fun x => { x with chargeTotal := x.chargeTotal + q }
  let s := s.when s.accrues fun s => s.ledCharge (ledKey 2 r) 172 q
  s.bookBricks r q cores

/-- Book the charge of a gap (R290): of the whole module, or of one Tally core, whose rails have been counted. -/
def State.bookGap (s : State) (r : Nat) (q : Int) (core : Option Nat) : State := match core with
  | none => s.bookRail r q fun _ => true
  | some c => s.bookBricks r q fun k => decide (k = c)

/-- The rail charge of the ticks before the last epoch, 20 in a cycle of 1 ms, each with its length (R264, R516); none under count source 2 (R266). -/
def State.bookTicks (s : State) : State :=
  s.forAll ((List.range 8).filter s.railUsed) fun r s =>
    let x := s.rails.get r
    let t := x.tickSum + x.carry * 5000
    let q := if x.countSource = 2 then 0 else t / 100000
    let mean := if s.time.cycleLen = 0 then q else divNear (q * 100000) s.time.cycleLen
    let s := s.modRail r fun x => { x with
      carry := if x.countSource = 2 then x.carry else t % 100000 / 5000, tickSum := 0, sweepCharge := q, current := mean
      absSum := x.absSum + q.natAbs, curSum := x.curSum + q }
    s.bookRail r q s.counts

/-- The rail charges of the cycle into the modulator history of 10 s (R38, R289), and the totals at a 100 ms boundary (R292). -/
def State.logCharges (s : State) : State :=
  let s := s.modEst fun e => { e with
    history := ((s.time.sweep, (List.range 8).map fun r => (s.rails.get r).sweepCharge) :: e.history).take 10000 }
  if s.time.ns / 1000000 % 100 = 0 then
    let k := s.time.ns / 100000000
    s.forAll (List.range 8) fun r s => s.modRail r fun x => { x with chargeLog := ((k, x.chargeTotal) :: x.chargeLog).take 1201 }
  else s

/-- Book the cycle that ended at the last sweep epoch, once: with the loop tick at that epoch, or at the latest before a Tally
core works on the cycle. -/
def State.bookCycle (s : State) : State :=
  if s.est.booked then s else ((s.modEst fun e => { e with booked := true }).bookTicks).logCharges

/-! ### The sweep of a Tally core (R265, R270, R276) -/

/-- Work of class P2 of engine `e` runs in this sweep: every sweep in Full, even sweeps in Thrift and while the allowance of a
Tally core is spent, none in Hold-up (R598, R600, R601); other engines hold it while theirs is spent. -/
def State.p2Runs (s : State) (e : Nat) : Bool :=
  let spent := (s.trs.engines.get e).spent
  if s.trs.state = 2 then false
  else if e = 3 ∨ e = 4 then (!spent && decide (s.trs.state ≠ 1)) || decide (s.time.sweep % 2 = 0)
  else !spent && (decide (s.trs.state ≠ 1) || decide (s.time.sweep % 2 = 0))

/-- Sweeps that a P2 computation of engine `e` covers (R601). -/
def State.p2Span (s : State) (e : Nat) : Nat := if s.trs.state = 1 ∨ (s.trs.engines.get e).spent then 2 else 1

/-- Glide `n` sweeps on, in which `dq` was booked (R276, R601). -/
def Brick.glideStep (b : Brick) (glide n : Nat) (dq : Int) : Brick :=
  let u := b.above - b.cut
  let h := b.cap - b.above
  let den := glide * 60000
  let total := n * b.g0 + b.gFrac
  let step := if den = 0 then b.g.natAbs else total / den
  let b := { b with gFrac := if den = 0 then 0 else total % den }
  let g := if b.g.natAbs ≤ step then 0 else b.g - sgn b.g * step
  let g := if dq < 0 ∧ 0 < g ∧ 0 < b.uPrev then divNear (g * max u 0) b.uPrev.toNat else g
  let g := if 0 < dq ∧ g < 0 ∧ 0 < b.hPrev then divNear (g * max h 0) b.hPrev.toNat else g
  { b with g := g, uPrev := u, hPrev := h }

/-- The P2 work of a brick over `n` sweeps: T, the filtered current, the cut point and the glide (R269, R270, R276, R601). -/
def State.brickP2 (s : State) (b n : Nat) (x : Brick) : Brick :=
  let t := s.tempOf b
  let dq := if n = 2 then x.dq + (match x.hist with | h :: _ => h.1 | [] => 0) else x.dq
  let tau : Nat := s.nat P.estCutFilter * 1000
  -- T = n ms on the mean current of the n sweeps
  let iF := x.iF + divNear (dq * 1000000000 - n * x.iF) tau
  let sCut := s.cutAt b ((iF : Rat) / 1000000000)
  let x := { x with
    iF := iF, lastT := t, cut := roundAway (sCut * (x.cap : Rat) / 100) }
  x.glideStep (s.nat P.estGlide) n dq

/-- One sweep of a brick, after booking: the P2 work when it runs, the second's record and the empty condition (R272, R283). -/
def State.brickSweep (s : State) (b : Nat) (missing : Bool) : State :=
  let e := 3 + b / 24 % 2
  let x := s.bricks.get b
  let x := if s.p2Runs e then s.brickP2 b (s.p2Span e) x else x
  let v : Option Nat := if missing || decide (x.voltage = 0xFFFF) then none else some x.voltage
  -- a hold of R286 ends where the count leaves its end
  let x := { x with driftHold := if (x.driftHold = 1 ∧ x.posOf x.above ≠ 0) ∨ (x.driftHold = 2 ∧ x.posOf x.above ≠ 10000) then 0 else x.driftHold }
  let x := { x with
    hist := ((x.dq, v, bitOf x.status 4) :: x.hist).take 1000, absSum := x.absSum + x.dq.natAbs
    status := putBit (putBit (putBit (x.status % 256) 6 missing) 7 false) 2 (bitOf x.flags 0) }
  let div := s.nat P.estRestDivisor
  let low := match v with | some u => decide (u ≤ s.nat P.estStopVoltage) | none => false
  let drawn := decide (x.meanCharge * ((div * 3600 : Nat) : Int) ≤ -((x.c * 100000 : Nat) : Int))
  s.modBrick b fun _ => { x with emptyRun := if low && drawn then x.emptyRun + 1 else 0 }

/-- The sweep of a Tally core over its bricks; ME.17 while no plane is in use (R269). -/
def State.tallySweep (s : State) (core : Nat) : State :=
  let s := s.bookCycle
  let s := s.condition (src 0 17) noItem 1 s.planes.isEmpty
  s.forAll (s.usedBricks.filter fun b => decide (b / 24 % 2 = core)) fun b s =>
    s.brickSweep b (!(s.mon (b / 24) (b % 24 / 12)).replied)

/-! ### Each second: rest timers (R282) -/

/-- The second that ends: the means of the rails, the rest timers, and the hold windows of the bricks (R282, R283). -/
def State.restSecond (s : State) : State :=
  s.forAll ((List.range 8).filter s.railUsed) fun r s =>
    let x := s.rails.get r
    let hold := x.restHold || decide (0 < x.wakeRest)
    let s := s.modRail r fun x => { x with
      curMean := divNear x.curSum 1000, absSum := 0, curSum := 0 }
    let s := s.forAll (s.bricksOf r) fun b s => s.modBrick b fun y => { y with
      restSpoiled := y.restSpoiled || (hold && !(y.below (s.nat P.estRestDivisor) ((y.absSum : Rat) / 1000))), absSum := 0 }
    if s.restBelow r ((x.absSum : Rat) / 1000) then s.modRail r fun x => { x with restTimer := satU 16 (x.restTimer + 1) }
    else if x.restTimer = 0 && !x.restHold && !x.restTaken then s
    else
      let s := s.modRail r fun x => { x with restTimer := 0, restTaken := false, restHold := decide (0 < x.wakeRest) && x.restHold }
      s.when hold fun s => s.decideRail r

/-- The rest points of a wake, from the first 1,000 sweeps after the settle count; balancing of the rail waits for at most
10 s, the rest points for as long as the settle count takes (R291). -/
def State.wakeRests (s : State) : State :=
  s.forAll ((List.range 8).filter fun r => decide (0 < (s.rails.get r).wakeRest)) fun r s =>
    let s := s.modRail r fun x => { x with wakeWait := x.wakeWait - 1, wakeRest := if s.modes.settled then x.wakeRest - 1 else x.wakeRest }
    let x := s.rails.get r
    let s := if x.wakeRest = 0 then (s.restPoints r).modRail r fun x => { x with restTaken := true } else s
    if x.restHold && (decide (x.wakeRest = 0) || decide (x.wakeWait = 0)) then
      (s.modRail r fun x => { x with restHold := false }).decideRail r
    else s

/-- One sweep of the second counter. -/
def State.secondStep (s : State) : State :=
  let n := s.est.msInSecond + 1
  let s := s.modEst fun e => { e with msInSecond := n % 1000 }
  -- rest timers and rest points are P2 work (R596, R600)
  if s.trs.state = 2 then s else (s.when (decide (1000 ≤ n)) State.restSecond).wakeRests

/-! ### Rail and string figures (R278, R279) -/

/-- The least value of a list of numbered values, with its number; ties go to the first. -/
def least (l : List (Nat × Rat)) : Option (Nat × Rat) :=
  l.foldl (fun m x => match m with | some y => if x.2 < y.2 then some x else some y | none => some x) none

/-- position = round(a × 10000 ÷ (a + h)), 0xFFFF where a + h is 0. -/
def ratioPos (a h : Rat) : Nat := if a + h = 0 then 0xFFFF else (roundAway (a * 10000 / (a + h))).toNat

/-- The figures of a rail from the published rows (R278). -/
def State.railFigures (s : State) (r : Nat) : State :=
  let l := (s.bricksOf r).map fun b => (b, s.rows.get b)
  let a := least (l.map fun x => (x.1, ((x.2.above + x.2.g - x.2.cut : Int) : Rat)))
  let h := least (l.map fun x => (x.1, ((x.2.cap - x.2.above - x.2.g : Int) : Rat)))
  let a' : Rat := match a with | some x => max 0 x.2 | none => 0
  let h' : Rat := match h with | some x => max 0 x.2 | none => 0
  s.modRail r fun x => { x with
    avail := roundAway a', headroom := roundAway h', position := ratioPos a' h'
    weakest := (match a with | some x => x.1 | none => 0xFFFF), fullest := (match h with | some x => x.1 | none => 0xFFFF) }

/-- The rails in use with a share, with their figure over that share. -/
def State.shared (s : State) (f : Rail → Int) : List (Nat × Rat) :=
  ((List.range 8).filter fun r => s.railUsed r && decide (0 < s.steer.shares.getD r 0)).map fun r =>
    (r, (f (s.rails.get r) : Rat) / s.steer.shares.getD r 0)

/-- The figures of every rail and of the string (R278, R279). -/
def State.figures (s : State) : State :=
  let s := s.forAll (List.range 8) fun r s => s.railFigures r
  let a := least (s.shared Rail.avail)
  let h := least (s.shared Rail.headroom)
  let a' : Rat := match a with | some x => x.2 | none => 0
  let h' : Rat := match h with | some x => x.2 | none => 0
  s.modEst fun e => { e with
    avail := roundAway a', headroom := roundAway h', position := if a.isNone then 0xFFFF else ratioPos a' h'
    limiting := (match a with | some x => x.1 | none => 0xFF), limitingHigh := (match h with | some x => x.1 | none => 0xFF) }

/-- `EST.WEAKEST_BRICK`. -/
def State.weakestBrick (s : State) : Nat := if s.est.limiting = 0xFF then 0xFFFF else (s.rails.get s.est.limiting).weakest

/-! ### Warnings (R280, R281) -/

/-- A level's setting, 1 to 5. -/
def State.warnLevel (s : State) (n : Nat) : Nat := if n ≤ 3 then s.nat (P.estEodLevel (n - 1)) else s.nat (P.estEocLevel (n - 4))

/-- One level of R280 against the string position, with its slip and notice (R281). -/
def State.warn (s : State) (n : Nat) : State :=
  let p := s.est.position
  let l := s.warnLevel n
  let h := s.nat P.estWarnHyst
  let inNow := bitOf s.est.warn (n - 1)
  let low := decide (n ≤ 3)
  let enters := !inNow && (if low then decide (p ≤ l) else decide (l ≤ p))
  let leaves := inNow && (if low then decide (l + h ≤ p) else decide (p + h ≤ l))
  if enters || leaves then
    let rail := if low then s.est.limiting else s.est.limitingHigh
    let brick := if low then s.weakestBrick else if rail = 0xFF then 0xFFFF else (s.rails.get rail).fullest
    let byte := n + (if leaves then 128 else 0)
    let s := s.modEst fun e => { e with warn := putBit e.warn (n - 1) enters }
    let s := s.slip 0x000A [(1, byte), (1, rail), (2, brick)]
    let choice := s.nat P.estWarnNotice / 4 ^ (n - 1) % 4
    if enters && decide (choice = 1) then s.notice true 1 byte 0xFF rail brick
    else if enters && decide (choice = 2) then s.notice false 1 byte 0xFF rail brick
    else s
  else s

/-- `WARNING_EVALUATION` (R280): every 100 ms; a position of 0xFFFF leaves every level as it stands. -/
def execWarningEvaluation (s : State) : Host.Outcome State Fault Refusal :=
  run (fun s => if s.est.position = 0xFFFF then s else s.forAll [1, 2, 3, 4, 5] fun n s => s.warn n) s

/-! ### Checkpoints and gaps (R288 to R291) -/

/-- A checkpoint of a Tally core's bricks (R288). -/
def State.checkpoint (s : State) (core : Nat) : Checkpoint :=
  { sweep := s.time.sweep, time := s.time.ns,
    bricks := (s.usedBricks.filter fun b => decide (b / 24 % 2 = core)).map fun b =>
      let x := s.bricks.get b
      (b, x.q, divNear x.g 10000 * 10000, (divNear x.g0 10000).toNat * 10000, (s.mon (b / 24) (b % 24 / 12)).shuttleCount.getD (b % 12) 0),
    rails := ((List.range 8).filter s.railUsed).map fun r => (r, (s.rails.get r).restTimer, (s.rails.get r).carry, (s.rails.get r).current) }

/-- The two checkpoint generations of a core, newest first. -/
def State.checks (s : State) (core : Nat) : List Checkpoint := if core = 0 then s.est.check0 else s.est.check1

/-- Each Tally core that counts writes a checkpoint into the generation that does not hold its newest valid one (R288). -/
def State.writeChecks (s : State) : State :=
  s.forAll [0, 1] fun core s =>
    if !s.counts core then s
    else
      let c := s.checkpoint core
      let keep := (s.checks core).filter (·.valid)
      s.modEst fun e => if core = 0 then { e with check0 := c :: keep.take 1 } else { e with check1 := c :: keep.take 1 }

/-- `CHECKPOINT_DUE` (R288). -/
def execCheckpointDue (s : State) : Host.Outcome State Fault Refusal := run State.writeChecks s

/-- The newest valid checkpoint of a core. -/
def State.newestCheck (s : State) (core : Nat) : Option Checkpoint := (s.checks core).find? (·.valid)

/-- Restore Q, g and g0 of a core's bricks from a checkpoint. -/
def State.restoreCheck (s : State) (c : Checkpoint) : State :=
  s.forAll c.bricks fun x s => s.modBrick x.1 fun b => { b with q := x.2.1, g := x.2.2.1, g0 := x.2.2.2.1, gFrac := 0 }

/-- Book the shuttle charge since a checkpoint from the cumulative counters (R289). -/
def State.bookCounters (s : State) (c : Checkpoint) : State :=
  s.forAll c.bricks fun x s =>
    let now := (s.mon (x.1 / 24) (x.1 % 24 / 12)).shuttleCount.getD (x.1 % 12) 0
    s.bookShuttle x.1 (10 * wrapI 32 (now - x.2.2.2.2))

/-- ME.11 and the marks of a gap booked by estimate or not at all (R290). -/
def State.gapMark (s : State) (r grade : Nat) (uncertain : Bool) : State :=
  let s := s.raise (src 0 11) (item 3 r) grade (single := true)
  s.when uncertain fun s => s.breakPath r true

/-- The estimate of R290 for a rail: gap (ms) times the mean of the currents at its two ends; marks where it is large. -/
def State.bookEstimate (s : State) (r gap : Nat) (i0 i1 : Int) (core : Option Nat) : State :=
  let s := s.bookGap r (divNear ((gap : Int) * (i0 + i1)) 2) core
  let big := gap * max i0.natAbs i1.natAbs
  let s := s.raise (src 0 11) (item 3 r) 1 (single := true)
  s.forAll ((s.bricksOf r).filter fun b => core.isNone || decide (core = some (b / 24 % 2))) fun b s => s.modBrick b fun x =>
    if s.nat P.estGapLimit * x.cap.toNat < big * 10000 then { x with flags := putBit (putBit x.flags 1 true) 3 true } else x

end Sys2Proof.Machine
end

