-- ==== Sys2Proof/Machine/Steering.lean ====
section
/-! DEFINITION. Rail steering and the rail engine (chapter 10): loops and their cascades, handover, trim links, fall-back, rail
shares, auxiliary loops, tuning tests and captures; and the count source of a rail, which steering depends on. -/

namespace Sys2Proof.Machine

open Sys2Proof

/-! ### Rails in use and their state (R328, R359) -/

/-- Items of loops and trim links. -/
def itemRail (r : Nat) : Nat := item 3 r

/-- The item of a loop. -/
def itemLoop (k : Nat) : Nat := item 4 k

/-- The item of a trim link. -/
def itemTrim (r : Nat) : Nat := item 10 r 3

/-- A read-back node that lies at most 3 V below COIL_SUP reads on (R417). -/
def pReadsOn (mv : Int) : Bool := decide (mv ≤ 3000)

/-- An H-switch reads closed at 0.5 V or less between its terminals, and open above 3 V (R417). -/
def hReadsClosed (mv : Int) : Bool := decide (mv.natAbs ≤ 500)
def hReadsOpen (mv : Int) : Bool := decide (3000 < mv.natAbs)

/-- A coil path reads back closed: own P-switch on and own H-switch closed, as compared under R433: the switch of an off-pulse counts
as it is commanded (R328). -/
def State.pathClosed (s : State) (p : Nat) : Bool :=
  let tested := fun (h : Bool) => match s.saf.pulse with | some t => decide (t.path = p) && t.hSwitch == h | none => false
  (if tested false then bitOf s.saf.coil p else bitOf s.saf.pRead p)
    && (if tested true then bitOf s.saf.hArmed p else bitOf s.saf.hRead p)

/-- Rail `r` is in use (R328). -/
def State.railInUse (s : State) (r : Nat) : Bool :=
  s.railUsed r && (if s.onString then s.pathClosed (2 * r) && s.pathClosed (2 * r + 1)
    else decide (s.modes.mode = .m3) || decide (s.modes.mode = .m4))

/-- The rails in use, rising. -/
def State.railsInUse (s : State) : List Nat := (List.range 8).filter s.railInUse

/-- Rail `r` has a steering loop (R48). -/
def State.hasLoop (s : State) (r : Nat) : Bool := decide (r < steerLoops s.ident.variant)

/-- `RAIL[r].RATED_CURRENT` in mA, 400,000 on a rail without a loop (R359). -/
def State.rated (s : State) (r : Nat) : Nat := if s.hasLoop r then s.nat (P.railRatedCurrent r) else 400000

/-- A test runs on loop `k`. -/
def State.testOn (s : State) (k : Nat) : Bool := decide (s.steer.tuneState = 1) && decide (s.steer.loop = k)

/-- A survey injects on rail `r` (R354). -/
def State.injects (s : State) (r : Nat) : Bool :=
  decide (s.survey.rail = r) && decide (2 ≤ s.survey.state) && decide (s.survey.state ≤ 4) && s.active

/-- Loop `k` of 0 to 7 runs (R328, R346, R357, R358): enabled, its rail in use in M5 or M6 and steered, or a test on it. -/
def State.loopRuns (s : State) (k : Nat) : Bool :=
  s.active && s.hasLoop k && !(s.arch.engines.get 5).inReset && decide (s.trs.state ≠ 2) && s.flag (P.loopEnable k)
    && !(s.loops.get k).fallback && s.railUsed k
    && ((s.onString && s.railInUse k && (decide (s.val (P.railSteerMode k) ≠ 0) || s.testOn k)) || (decide (s.modes.mode = .m3) && s.testOn k))

/-- `RAIL[r].STEER_STATE` (R359). -/
def State.steerState (s : State) (r : Nat) : Nat :=
  if !s.hasLoop r then 0
  else if (s.loops.get r).fallback then 6
  else if s.testOn r then 5
  else if s.injects r then 4
  else if s.loopRuns r && decide (f32Val (s.loops.get r).bump ≠ 0) then 3
  else if s.railInUse r && decide (s.val (P.railSteerMode r) = 0) then 0
  else if s.loopRuns r then 2
  else 1

/-- A rail is steered (R329); one whose steering mode is 0 is passive, even while a test runs on its loop (R334). -/
def State.steered (s : State) (r : Nat) : Bool :=
  s.hasLoop r && decide (2 ≤ s.steerState r) && decide (s.steerState r ≤ 5) && decide (s.val (P.railSteerMode r) ≠ 0)

/-- The string current in mA: the sum of the rail currents. -/
def State.stringCurrent (s : State) : Int := ((List.range 8).filter s.railUsed).foldl (fun a r => a + (s.rails.get r).current) 0

/-- The 1 s mean of the string current, mA. -/
def State.stringMean (s : State) : Int := ((List.range 8).filter s.railUsed).foldl (fun a r => a + (s.rails.get r).curMean) 0

/-! ### float32 operations of the rail engine (R344) -/

/-- sat = 1.0 x 10^6, with a sign. -/
def satPat (neg : Bool) : U32 := if neg then 0xC9742400#32 else 0x49742400#32

/-- A value with the flag bits that its computation has set (R347). -/
abbrev Flagged := U32 × Nat

/-- One rounded result (R344): what would be infinite is ±sat and sets NON_FINITE. -/
def engineOp (fl : Nat) (q : Rat) (neg : Bool) : Flagged :=
  let a : Rat := if q < 0 then -q else q
  if q ≠ 0 ∧ (2 : Rat) ^ 128 ≤ roundBits 24 a then (satPat (decide (q < 0)), fl ||| 2) else (f32OfRat q neg, fl)

/-- a + b. -/
def addOp (fl : Nat) (a b : U32) : Flagged :=
  engineOp fl (f32Val a + f32Val b) (f32Neg a && f32Neg b && decide (f32Val a = 0) && decide (f32Val b = 0))

/-- a − b. -/
def subOp (fl : Nat) (a b : U32) : Flagged := addOp fl a (f32Minus b)

/-- a × b. -/
def mulOp (fl : Nat) (a b : U32) : Flagged := engineOp fl (f32Val a * f32Val b) (f32Neg a != f32Neg b)

/-- Limit to ±sat, with SECTION_SAT (R343). -/
def satOp (fl : Nat) (a : U32) : Flagged :=
  if 1000000 < f32Val a then (satPat false, fl ||| 1) else if f32Val a < -1000000 then (satPat true, fl ||| 1) else (a, fl)

/-- A value into [lo, hi] by its float32 value; whether the limit acted. -/
def clamp32 (lo hi x : U32) : U32 × Bool :=
  if f32Val x < f32Val lo then (lo, true) else if f32Val hi < f32Val x then (hi, true) else (x, false)

/-- Coefficient `c` of loop `k` (R177). -/
def State.coef (s : State) (k c : Nat) : U32 :=
  BitVec.ofNat 32 (patI 64 (s.val (P.loopCoef k (c / 2))) / 2 ^ (32 * (c % 2)))

/-- One section (R343): its output, its next states and the flags. -/
def sectionStep (b0 b1 b2 a1 a2 : U32) (st : Section) (x : U32) (fl : Nat) : U32 × Section × Nat :=
  let (y, fl) := mulOp fl b0 x
  let (y, fl) := addOp fl y st.s1
  let (y, fl) := satOp fl y
  let (t1, fl) := mulOp fl b1 x
  let (t2, fl) := mulOp fl a1 y
  let (t1, fl) := subOp fl t1 t2
  let (s1, fl) := addOp fl t1 st.s2
  let (s1, fl) := satOp fl s1
  let (t3, fl) := mulOp fl b2 x
  let (t4, fl) := mulOp fl a2 y
  let (s2, fl) := subOp fl t3 t4
  let (s2, fl) := satOp fl s2
  (y, { s1 := s1, s2 := s2 }, fl)

/-- The cascade of loop `k` (R343): its output, the next states of every section, and the flags. -/
def State.cascade (s : State) (k : Nat) (x : U32) (fl : Nat) : U32 × List Section × Nat :=
  let n := s.nat (P.loopSections k)
  let l := s.loops.get k
  if n = 0 then (0, l.sections, fl)
  else (List.range n).foldl (fun acc i =>
    let c := fun (j : Nat) => s.coef k (5 * i + j)
    let r := sectionStep (c 0) (c 1) (c 2) (c 3) (c 4) (l.sections.getD i {}) acc.1 acc.2.2
    (r.1, updAt acc.2.1 i (fun _ => r.2.1), r.2.2)) (x, l.sections, fl)

/-- The sign of a value. -/
def sgn32 (x : U32) : Int := if 0 < f32Val x then 1 else if f32Val x < 0 then -1 else 0

/-- Limit and slew of R345: c, the flags, and whether the states of this run are kept. -/
def State.limitSlew (s : State) (k : Nat) (u x : U32) (fl : Nat) : U32 × Nat × Bool :=
  let lim := s.f32 (P.loopOutLimit k)
  let lo : U32 := if k < 8 then f32Minus lim else 0
  let (c, cut) := clamp32 lo lim u
  let fl := if cut then fl ||| 4 else fl
  let slew := s.f32 (P.loopOutSlew k)
  let prev := (s.loops.get k).cPrev
  let (c, fl) := if 0 < f32Val slew then
      let (d, fl) := mulOp fl slew (if k < 8 then 0x3D4CCCCD#32 else 0x41200000#32)
      let (a, fl) := subOp fl prev d
      let (b, fl) := addOp fl prev d
      let (c', acted) := clamp32 a b c
      (c', if acted then fl ||| 8 else fl)
    else (c, fl)
  let d : Rat := f32Val u - f32Val c
  let same := (decide (0 < f32Val x) && decide (0 < d)) || (decide (f32Val x < 0) && decide (d < 0))
  (c, fl, !same)

/-- Set sticky flags of loop `k` with its slip (R347), its saturation count, and PR.20 for a NON_FINITE that is new (R348). -/
def State.setFlags (s : State) (k fl : Nat) : State :=
  let old := (s.loops.get k).flags
  let new := old ||| fl
  let s := s.modLoop k fun l => { l with flags := new, satCount := if fl % 16 = 0 then l.satCount else satU 32 (l.satCount + 1) }
  let s := s.when (decide (new ≠ old)) fun s => s.slip 0x0012 [(1, k), (1, new)]
  s.when (bitOf fl 1 && !bitOf old 1) fun s => s.raise (src 5 20) (itemLoop k) 1 (single := true)

/-! ### Tests (R350 to R353) -/

/-- The length of a loop run in seconds. -/
def runTime (k : Nat) : Rat := if k < 8 then 1 / 20000 else 1 / 100

/-- The capture duration D of loop `k` in seconds (R351). -/
def State.captureTime (s : State) (k : Nat) : Rat := 65536 * (s.steer.decimation : Rat) * runTime k

/-- The test signal at the present run of loop `k`, +0 with no test on it (R351). -/
def State.testSignal (s : State) (k : Nat) : U32 :=
  if !s.testOn k then 0
  else
    let t := s.steer
    let tau : Rat := (t.runs : Rat) * runTime k
    let a := f32Val t.amplitude
    let f := f32Val t.freq
    if t.kind = 0 then (if tau < f then 0 else t.amplitude)
    else if t.kind = 1 then f32OfRat (r64 (a * Config.sin64 (f * tau)))
    else
      let f0 := f32Val (s.f32 P.tuneChirpStart)
      let d := s.captureTime k
      f32OfRat (r64 (a * Config.sin64 (r64 (f0 * d / Config.ln64 (f / f0) * (Config.pow64 (f / f0) (tau / d) - 1)))))

/-- The test signal where it enters at summing point `p`. -/
def State.testAt (s : State) (k p : Nat) : U32 := if s.steer.point = p then s.testSignal k else 0

/-- One run of a loop in test: the sample of the capture and the run count (R352). -/
def State.testRun (s : State) (k : Nat) (feedback x c : U32) : State :=
  if !s.testOn k then s
  else
    let sig := s.testSignal k
    s.modSteer fun t =>
      let takes := decide (t.runs % t.decimation = 0) && decide (t.sampleCount < 65536)
      { t with
        runs := t.runs + 1
        samples := if takes then (sig, feedback, x, c) :: t.samples else t.samples
        sampleCount := if takes then t.sampleCount + 1 else t.sampleCount }

/-! ### Loops 0 to 7 (R342, R349, R354) -/

/-- A rail current in A as the loops take it. -/
def amps (i : Int) : U32 := f32Mul (f32OfRat (i : Rat)) 0x3A83126F#32

/-- The sum of the rail currents of the rails in use, in rising number (R342). -/
def State.sumAmps (s : State) (fl : Nat) : Flagged :=
  s.railsInUse.foldl (fun a r => addOp a.2 a.1 (amps (s.rails.get r).tick)) (0, fl)

/-- The bump one run on (R349): toward 0 by |b0| ÷ n, and 0 where it would change sign. -/
def bumpNext (b0 bump : U32) (n : Nat) : U32 :=
  let d := f32Div (b0 &&& 0x7FFFFFFF#32) (f32OfRat (n : Rat))
  if f32Val bump = 0 then 0
  else if 0 < f32Val bump then (let x := f32Sub bump d; if f32Val x < 0 then 0 else x)
  else (let x := f32Add bump d; if 0 < f32Val x then 0 else x)

/-- The first run of a loop: states cleared, c_prev = b0. In the cases of R349 it is a handover, with b0 from the stage's insertion; a
loop that was disabled or passive starts from 0 (R345, log 199). -/
def State.handover (s : State) (k : Nat) : State :=
  let t := s.trims.get k
  let b0 : U32 := if !(s.loops.get k).handover ∨ t.state = 0 ∨ t.state = 5 then 0 else f32Mul (f32OfRat (t.insertion : Rat)) 0x3B03126F#32
  s.modLoop k fun l => { l with
    sections := List.replicate 8 {}, b0 := b0, bump := b0, cPrev := b0, handover := false, ran := true }

/-- s[t] of R308: the sum of the cosines of the used harmonics, each with its Schroeder phase, as fractions of a turn. -/
def multisine (h : List Nat) (t : Nat) : Rat :=
  let n : Rat := h.length
  (h.zip (List.range h.length)).foldl (fun a x =>
    let i : Rat := x.2
    r64 (a + Config.sin64 ((x.1 : Rat) / 10 * (t : Rat) * 50 / 1000000 - i * (i + 1) / (2 * n) + 1 / 4))) 0

/-- The largest |s[t]| over the 200,000 ticks of the period (R308). -/
def multisinePeak (h : List Nat) : Rat :=
  (List.range 200000).foldl (fun m t => let x := multisine h t; max m (if x < 0 then -x else x)) 0

/-- table[t] of R308. -/
def surveyTable (amplitude : Rat) (h : List Nat) (t : Nat) : U32 := f32OfRat (r64 (r64 (amplitude * multisine h t) / multisinePeak h))

/-- The injection of a survey at the present tick (R309): w × table. -/
def State.surveyOut (s : State) : U32 :=
  let h := (List.range (s.nat P.survFreqCount)).map fun i => s.nat (P.survHarmonic i)
  f32Mul (f32OfRat s.survey.weight) (surveyTable (s.real P.survAmplitude) h (s.survey.ticks % 200000))

/-- One tick of loop `k` (R342): the commanded insertion follows from its output. -/
def State.loopTick (s : State) (k : Nat) : State :=
  let start := !(s.loops.get k).ran || (s.loops.get k).handover
  let s := if start then s.handover k
    else s.modLoop k fun l => { l with bump := bumpNext l.b0 l.bump (s.nat P.steerHandoverTime * 20) }
  let l := s.loops.get k
  let own := amps (s.rails.get k).tick
  let (sum, fl) := s.sumAmps 0
  let (ref, fl) := mulOp fl (f32OfRat (s.steer.shares.getD k 0)) sum
  let (ref, fl) := addOp fl ref (s.testAt k 2)
  let (e, fl) := subOp fl own ref
  if s.injects k then
    let (u, fl) := addOp fl l.y s.surveyOut
    let (c, fl, _) := s.limitSlew k u 0 fl
    let s := s.when (bitOf fl 2) fun s => s.modSurvey fun v => if 1 ≤ v.period then { v with clips := putBit v.clips v.period true } else v
    (s.modLoop k fun l => { l with error := e, output := c, cPrev := c, bump := 0, ticks := wrapU 32 (l.ticks + 1) }).setFlags k fl
  else
    let (x, fl) := addOp fl e (s.testAt k 0)
    let (y, st, fl) := s.cascade k x fl
    let (u, fl) := addOp fl y (s.testAt k 1)
    let (u, fl) := addOp fl u l.bump
    let (c, fl, keep) := s.limitSlew k u x fl
    let s := s.modLoop k fun l => { l with
      outSum := l.outSum + f32Val c, outN := l.outN + 1
      error := e, output := c, cPrev := c, y := y, feedback := own, sections := if keep then st else l.sections
      limitRun := if bitOf fl 2 then min (l.limitRun + 1) 200000 else 0, ticks := wrapU 32 (l.ticks + 1) }
    let s := s.when (!bitOf fl 2) fun s => s.endFault (src 4 23) (itemLoop k)
    (s.setFlags k fl).testRun k own x c

/-- The second that ends: the means of the loop outputs (R304). -/
def State.loopSecond (s : State) : State :=
  { s with loops := s.loops.mapVals fun l => { l with outMean := if l.outN = 0 then 0 else l.outSum / (l.outN : Rat), outSum := 0, outN := 0 } }

/-- A loop that does not run: output 0; when disabled or in fall-back no states (R346, R357). Its rail comes into use with a
handover (R349). -/
def State.loopRest (s : State) (k : Nat) : State :=
  let out := !s.onString || !s.railInUse k
  let clears := !s.flag (P.loopEnable k) || (s.loops.get k).fallback
  s.modLoop k fun l => { l with
    handover := l.handover || out, sections := if clears then List.replicate 8 {} else l.sections, ran := false, output := 0, cPrev := 0, bump := 0, y := 0, limitRun := 0 }

/-- INSERTION of a loop's output, 2 mV: the product rounds to float32 before it rounds to an integer (R342, R344). -/
def insertionOf (c : U32) : Int := clampI (-30000) 30000 (roundAway (f32Val (f32Mul c 0x43FA0000#32)))

/-- The command frame on trim link `r` (R336): run with the loop's insertion, or bypass. -/
def State.sendTrim (s : State) (r : Nat) : State :=
  let runs := s.loopRuns r
  let x := if runs then insertionOf (s.loops.get r).output else 0
  let q := ((s.trims.get r).seq + 1) % 256
  let m := b2n runs
  (s.modTrim r fun t => { t with seq := q, mode := m, insertionCmd := x, sent := ((q, m, x) :: t.sent).take 8 }).emit (.trim r q m x)

/-- A trim link is supervised: present, and its rail holds links (R341). -/
def State.trimUsed (s : State) (r : Nat) : Bool := s.hasLoop r && s.railUsed r

/-- The rail currents of a tick from the decimators and the Hall inputs (R264, R266, R267): densities in 1/10^6 of full
modulator density, Hall voltages in 0.1 mV; the tick covers `len` × 10 ns. -/
def State.readRails (s : State) (x : TickInputs) (len : Nat) : State :=
  s.forAll ((List.range 8).filter s.railUsed) fun r s =>
    let sh := roundAway ((x.shunt.getD r 0 : Rat) * s.real (P.railShuntScale r) / 1000)
    let ha := roundAway (((x.hall.getD r 0 : Rat) / 10 - (s.val (P.railHallOffset r) : Rat)) * s.real (P.railHallScale r))
    let m := s.rails.get r
    let i := if m.countSource = 0 then sh else if m.countSource = 1 then ha else 0
    let s := s.modRail r fun m => { m with tick := i, tickSum := m.tickSum + i * len, hall := ha }
    let tol := s.val P.estHallTol * 1000
    if m.hallMismatch && decide (50 * (((sh - ha).natAbs : Int) - tol) ≤ (sh.natAbs : Int)) then
      (s.modRail r fun m => { m with hallMismatch := false }).endFault (src 0 13) (itemRail r)
    else s

/-- The ticks of a survey: the ramp of the weight (R309, R316). -/
def State.surveyTick (s : State) : State :=
  if 2 ≤ s.survey.state ∧ s.survey.state ≤ 4 then
    s.modSurvey fun v => { v with
      ticks := v.ticks + 1
      weight := if 0 < v.ramp then max 0 (v.weight - v.ramp) else min 1 (v.weight + 1 / 20000) }
  else s

/-- The time of a timed event that falls on multiples of `p` ns: the present instant if its event is still to come, else the
next multiple. -/
def nextInstant (now last p : Nat) : Nat := if now % p = 0 ∧ last ≠ now then now else (now / p + 1) * p

/-- The next loop tick: on the grid of 50 us; in a cycle lengthened by a step, counted from its epoch, the last interval
reaching to the cycle's end (R516). -/
def TimeBase.nextTick (t : TimeBase) : Nat := match t.gridEnd with
  | some e => if e < t.lastTick + 100000 then e else t.lastTick + 50000
  | none => nextInstant t.ns t.lastTick 50000

/-- The length of the interval that a tick closes, in 10 ns: 5,000, or what a step made of it (R516). -/
def TimeBase.tickLen (t : TimeBase) (tick : Nat) : Nat :=
  let n := tick - t.lastTick
  if 50000 ≤ n ∧ n < 100000 then n / 10 else 5000

/-- `LOOP_TICK` (R339): the readings, the loops and the trim commands of one tick. -/
def execLoopTick (x : TickInputs) (s : State) : Host.Outcome State Fault Refusal :=
  run (fun s =>
    if !s.power.mainUp || s.power.mainHeld then s
    else
      let t := s.time.nextTick
      let len := s.time.tickLen t
      let s := s.modTime fun y => { y with ns := max y.ns t, lastTick := t }
      -- the tick at a sweep epoch closes the 20 ticks of the cycle before it
      let s := (s.when (decide (s.time.lastEpoch < t)) State.bookCycle).readRails x len
      let s := s.when (decide (t = s.time.lastEpoch)) State.bookCycle
      let s := s.forAll ((List.range 8).filter s.trimUsed) fun r s => s.modTrim r fun y =>
        if y.fresh then { y with fresh := false, silent := 0 } else { y with missed := satU 32 (y.missed + 1), silent := y.silent + 1 }
      if (s.arch.engines.get 5).inReset then s
      else
        let s := s.forAll (List.range 8) fun k s => if s.loopRuns k then s.loopTick k else s.loopRest k
        let s := s.forAll ((List.range 8).filter s.trimUsed) fun r s => if s.active && decide (3 ≤ s.modes.mode.num) then s.sendTrim r else s
        s.surveyTick) s

/-! ### Fall-back (R357) -/

/-- Rail `r` enters fall-back for a source; its test ends (R353). -/
def State.enterFallback (s : State) (r source : Nat) : State :=
  if !s.hasLoop r then s
  else
    let l := s.loops.get r
    if l.fallback then
      s.modLoop r fun l => { l with fallbackSources := if l.fallbackSources.contains source then l.fallbackSources else l.fallbackSources ++ [source] }
    else
      let s := s.modLoop r fun l => { l with
        fallback := true, fallbackSources := [source], sections := List.replicate 8 {}, output := 0, cPrev := 0, y := 0, bump := 0
        ran := false, handover := true, limitRun := 0 }
      let s := s.modTrim r fun t => { t with fallbackCount := satU 16 (t.fallbackCount + 1), fallbackCause := source }
      s.when (s.testOn r) fun s => s.endTest 5

/-- `FALLBACK_EXIT_TIMER` (R357): every source has cleared and TRIM_STATE has read 2 or 5 for 10 s. -/
def execFallbackExitTimer (r : Nat) (s : State) : Host.Outcome State Fault Refusal :=
  run (fun s =>
    let l := s.loops.get r
    let st := (s.trims.get r).state
    let clear := l.fallbackSources.all fun c => !s.flt.present.any fun i =>
      decide (i.source = c) && (decide (i.item = itemRail r) || decide (i.item = itemTrim r))
    if l.fallback && clear && (decide (st = 2) || decide (st = 5)) then
      s.modLoop r fun l => { l with fallback := false, fallbackSources := [], handover := true, ran := false }
    else s) s

/-- `COUNT_SOURCE_LOSS` (R266): the shunt channel of rail `r` fails; `hall` tells whether its Hall channel is valid. -/
def execCountSourceLoss (r : Nat) (hall : Bool) (s : State) : Host.Outcome State Fault Refusal :=
  run (fun s => if !s.railUsed r then s.modRail r fun x => { x with shuntValid := false, hallValid := hall }
    else
      let s := s.countFrom r false hall
      s.when (!hall) fun s => s.enterFallback r (src 0 14)) s

/-- `COUNT_SOURCE_RESTORE` (R266): the shunt has shown transitions for 60 s. -/
def execCountSourceRestore (r : Nat) (s : State) : Host.Outcome State Fault Refusal :=
  -- a channel that failed under R81 waits for a later M1
  run (fun s => if bitOf s.arch.modFailed r then s else s.countFrom r true (s.rails.get r).hallValid) s

/-! ### Trim status (R337, R338, R341, R358) -/

/-- The frame follows its command closely enough (PW.21). -/
def State.insertionFits (s : State) (r seq : Nat) (insertion : Int) : Option Bool :=
  match (s.trims.get r).sent.find? fun x => decide (x.1 = seq) with
  | some (_, m, x) => if m = 1 then some (decide ((2 * (insertion - x)).natAbs ≤ s.nat (P.railTrimMismatchLimit r))) else none
  | none => none

/-- The faults a status frame stands for (R338, R358), and fall-back. -/
def State.trimFaults (s : State) (r faults : Nat) : State :=
  let any := decide (faults % 2048 / 2 ≠ 0)
  let s := s.condition (src 2 20) (itemRail r) (if bitOf faults 1 then 2 else 1) (bitOf faults 0 || bitOf faults 1)
  let s := s.condition (src 4 20) (itemRail r) (if bitOf faults 8 then 3 else 2) (decide (faults % 2048 / 4 ≠ 0))
  if any then
    let s := if decide (faults % 2048 / 4 ≠ 0) then s.enterFallback r (src 4 20) else s
    s.when (bitOf faults 1) fun s => s.enterFallback r (src 2 20)
  else s

/-- More than 20 status frames of a trim link have failed R335 within 1 s (LK.21, R358). -/
def State.trimFails (s : State) (r : Nat) : Bool := match (s.trims.get r).failTimes[20]? with
  | some t => decide (s.time.ns < t + 1000000000)
  | none => false

/-- `TRIM_STATUS_FRAME` (R341). -/
def execTrimStatusFrame (r : Nat) (x : TrimFrame) (s : State) : Host.Outcome State Fault Refusal :=
  run (fun s =>
    if !s.trimUsed r then s
    else if !x.accepts then
      let s := s.modTrim r fun t => { t with
        crcErrors := satU 32 (t.crcErrors + 1), failTimes := (s.time.ns :: t.failTimes).take 21 }
      s.when (s.trimFails r) fun s => s.raise (src 1 21) (itemTrim r) 1
    else
      let old := (s.trims.get r).faults
      let rose := (List.range 12).filter fun i => bitOf x.faults i && !bitOf old i
      let s := s.modTrim r fun t => { t with
        fresh := true, silent := 0, state := x.state, port := if bitOf x.port 1 then 0xFF else x.port % 2
        insertion := x.insertion, current := x.current, temperature := x.temperature, faults := x.faults
        maxTemp := some (match t.maxTemp with | some m => max m x.temperature | none => x.temperature)
        holdCount := if bitOf x.faults 11 then satU 16 (t.holdCount + 1) else t.holdCount
        faultCount := rose.foldl (fun l i => updAt l i fun n => satU 16 (n + 1)) t.faultCount
        lastFaultTime := if rose.any (fun i => decide (1 ≤ i) && decide (i ≤ 10)) then s.sec32 else t.lastFaultTime
        lastFaults := if rose.any (fun i => decide (1 ≤ i) && decide (i ≤ 10)) then x.faults else t.lastFaults }
      let s := s.endFault (src 1 20) (itemTrim r)
      let s := s.trimFaults r x.faults
      let s := s.when (decide (x.state = 3)) fun s => s.setFlags r 32
      let s := if s.insertionFits r x.seq x.insertion == some true then s.endFault (src 4 21) (itemRail r) else s
      let near := decide (20 * x.current - (s.rails.get r).current ≤ 1000 * s.val (P.railTrimCurrentTol r))
        && decide ((s.rails.get r).current - 20 * x.current ≤ 1000 * s.val (P.railTrimCurrentTol r))
      s.when near fun s => s.endFault (src 0 22) (itemRail r)) s

/-- `TRIM_STATUS_TIMEOUT` (R341): no valid status frame for 1 ms. -/
def execTrimStatusTimeout (r : Nat) (s : State) : Host.Outcome State Fault Refusal :=
  run (fun s => if s.trimUsed r && decide (20 ≤ (s.trims.get r).silent) then
    (((s.modTrim r fun t => { t with state := 0 }).raise (src 1 20) (itemTrim r) 2)).enterFallback r (src 1 20) else s) s

/-- `TRIM_MISMATCH_TIMEOUT` (R358): PW.21, while TRIM_STATE is 2 and the stage runs. -/
def execTrimMismatchTimeout (r : Nat) (s : State) : Host.Outcome State Fault Refusal :=
  run (fun s => if s.trimUsed r && decide ((s.trims.get r).state = 2) && decide ((s.trims.get r).mode = 1) then
    (s.raise (src 4 21) (itemRail r) 2).enterFallback r (src 4 21) else s) s

/-- `OUTPUT_LIMIT_TIMEOUT` (R358): loop `k` has stood at its output limit for 10 s. -/
def execOutputLimitTimeout (k : Nat) (s : State) : Host.Outcome State Fault Refusal :=
  run (fun s => if s.loopRuns k && decide (200000 ≤ (s.loops.get k).limitRun) then s.raise (src 4 23) (itemLoop k) 1 else s) s

/-- `TRIM_CURRENT_MISMATCH_TIMEOUT` (R358): ME.22. -/
def execTrimCurrentMismatchTimeout (r : Nat) (s : State) : Host.Outcome State Fault Refusal :=
  run (fun s =>
    let d := 20 * (s.trims.get r).current - (s.rails.get r).current
    if s.trimUsed r && decide ((s.trims.get r).state ≠ 0) && decide (1000 * s.val (P.railTrimCurrentTol r) < d.natAbs) then
      s.raise (src 0 22) (itemRail r) 1 else s) s

/-! ### Rail shares (R329 to R333) -/

/-- Sum of a list of rationals. -/
def sumQ (l : List Rat) : Rat := l.foldl (· + ·) 0

/-- The measured share of every rail (R331). -/
def State.measuredShares (s : State) : List Rat :=
  let use := s.railsInUse
  let sum := use.foldl (fun a r => a + (s.rails.get r).curMean) 0
  let band := s.val P.steerDirBand * 1000
  (List.range 8).map fun r =>
    if !use.contains r then 0
    else if !bitOf s.steer.inUse r then 1 / (use.length : Rat)
    else if (sum.natAbs : Int) ≤ band then s.steer.measured.getD r 0
    else max 0 (min 1 (((s.rails.get r).curMean : Rat) / (sum : Rat)))

/-- The target shares (R330). -/
def State.targetShares (s : State) (measured : List Rat) (charging : Bool) : List Rat :=
  let use := s.railsInUse
  let st := use.filter s.steered
  let passive := use.filter fun r => !st.contains r
  let rest := max 0 (1 - sumQ (passive.map fun r => measured.getD r 0))
  let manual := st.filter fun r => decide (s.val (P.railSteerMode r) = 2)
  let auto := st.filter fun r => decide (s.val (P.railSteerMode r) = 1)
  let man := fun (r : Nat) => ((s.val (P.railManualShare r) : Int) : Rat) / 10000
  let m := sumQ (manual.map man)
  let w := fun (r : Nat) => if charging then ((s.rails.get r).headroom : Rat) else ((s.rails.get r).avail : Rat)
  let sw := sumQ (auto.map w)
  (List.range 8).map fun r =>
    if passive.contains r then measured.getD r 0
    else if manual.contains r then
      (if auto.isEmpty ∨ rest < m then (if m = 0 then rest / (manual.length : Rat) else man r * rest / m) else man r)
    else if auto.contains r then
      (if rest < m then 0 else (rest - m) * (if sw = 0 then 1 / (auto.length : Rat) else w r / sw))
    else 0

/-- One round of R333: rails above their caps are set to them, and the excess is spread. -/
def capRound (rated : Nat → Rat) (iref : Rat) (st : List Nat) (l : List Rat) : List Rat :=
  let cap := fun (r : Nat) => rated r / iref
  let high := st.filter fun r => decide (cap r < l.getD r 0)
  let below := st.filter fun r => decide (l.getD r 0 < cap r)
  let excess := sumQ (high.map fun r => l.getD r 0 - cap r)
  if excess = 0 then l
  else
    let sum := sumQ (below.map fun r => l.getD r 0)
    let sumR := sumQ (below.map rated)
    (l.zip (List.range 8)).map fun x =>
      if high.contains x.2 then (if below.isEmpty then x.1 else cap x.2)
      else if below.contains x.2 then x.1 + (if sum = 0 then excess * rated x.2 / sumR else excess * x.1 / sum)
      else x.1

/-- The caps of R333: the shares, and whether excess remained. -/
def capShares (rated : Nat → Rat) (iref : Rat) (st : List Nat) (l : List Rat) : List Rat × Bool :=
  let l := (List.range 8).foldl (fun l _ => capRound rated iref st l) l
  let cap := fun (r : Nat) => rated r / iref
  let excess := sumQ (st.map fun r => max 0 (l.getD r 0 - cap r))
  if excess = 0 ∨ st.any (fun r => decide (l.getD r 0 < cap r)) then (l, false)
  else
    let sumR := sumQ (st.map rated)
    ((l.zip (List.range 8)).map fun x => if st.contains x.2 then cap x.2 + excess * rated x.2 / sumR else x.1, true)

/-- The shares of the next cycle from the set-point of this sweep's profile step (R329 to R333). -/
def State.shareStep (s : State) : State :=
  let i := s.prof.i
  let band : Rat := ((s.val P.steerDirBand : Int) : Rat)
  let charging := if band < i then true else if i < -band then false else s.steer.charging
  let use := s.railsInUse
  let st := use.filter s.steered
  let measured := s.measuredShares
  let target := s.targetShares measured charging
  let sigma : Rat := ((s.val P.steerShareSlew : Int) : Rat) / 10000000
  let old := s.steer.nextShares
  let dist := use.foldl (fun d r => let x := target.getD r 0 - old.getD r 0; max d (if x < 0 then -x else x)) 0
  let skip := decide (ofIdx use ≠ s.steer.inUse) || decide (ofIdx st ≠ s.steer.steered)
  let alpha : Rat := if skip ∨ dist ≤ sigma then 1 else sigma / dist
  let blended := (List.range 8).map fun r => if use.contains r then old.getD r 0 + alpha * (target.getD r 0 - old.getD r 0) else 0
  let mean : Rat := (s.stringMean : Rat) / 1000
  let mag := fun (q : Rat) => if q < 0 then -q else q
  let iref := max (max (mag i) (mag mean)) 1
  let capped := (capShares (fun r => (s.rated r : Rat) / 1000) iref st blended).1
  s.modSteer fun t => { t with
    charging := charging, measured := measured, targets := target, nextShares := capped.map r32
    inUse := ofIdx use, steered := ofIdx st }

/-! ### Auxiliary loops (R355, R356) -/

/-- The hottest of a list of temperatures as °C. -/
def hottest (l : List (Option Int)) : Option Rat :=
  (l.filterMap id).foldl (fun (m : Option Rat) t => some (match m with | some a => max a ((t : Rat) / 100) | none => (t : Rat) / 100)) none

/-- Process value `i` of the auxiliary bus map, while its station is present and it is at most 1 s old (R356). -/
def State.processValue (s : State) (i : Nat) : Option U32 :=
  let p := s.bus.pdo.get i
  let st := s.nat (P.pdoCob i) / 2 ^ 16 % 16
  if p.valid && (s.bus.aux.get st).present && decide (s.time.ns ≤ p.time + 1000000000) then some (BitVec.ofNat 32 p.value) else none

/-- Program feedback variable `j`, while the program is in run. -/
def State.programValue (s : State) (j : Nat) : Option U32 :=
  if s.prg.state = 1 then (s.prg.feedback.getD j none).map (BitVec.ofNat 32) else none

/-- The feedback of an auxiliary loop by its code (R356), none while it is invalid. -/
def State.auxFeedback (s : State) (code : Nat) : Option U32 :=
  let temps := fun (l : List Nat) => l.map fun b => (s.rows.get b).temperature
  if code = 0 then some 0
  else if 0x200 ≤ code ∧ code < 0x220 then s.processValue (code - 0x200)
  else if 0x300 ≤ code ∧ code < 0x320 then s.programValue (code - 0x300)
  else if 0x400 ≤ code ∧ code < 0x420 then
    (s.therm.ths.get (code - 0x400)).value.map fun t => f32OfRat ((t : Rat) / 100)
  else if code = 0x500 then (hottest (temps s.usedBricks)).map f32OfRat
  else if 0x508 ≤ code ∧ code < 0x510 then (hottest (temps (s.bricksOf (code - 0x508)))).map f32OfRat
  else if code = 0x510 then
    let l := (temps s.usedBricks).filterMap id
    if l.isEmpty then none else some (f32OfRat ((l.foldl (· + ·) 0 : Int) / (100 * (l.length : Rat))))
  else if 0x600 ≤ code ∧ code < 0x606 then some (f32OfRat (((s.therm.dies.get (code - 0x600)).value : Rat) / 100))
  else none

/-- PWM duty of an output c in %, 0.1 %. -/
def dutyOf (c : U32) : Nat := (clampI 0 1000 (roundAway (f32Val c * 10))).toNat

/-- One run of auxiliary loop `k` of 8 to 15 (R355, R356). -/
def State.auxRun (s : State) (k : Nat) : State :=
  let lim := s.f32 (P.loopOutLimit k)
  match s.auxFeedback (s.nat (P.loopFeedback k)) with
  | none =>
    let s := (s.setFlags k 16).raise (src 2 21) (itemLoop k) 1
    let l := s.loops.get k
    -- the run counts for a test, with the feedback and error of the last valid run (log 200)
    (s.modLoop k fun l => { l with
      fbInvalid := true, output := lim, cPrev := lim, ran := true, duty := dutyOf lim, ticks := wrapU 32 (l.ticks + 1) }).testRun k l.feedback l.error lim
  | some fb =>
    let l := s.loops.get k
    let s := s.endFault (src 2 21) (itemLoop k)
    -- a return of the feedback, or a start as active, begins with full output (R356)
    let s := if l.fbInvalid || l.handover then
        s.modLoop k fun l => { l with sections := List.replicate 8 {}, b0 := lim, bump := lim, cPrev := lim, fbInvalid := false, handover := false }
      else if !l.ran then s.modLoop k fun l => { l with sections := List.replicate 8 {}, b0 := 0, bump := 0, cPrev := 0 }
      else s.modLoop k fun l => { l with bump := bumpNext l.b0 l.bump (s.nat P.steerHandoverTime / 10) }
    let l := s.loops.get k
    let (ref, fl) := addOp 0 (s.f32 (P.loopReference k)) (s.testAt k 2)
    let (x, fl) := subOp fl fb ref
    let e := x
    let (x, fl) := addOp fl x (s.testAt k 0)
    let (y, st, fl) := s.cascade k x fl
    let (u, fl) := addOp fl y (s.testAt k 1)
    let (u, fl) := addOp fl u l.bump
    let (c, fl, keep) := s.limitSlew k u x fl
    let s := s.modLoop k fun l => { l with
      error := e, output := c, cPrev := c, y := y, feedback := fb, sections := if keep then st else l.sections
      duty := dutyOf c, ran := true, ticks := wrapU 32 (l.ticks + 1) }
    (s.setFlags k fl).testRun k fb x c

/-- `AUX_LOOP_RUN` (R355): every 10th sweep; Hold-up keeps the last duty (R358). -/
def execAuxLoopRun (s : State) : Host.Outcome State Fault Refusal :=
  run (fun s =>
    if !s.active || (s.arch.engines.get 5).inReset || decide (s.trs.state = 2) || decide (s.modes.mode.num < 3) then s
    else s.forAll ((List.range 8).map (· + 8)) fun k s =>
      if s.flag (P.loopEnable k) then
        let s := s.auxRun k
        s.drivePwm (s.nat (P.loopOutputDest k)) (s.loops.get k).duty
      else (s.drivePwm (s.nat (P.loopOutputDest k)) 0).modLoop k fun l => { l with output := 0, cPrev := 0, duty := 0, ran := false, sections := List.replicate 8 {}, bump := 0 }) s

/-! ### Commands -/

def cmdLoopFlagsClear : Cmd := { code := 0x0501, kind := .w, cls := 1, engine := 5 }

/-- LOOP_FLAGS_CLEAR carried out (R348). -/
def bodyLoopFlagsClear (mask : Nat) (s : State) : Answer :=
  match (maskIdx 8 mask).find? fun k => !s.hasLoop k with
  | some k => (some (unitAbsent 1 k), s)
  | none => (some done, s.forAll (maskIdx 16 mask) fun k s => s.modLoop k fun l => { l with flags := 0 })

/-- `LOOP_FLAGS_CLEAR` (R348). -/
def execLoopFlagsClear (f : Frame) (mask : Nat) (s : State) : Host.Outcome State Fault Refusal :=
  run (fun s => s.wicket f cmdLoopFlagsClear (.loopFlagsClear f mask) (fixedLen f 2) (bodyLoopFlagsClear mask)) s

def cmdLoopTest : Cmd := { code := 0x0502, kind := .x, cls := 3, engine := 5 }

/-- Magnitude of a float32 value. -/
def mag32 (x : U32) : Rat := let v := f32Val x; if v < 0 then -v else v

/-- The first unmet condition of step 9 of R350, 0 with none. -/
def State.testCondition (s : State) (k : Nat) : Nat :=
  let m := s.modes.mode
  let modeOk := decide (m = .m3) || decide (m = .m5) || (decide (8 ≤ k) && decide (m = .m4))
  let st := (s.trims.get k).state
  if !modeOk then 1
  else if !s.flag (P.loopEnable k) then 2
  else if k < 8 ∧ ((s.loops.get k).fallback ∨ (st ≠ 2 ∧ st ≠ 5)) then 3
  else if s.faultAt 3 then 4
  else 0

/-- LOOP_TEST carried out, in the order of R350. -/
def bodyLoopTest (k point kind : Nat) (a f : U32) (s : State) : Answer :=
  let dur : Rat := 65536 * (s.nat P.tuneDecimation : Rat) * runTime k
  let lo : Rat := if k < 8 then 1 / 10 else 1 / 1000
  let hi : Rat := if k < 8 then 5000 else 20
  let fr := f32Val f
  let start := s.real P.tuneChirpStart
  let tooBig := fun (l : Option Rat) => match l with | some l => decide (l < mag32 a) | none => false
  let limit : Option Rat := if point = 1 then some (s.real (P.loopOutLimit k)) else if k < 8 then some 400 else none
  if 15 < k then (some (fieldRange 0 0 15), s)
  else if k < 8 ∧ !s.hasLoop k then (some (unitAbsent 1 k), s)
  else if 2 < point then (some (fieldRange 1 0 2), s)
  else if 3 < kind then (some (fieldRange 2 0 3), s)
  else if kind = 3 then
    if s.testOn k then (some (done [(4, s.steer.captureNumber)]), s.endTest 1) else (some (done [(4, 0)]), s)
  else if !f32Finite a || decide (f32Val a = 0) || tooBig limit then
    let top := match limit with | some l => (f32OfRat l).toNat | none => (f32Max false).toNat
    (some (fieldRange 4 (f32Minus (BitVec.ofNat 32 top)).toNat top), s)
  else if kind = 0 ∧ (!f32Finite f ∨ fr < 0 ∨ dur < fr) then (some (fieldRange 8 0 (f32OfRat dur).toNat), s)
  else if kind ≠ 0 ∧ (!f32Finite f ∨ fr < lo ∨ hi < fr) then (some (fieldRange 8 (f32OfRat lo).toNat (f32OfRat hi).toNat), s)
  else if kind = 2 ∧ fr ≤ start then (some (fieldRange 8 (f32OfRat start).toNat (f32OfRat hi).toNat), s)
  else if s.steer.tuneState = 1 then (some (busy 5 s.steer.loop), s)
  else if k < 8 ∧ 1 ≤ s.survey.state ∧ s.survey.rail = k then (some (busy 5 k), s)
  else if s.testCondition k ≠ 0 then (some (s.notInMode (s.testCondition k)), s)
  else
    let n := wrapU 32 (s.steer.captureNumber + 1)
    (some (done [(4, n)]), s.modSteer fun t => { t with
      tuneState := 1, captureNumber := n, endCode := 0xFF, loop := k, point := point, kind := kind, amplitude := a, freq := f
      runs := 0, decimation := s.nat P.tuneDecimation, samples := [], sampleCount := 0 })

/-- `LOOP_TEST` (R350). -/
def execLoopTest (fr : Frame) (k point kind : Nat) (a f : U32) (s : State) : Host.Outcome State Fault Refusal :=
  run (fun s => s.wicket fr cmdLoopTest (.loopTest fr k point kind a f) (fixedLen fr 12) (bodyLoopTest k point kind a f)) s

/-- `LOOP_TEST_CAPTURE_COMPLETE` (R353): 65,536 samples are taken. -/
def execLoopTestCaptureComplete (s : State) : Host.Outcome State Fault Refusal :=
  run (fun s => if s.steer.sampleCount = 65536 then s.endTest 0 else s) s

/-- The ends of a test that a sweep finds (R353): mode, role, fault, loop. -/
def State.testChecks (s : State) : State :=
  if s.steer.tuneState ≠ 1 then s
  else
    let k := s.steer.loop
    let m := s.modes.mode
    let modeOk := decide (m = .m3) || decide (m = .m5) || (decide (8 ≤ k) && decide (m = .m4))
    if !modeOk then s.endTest 2
    else if !s.active then s.endTest 3
    else if s.faultAt 3 then s.endTest 4
    else if !s.flag (P.loopEnable k) || (decide (k < 8) && (s.loops.get k).fallback) then s.endTest 5
    else s

def cmdCaptureRead : Cmd := { code := 0x0503, kind := .e, cls := 4 }

/-- CAPTURE_READ carried out (R352); MORE is bit 2 of FLAGS (R128). -/
def bodyCaptureRead (number first count : Nat) (s : State) : Answer :=
  let t := s.steer
  if number = 0 ∨ number ≠ t.captureNumber then (some (fieldRange 0 t.captureNumber t.captureNumber), s)
  else if 65535 < first then (some (fieldRange 4 0 65535), s)
  else
    let l := (t.samples.reverse.drop first).take count
    let more := decide (first + l.length < t.sampleCount) || decide (t.tuneState = 1)
    let body := l.flatMap fun x => [(4, x.1.toNat), (4, x.2.1.toNat), (4, x.2.2.1.toNat), (4, x.2.2.2.toNat)]
    (some { done ([(4, first), (2, l.length), (2, 0)] ++ body) with flags := 4 * b2n more }, s)

/-- `CAPTURE_READ` (R352). -/
def execCaptureRead (f : Frame) (number first count : Nat) (s : State) : Host.Outcome State Fault Refusal :=
  run (fun s => s.wicket f cmdCaptureRead (.captureRead f number first count) (countField f 10 8 63 count)
    (bodyCaptureRead number first count)) s

end Sys2Proof.Machine
end

