-- ==== Sys2Proof/Machine/Survey.lean ====
section
/-! DEFINITION. The impedance survey (chapter 09): its conditions and course, the fetches, the spectra and fits, and its results. -/

namespace Sys2Proof.Machine

open Sys2Proof

/-! ### Conditions (R304) -/

/-- The rail's brick temperatures stay below TH.BRICK_THROTTLE (condition 9). -/
def State.railCool (s : State) (r : Nat) : Bool := (s.bricksOf r).all fun b => match (s.rows.get b).temperature with
  | some t => decide (t < s.val P.thBrickThrottle)
  | none => true

/-- Every link of the rail is in state 2 or 3, and no LK source at G2 or above names one (condition 4). -/
def State.railLinksGood (s : State) (r : Nat) : Bool := (s.linksOf r).all fun n => s.swept n && !s.flt.present.any fun i =>
  decide (i.source / 256 = 1) && decide (2 ≤ i.grade) && decide (i.item / 2 ^ 24 = 1) && decide (i.item % 2 ^ 16 = n)

/-- The string current is within the survey's limit (condition 7): mA against 0.01 C of one rail in use each. -/
def State.surveyCurrentOk (s : State) : Bool :=
  decide ((s.stringMean.natAbs * 3600 : Nat) ≤ s.nat P.survCurrentLimit * s.nat P.estRatedCapacity * s.railsInUse.length)

/-- The last ten 1 s means of string current lie within the band of one another (condition 6). -/
def State.steady (s : State) : Bool :=
  let l := s.survey.means
  decide (10 ≤ l.length) && l.all fun a => l.all fun b => decide (a - b ≤ 1000 * s.val P.survSteadyBand)

/-- The first unmet condition of R304 among 1 to 11 for rail `r`, 0 with none. -/
def State.surveyCondition (s : State) (r : Nat) : Nat :=
  let mean := (s.loops.get r).outMean
  let out := (if mean < 0 then -mean else mean) + s.real P.survAmplitude
  if s.modes.mode ≠ .m5 then 1
  else if !(s.railInUse r && (decide (s.val (P.railSteerMode r) = 1) || decide (s.val (P.railSteerMode r) = 2)) && s.flag (P.loopEnable r)) then 2
  else if (s.trims.get r).state ≠ 2 then 3
  else if !s.railLinksGood r then 4
  else if s.faultAt 3 then 5
  else if s.prof.moving ∨ !s.steady then 6
  else if !s.surveyCurrentOk then 7
  else if s.real (P.loopOutLimit r) < out then 8
  else if !s.railCool r then 9
  else if (s.nat P.estRestTime - s.nat P.estRestHold) * 60 ≤ (s.rails.get r).restTimer then 10
  else if s.trs.state ≠ 0 then 11
  else 0

/-! ### Start and end (R305, R315, R316) -/

/-- A survey of rail `r` is accepted: its number, state 1, and STOP_ALL to each monitor of the rail. -/
def State.beginSurvey (s : State) (r : Nat) (scheduled : Bool) : State :=
  let n := satU 32 (s.survey.number + 1)
  let s := s.modSurvey fun v => { v with
    state := 1, rail := r, number := n, running := n, scheduled := scheduled, sweeps := 0, ticks := 0, weight := 0, ramp := 0, period := 0
    clips := 0, shuntVoid := 0, ending := none, bricks := [], blocks := [], currents := [], quiet := [], engineReset := false, follow := false }
  s.forAll (s.linksOf r) fun n s => s.stopAll n

/-- Capture ends on the links of the rail: CLEAR is broadcast and balancing resumes (R315). -/
def State.endCapture (s : State) : State :=
  s.forAll (s.linksOf s.survey.rail) fun n s =>
    let was := (s.links.get n).capture
    let s := s.modLink n fun l => { l with
      capture := false, queue := l.queue.filter fun c => decide (c.opcode ≠ 0x0B), resend := l.resend.filter fun c => decide (c.opcode ≠ 0x0B) }
    s.when (was && s.sends n) fun s => s.sendAll n 0x0B [0, 0, 0, 0]

/-- The survey is over with a result code: SURVEY_END, the results' figures, ME.18 (R315, R316, R326). -/
def State.finishSurvey (s : State) (code : Nat) : State :=
  let r := s.survey.rail
  let n := s.survey.running
  let s := s.endCapture
  let s := s.modSurvey fun v => { v with
    state := 0, rail := 0xFF, weight := 0, ramp := 0, period := 0, ending := none, follow := false
    lastResult := updAt v.lastResult r fun _ => code, lastNumber := updAt v.lastNumber r fun _ => n
    lastTime := updAt v.lastTime r fun _ => s.sec32
    todo := if v.scheduled && decide (code ≤ 1) then v.todo.filter (· ≠ r) else v.todo }
  let s := ((s.slip 0x000C [(1, r), (1, code), (4, n)]).day 0x000E (r + 256 * code)).decideRail r
  s.when (decide (2 ≤ code)) fun s => s.raise (src 0 18) (itemRail r) 0 (single := true)

/-- A survey ends by R316: at once before T0, in fitting and for codes 2, 3, 10 and 12; else through a ramp of 100 ms. -/
def State.stopSurvey (s : State) (code : Nat) : State :=
  let v := s.survey
  if v.state = 0 ∨ (v.state = 5 ∧ code ≠ 1 ∧ code ≠ 12) then s
  else if v.state = 1 ∨ v.state = 5 ∨ v.weight = 0 ∨ [2, 3, 10, 12].contains code then s.finishSurvey code
  else if v.ending.isSome then s
  else s.modSurvey fun v => { v with state := 4, period := 0, ending := some code, ramp := v.weight / 2000 }

def cmdSurveyStart : Cmd := { code := 0x0401, kind := .x, cls := 3 }

/-- SURVEY_START carried out (R305). -/
def bodySurveyStart (r : Nat) (s : State) : Answer :=
  if !hasIsu s.ident.variant then (some (unitAbsent 0), s)
  else if 7 < r ∨ !s.railUsed r then (some (fieldRange 0 0 7), s)
  else if !s.hasLoop r then (some (unitAbsent 1 r), s)
  else if s.survey.state ≠ 0 then (some (busy 5 s.survey.rail), s)
  else if s.steerState r = 5 then (some (busy 5 r), s)
  else
    let c := s.surveyCondition r
    if c ≠ 0 then (some (s.notInMode c), s)
    else
      let s := s.beginSurvey r false
      (some (done [(4, s.survey.number)]), s)

/-- `SURVEY_START` (R305). -/
def execSurveyStart (f : Frame) (r : Nat) (s : State) : Host.Outcome State Fault Refusal :=
  run (fun s => s.wicket f cmdSurveyStart (.surveyStart f r) (fixedLen f 1) (bodySurveyStart r)) s

def cmdSurveyAbort : Cmd := { code := 0x0402, kind := .x, cls := 1 }

/-- SURVEY_ABORT carried out (R316). -/
def bodySurveyAbort (r : Nat) (s : State) : Answer :=
  if !hasIsu s.ident.variant then (some (unitAbsent 0), s)
  else if s.survey.state ≠ 0 ∧ s.survey.rail = r then (some done, s.stopSurvey 1)
  else (some (busy 5), s)

/-- `SURVEY_ABORT` (R316). -/
def execSurveyAbort (f : Frame) (r : Nat) (s : State) : Host.Outcome State Fault Refusal :=
  run (fun s => s.wicket f cmdSurveyAbort (.surveyAbort f r) (fixedLen f 1) (bodySurveyAbort r)) s

/-! ### The nightly window (R306) -/

/-- Try the scheduled rail: the first still to survey. -/
def State.trySurvey (s : State) : State :=
  match s.survey.todo with
  | r :: _ => if s.survey.windowOpen && decide (s.survey.state = 0) && s.railUsed r && s.hasLoop r && decide (s.steerState r ≠ 5)
      && s.active && decide (s.surveyCondition r = 0) then s.beginSurvey r true else s
  | [] => s

/-- `SURVEY_WINDOW_OPEN` (R306). -/
def execSurveyWindowOpen (s : State) : Host.Outcome State Fault Refusal :=
  run (fun s => if !hasIsu s.ident.variant || !s.active then s
    else (s.modSurvey fun v => { v with windowOpen := true, todo := maskIdx 8 (s.nat P.survEnableMask) }).trySurvey) s

/-- `SURVEY_RETRY_TIMER` (R306): SURV.RETRY, or 10 s after a survey ended, has passed. -/
def execSurveyRetryTimer (s : State) : Host.Outcome State Fault Refusal := run State.trySurvey s

/-- `SURVEY_WINDOW_CLOSE` (R306): a rail not surveyed gets result code 13 with survey number 0. -/
def execSurveyWindowClose (s : State) : Host.Outcome State Fault Refusal :=
  run (fun s =>
    if !s.survey.windowOpen then s
    else
      let left := s.survey.todo.filter fun r => decide (s.survey.state = 0) || decide (s.survey.rail ≠ r) || !s.survey.scheduled
      let s := s.modSurvey fun v => { v with windowOpen := false, todo := [] }
      s.forAll left fun r s =>
        let s := s.modSurvey fun v => { v with
          lastResult := updAt v.lastResult r fun _ => 13, lastNumber := updAt v.lastNumber r fun _ => 0
          lastTime := updAt v.lastTime r fun _ => s.sec32 }
        ((s.slip 0x000C [(1, r), (1, 13), (4, 0)]).day 0x000E (r + 256 * 13)).raise (src 0 18) (itemRail r) 0 (single := true)) s

/-! ### The course (R309, R312, R315) -/

/-- `SURVEY_T0` (R315): the table is built and every monitor of the rail has returned APPLIED 0 everywhere. -/
def execSurveyT0 (s : State) : Host.Outcome State Fault Refusal :=
  run (fun s =>
    let r := s.survey.rail
    let mons := (s.linksOf r).flatMap fun n => (List.range (s.monCount n)).map fun p => 2 * n + p
    if s.survey.state = 1 ∧ mons.all (fun m => s.survey.quiet.contains m) = true then
      let s := s.modSurvey fun v => { v with state := 2, sweeps := 0, ticks := 0, weight := 0, ramp := 0, meanT0 := s.stringMean }
      s.forAll (s.linksOf r) fun n s => s.modLink n fun l => { l with capture := true }
    else s) s

/-- `SURVEY_T0_TIMEOUT` (R315): T0 is not reached within 1 s. -/
def execSurveyT0Timeout (s : State) : Host.Outcome State Fault Refusal :=
  run (fun s => if s.survey.state = 1 then s.stopSurvey 12 else s) s

/-- The square of the ripple of period 1 in mA², and SURV.MIN_RIPPLE squared (R316 code 9). -/
def State.lowResponse (s : State) : Bool :=
  let l := (s.survey.currents.filter fun x => decide (10000 ≤ x.1) && decide (x.1 < 20000)).flatMap fun x => x.2
  let n : Int := l.length
  let sum := l.foldl (· + ·) 0
  let sq := l.foldl (fun a x => a + x * x) 0
  decide (n * sq - sum * sum < n * n * (s.val P.survMinRipple * s.val P.survMinRipple))

/-- `SURVEY_PERIOD_END` (R315): a 10 s period ends; the ripple check after period 1, the ramp-down after the last. -/
def execSurveyPeriodEnd (s : State) : Host.Outcome State Fault Refusal :=
  run (fun s =>
    let v := s.survey
    if (v.state ≠ 2 ∧ v.state ≠ 3) ∨ v.sweeps < 10000 * (v.period + 1) then s
    else if v.state = 2 then s.modSurvey fun v => { v with state := 3, period := 1 }
    else if v.period = 1 ∧ !v.follow ∧ s.lowResponse then s.stopSurvey 9
    else if s.nat P.survPeriods ≤ v.period then s.modSurvey fun v => { v with state := 4, period := 0, ramp := 1 / 20000 }
    else s.modSurvey fun v => { v with period := v.period + 1 }) s

/-- `SURVEY_RAMP_END` (R315): the injection weight is 0; fitting starts, or a survey that was ended is over. -/
def execSurveyRampEnd (s : State) : Host.Outcome State Fault Refusal :=
  run (fun s =>
    let v := s.survey
    if v.state ≠ 4 ∨ v.weight ≠ 0 then s
    else match v.ending with
      | some c => s.finishSurvey c
      | none =>
        let r := v.rail
        ((s.endCapture).modSurvey fun v => { v with state := 5, ramp := 0 }).decideRail r) s

/-- The FETCH exchanges of a sweep on a link in capture (R312): the samples of the sweep before, then at most one retry; a retry
whose sweep has left the ring of four is dropped. -/
def State.surveyFetches (s : State) (n : Nat) : State :=
  let v := s.survey
  let l := s.links.get n
  if !l.capture || !s.sends n || v.ending.isSome then s
  else
    let j := v.sweeps - 1
    let w := (s.time.sweep + 2 ^ 32 - 1) % 2 ^ 16
    let new : List LinkCmd := if 10000 ≤ j ∧ j < 10000 * (s.nat P.survPeriods + 1) then
        (List.range (s.monCount n)).flatMap fun h => (List.range 3).map fun b =>
          { hop := h + 1, opcode := 0x0B, payload := [1, b, w % 256, w / 256] }
      else []
    let isFetch := fun (c : LinkCmd) => decide (c.opcode = 0x0B)
    let held := fun (c : LinkCmd) => decide ((w + 2 ^ 16 - (c.payload.getD 2 0 + 256 * c.payload.getD 3 0)) % 2 ^ 16 < 4)
    let old := (l.resend ++ l.queue).filter fun c => isFetch c && held c
    let others := (l.resend ++ l.queue).filter fun c => !isFetch c
    s.modLink n fun l => { l with queue := new ++ old.take 1 ++ others, resend := old.drop 1 }

/-- The FETCH names this block and these bits 15:0 of the sweep counter (R311). -/
def LinkCmd.fetches (c : LinkCmd) (block sweep : Nat) : Bool :=
  decide (c.payload.getD 1 0 = block) && decide (c.payload.getD 2 0 + 256 * c.payload.getD 3 0 = sweep)

/-- `SURVEY_FETCH_REPLY` (R311, R312): the block of the sweep that the FETCH of this TAG named; LEN 0 holds no samples. -/
def execSurveyFetchReply (n hop : Nat) (x : LineHead) (block sweep : Nat) (samples : List Nat) (s : State) :
    Host.Outcome State Fault Refusal :=
  run (fun s =>
    -- a module that does not transmit has heard the FETCH (R324)
    let heard := (s.links.get n).heardCmd.filter fun c => c.opcode == 0x0B && c.tag == x.tag
    s.takeReply n hop 0x0B x (wireBytes (samples.map fun y => (2, y))) fun p own s => match own.or heard with
    | none => s
    | some c =>
    let v := s.survey
    let back := (s.time.sweep + 2 ^ 16 - sweep) % 2 ^ 16
    if !c.fetches block sweep ∨ p = 0xF ∨ samples.length ≠ 32 ∨ v.sweeps < back ∨ v.state < 2 then s
    else s.modSurvey fun v => { v with blocks := v.blocks ++ [(2 * n + p, v.sweeps - back, block, samples)] }) s

/-- The checks of a sweep, states 1 to 4 (R316); the first that fails in the order of the codes ends the survey. A capture of the
partner's survey ends with it, and on the reset of an engine of this module (R324). -/
def State.surveyChecks (s : State) : State :=
  let v := s.survey
  let r := v.rail
  if v.state = 0 then s
  else if v.engineReset then s.stopSurvey 12
  else if v.state = 5 ∨ v.follow then s
  else
    let band := 1000 * s.val P.survSteadyBand
    let share := s.steer.shares.getD r 0
    let dev : Rat := ((s.rails.get r).curMean : Rat) - (s.stringMean : Rat) * share
    let after := decide (2 ≤ v.state)
    if s.modes.mode ≠ .m5 then s.stopSurvey 2
    else if !s.active then s.stopSurvey 3
    else if s.trs.state ≠ 0 then s.stopSurvey 4
    else if s.prof.moving then s.stopSurvey 5
    else if (after && decide (band < ((s.stringMean - v.meanT0).natAbs : Int))) || !s.surveyCurrentOk then s.stopSurvey 6
    else if ((1000 * s.val P.survShareBand : Int) : Rat) < (if dev < 0 then -dev else dev) then s.stopSurvey 7
    else if 3 ≤ ((List.range 32).filter fun p => bitOf v.clips p).length then s.stopSurvey 8
    else if (s.trims.get r).state ≠ 2 ∨ !s.railLinksGood r ∨ s.faultAt 3 then s.stopSurvey 10
    else if !s.railCool r then s.stopSurvey 11
    else s

/-- One sweep of a survey: the current samples of the cycle that ended, the rows of its bricks, the void marks (R313, R320, R322). -/
def State.surveySweep (s : State) (isu : List Int) : State :=
  let v := s.survey
  if v.state < 1 ∨ 4 < v.state then s
  else
    let r := v.rail
    let measuring := decide (v.state = 3)
    let s := if measuring then s.modSurvey fun v => { v with currents := v.currents ++ [(v.sweeps, isu)] } else s
    let s := if measuring && !(s.rails.get r).shuntValid then s.modSurvey fun v => { v with shuntVoid := putBit v.shuntVoid v.period true } else s
    -- the capture runs from T0 to the end of the ramp-down; the means are over the measured periods (R320, R322)
    let s := if 2 ≤ v.state then s.forAll (s.bricksOf r) fun b s =>
        let x := s.rows.get b
        let bad := bitOf x.status 3 || bitOf x.status 1
        if measuring then s.modSurvey fun v => { v with bricks := v.bricks.modify b fun y => { y with
          excluded := y.excluded || bad, tempSum := y.tempSum + x.temperature.getD 0
          posSum := y.posSum + x.position, rows := y.rows + 1 } }
        else if bad then s.modSurvey fun v => { v with bricks := v.bricks.modify b fun y => { y with excluded := true } }
        else s
      else s
    s.modSurvey fun v => { v with sweeps := v.sweeps + 1 }

/-! ### Spectra and fits (R317 to R319) -/

/-- A complex number as its parts. -/
abbrev Cx := Rat × Rat

def cxMul (a b : Cx) : Cx := (a.1 * b.1 - a.2 * b.2, a.1 * b.2 + a.2 * b.1)
def cxAdd (a b : Cx) : Cx := (a.1 + b.1, a.2 + b.2)
def cxSq (a : Cx) : Rat := a.1 * a.1 + a.2 * a.2
def cxDiv (a b : Cx) : Cx := ((a.1 * b.1 + a.2 * b.2) / cxSq b, (a.2 * b.1 - a.1 * b.2) / cxSq b)
def cxScale (k : Rat) (a : Cx) : Cx := (k * a.1, k * a.2)

/-- exp(−j 2 pi x). -/
def turnBack (x : Rat) : Cx := (Config.sin64 (x + 1 / 4), -Config.sin64 x)

/-- dft(x, f) of R317 over samples 125 us apart. -/
def dft (x : List Rat) (f : Rat) : Cx :=
  ((x.zip (List.range x.length)).foldl (fun a y => cxAdd a (cxScale y.1 (turnBack (f * (y.2 : Rat) * 125 / 1000000)))) (0, 0))

/-- The voltage samples of a brick in measured period `p`, none where a block is lost or a sample invalid (R311, R312, R317). -/
def State.surveyVolts (s : State) (b p : Nat) : Option (List Rat) :=
  let m := 2 * (b / 24) + b % 24 / 12
  let c := b % 12
  (List.range 80000).foldr (fun n acc =>
    let k := 12 * (n % 8) + c
    match acc, s.survey.blocks.find? fun x => decide (x.1 = m) && decide (x.2.1 = 10000 * p + n / 8) && decide (x.2.2.1 = k / 32) with
    | some l, some x => let v := x.2.2.2.getD (k % 32) 0xFFFF; if v = 0xFFFF then none else some ((v : Rat) :: l)
    | _, _ => none) (some [])

/-- The current samples of measured period `p` in mA. -/
def State.surveyAmps (s : State) (p : Nat) : List Rat :=
  ((s.survey.currents.filter fun x => decide (10000 * p ≤ x.1) && decide (x.1 < 10000 * (p + 1))).flatMap fun x => x.2).map fun i => (i : Rat)

/-- z_p(f) in ohms (R317). -/
def State.zAt (s : State) (b : Nat) (v i : List Rat) (f : Rat) : Cx :=
  let tau : Rat := (((s.bricks.get b).sampleOffset : Nat) : Rat) / 100000000
  let ratio := cxScale (1 / 10) (cxDiv (dft v f) (dft i f))
  cxMul (cxScale (Config.sinc (f * 125 / 1000000)) ratio) (turnBack (f * (tau - 625 / 10000000)))

/-- The periods used for a brick: not void by clips, the shunt, lost blocks or invalid samples, with their samples. -/
def State.usedPeriods (s : State) (b : Nat) : List (List Rat × List Rat) :=
  (((List.range (s.nat P.survPeriods)).map (· + 1)).filter fun p => !bitOf s.survey.clips p && !bitOf s.survey.shuntVoid p).filterMap fun p =>
    (s.surveyVolts b p).map fun v => (v, s.surveyAmps p)

/-- A point of R318: its mean, and whether its error passes; the deviation is that of a sample. -/
def pointOf (tol : Rat) (zs : List Cx) : Cx × Bool :=
  let n : Rat := zs.length
  let mean := cxScale (1 / n) (zs.foldl cxAdd (0, 0))
  let var := sumQ (zs.map fun z => cxSq (z.1 - mean.1, z.2 - mean.2)) / (n - 1)
  (mean, decide (var ≤ tol * tol * n * cxSq mean))

/-- A value into the bounds of R319. -/
def bounded (lo hi x : Rat) : Rat := max lo (min hi x)

/-- m(f) of R319. -/
def modelAt (x : List Rat) (f : Rat) : Cx :=
  let rc := fun (r t : Rat) => cxDiv (r, 0) (1, 2 * Config.pi * f * t)
  cxAdd (x.getD 0 0, 0) (cxAdd (rc (x.getD 1 0) (x.getD 3 0)) (rc (x.getD 2 0) (x.getD 4 0)))

/-- ε² of R319. -/
def fitError (x : List Rat) (pts : List (Rat × Rat × Rat)) : Rat :=
  sumQ (pts.map fun p => let m := modelAt x p.1; cxSq (p.2.1 - m.1, p.2.2 - m.2) / cxSq p.2) / (pts.length : Rat)

/-- The numbers r0, ra, rb, tau_a, tau_b of the fit, kept inside its bounds, and whether one stands at a bound (R319, R323). -/
def fitOf (start : List Rat) (pts : List (Rat × Rat × Rat)) : List Rat × Bool :=
  let x := Config.fit start pts
  let r := fun (i : Nat) => bounded 0 (65534 / 100000) (x.getD i 0)
  let ta := bounded (1 / 10000) (1 / 10) (x.getD 3 0)
  let tb := bounded (max (1 / 100) (5 * ta)) 30 (x.getD 4 0)
  let atR := (List.range 3).any fun i => decide (r i = 0) || decide (r i = 65534 / 100000)
  ([r 0, r 1, r 2, ta, tb], atR || decide (ta = 1 / 10000) || decide (ta = 1 / 10) || decide (tb = 1 / 100) || decide (tb = 5 * ta) || decide (tb = 30))

/-- The start of a fit (R319): the last taken fit, or the ends of the spectrum. -/
def Brick.fitStart (b : Brick) (pts : List (Rat × Rat × Rat)) : List Rat :=
  if b.seriesRes ≠ 0xFFFF then
    [(b.seriesRes : Rat) / 100000, (b.rcARes : Rat) / 100000, (b.rcBRes : Rat) / 100000, (b.rcATau : Rat) / 10000, (b.rcBTau : Rat) / 100]
  else
    let high := match pts.getLast? with | some p => p.2.1 | none => 0
    let low := match pts.head? with | some p => p.2.1 | none => 0
    [high, (low - high) / 2, (low - high) / 2, 1 / 1000, 1]

/-- The record of a brick (R318 to R320, R322, R323). -/
def State.surveyRecord (s : State) (b : Nat) : SurveyRecord :=
  let v := s.survey
  let x := s.bricks.get b
  let y := v.bricks.get b
  let used := s.usedPeriods b
  let notClipped := ((List.range (s.nat P.survPeriods)).map (· + 1)).filter fun p => !bitOf v.clips p
  let whole := notClipped.filter fun p => !bitOf v.shuntVoid p
  let freqs := (List.range (s.nat P.survFreqCount)).map fun i => ((s.nat (P.survHarmonic i) : Nat) : Rat) / 10
  let tol : Rat := ((s.val P.survPointTol : Int) : Rat) / 10000
  let all := freqs.map fun f => (f, pointOf tol (used.map fun u => s.zAt b u.1 u.2 f))
  let pts := (all.filter fun p => p.2.2 && decide (p.2.1.2 ≤ 0)).map fun p => (p.1, p.2.1.1, p.2.1.2)
  let inductPts := (all.filter fun p => decide (0 < p.2.1.2)).length
  let short := decide (used.length < max 2 (s.nat P.survPeriods - 2))
  let few := decide (pts.length < s.nat P.survMinPoints)
  let has := !short && !few
  let (fit, atBound) := fitOf (x.fitStart pts) pts
  let e2 := fitError fit pts
  let ft : Rat := ((s.val P.survFitTol : Int) : Rat) / 10000
  let poor := has && decide (ft * ft < e2)
  let taken := has && !poor && !atBound && !y.excluded
  let field := fun (i : Nat) (k : Rat) => if has then (roundAway (fit.getD i 0 * k)).toNat else 0xFFFF
  { brick := b
    quality := b2n short * 256 + b2n (decide (4 < inductPts)) * 128 + b2n y.excluded * 64
      + b2n (decide (notClipped.length < s.nat P.survPeriods)) * 32 + b2n (decide (used.length < whole.length)) * 16
      + b2n poor * 8 + b2n few * 4 + b2n (has && atBound) * 2 + b2n taken
    r0 := field 0 100000, ra := field 1 100000, ta := field 3 10000, rb := field 2 100000, tb := field 4 100
    residual := if has then satU 16 (roundAway (sqrt64 e2 * 10000)).toNat else 0xFFFF
    points := pts.length, periods := used.length
    temperature := if y.rows = 0 then -32768 else divNear y.tempSum y.rows
    position := if y.rows = 0 then 0xFFFF else (divNear y.posSum y.rows).toNat }

/-- The median of a list of numbers. -/
def median (l : List Nat) : Rat :=
  let t := sortBy (fun a b => decide (a ≤ b)) l
  if l.isEmpty then 0
  else if l.length % 2 = 1 then (t.getD (l.length / 2) 0 : Rat)
  else ((t.getD (l.length / 2 - 1) 0 : Rat) + (t.getD (l.length / 2) 0 : Rat)) / 2

/-- A taken fit goes into the brick's row and staging and into its Ledger record, with the checks of R321 on it. -/
def State.takeFit (s : State) (med : Rat) (x : SurveyRecord) : State :=
  let b := x.brick
  let old := s.bricks.get b
  let near := match old.fitTemp with
    | some t => decide ((x.temperature - t).natAbs ≤ 300) && decide (((x.position : Int) - old.fitPos).natAbs ≤ 1000)
    | none => false
  let pct := fun (i : Nat) => 1 + ((s.val i : Int) : Rat) / 10000
  let s := s.condition (src 0 19) (itemBrick b) 1 (decide (med * pct P.survOutlier < (x.r0 : Rat)))
  let s := if decide (old.seriesRes ≠ 0xFFFF) && near then
      s.condition (src 0 20) (itemBrick b) 1 (decide ((old.seriesRes : Rat) * pct P.survRise < (x.r0 : Rat))) else s
  let s := s.modBrick b fun y => { y with
    seriesRes := x.r0, rcARes := x.ra, rcATau := x.ta, rcBRes := x.rb, rcBTau := x.tb, fitTemp := some x.temperature, fitPos := x.position }
  s.when s.accrues fun s => s.modLed (ledKey 1 b) fun r =>
    let w := if r.words.get 116 = 0 then r.words.set 112 (x.r0 : Int) else r.words
    { r with words := (w.set 114 (x.r0 : Int)).set 116 s.sec32 }

/-- `SURVEY_FIT_COMPLETE` (R315, R320 to R322). -/
def execSurveyFitComplete (s : State) : Host.Outcome State Fault Refusal :=
  run (fun s =>
    if s.survey.state ≠ 5 then s
    else
      let r := s.survey.rail
      let recs := (s.bricksOf r).map s.surveyRecord
      let taken := recs.filter fun x => bitOf x.quality 0
      let med := median (taken.map (·.r0))
      let s := s.forAll taken fun x s => s.takeFit med x
      let s := s.condition (src 0 21) (itemRail r) 1 (decide (10 * taken.length < 9 * recs.length))
      let s := s.modSurvey fun v => { v with records := (v.records.filter fun x => decide (x.1 ≠ r)) ++ [(r, v.running, recs)] }
      s.finishSurvey 0) s

/-! ### Results (R322) -/

/-- The 24 bytes of a record. -/
def SurveyRecord.bytes (x : SurveyRecord) : List (Nat × Nat) :=
  [(2, x.brick), (2, x.quality), (2, x.r0), (2, x.ra), (2, x.ta), (2, x.rb), (2, x.tb), (2, x.residual), (1, x.points), (1, x.periods),
   (2, patI 16 x.temperature), (2, x.position), (2, 0)]

def cmdSurveyResult : Cmd := { code := 0x0403, kind := .r, cls := 3 }

/-- SURVEY_RESULT carried out (R322). -/
def bodySurveyResult (r first count : Nat) (s : State) : Answer :=
  let l := (List.range count).map (first + ·)
  if !hasIsu s.ident.variant then (some (unitAbsent 0), s)
  else if !l.all fun b => decide (r < 8) && s.brickUsed b && decide (s.railOf (b / 24) = some r) then (some (fieldRange 2 none32 none32), s)
  else match s.survey.records.find? fun x => decide (x.1 = r) with
    | none => (some (done [(4, 0), (2, 0), (2, 0)]), s)
    | some (_, n, recs) =>
      let out := recs.filter fun x => l.contains x.brick
      (some (done ([(4, n), (2, out.length), (2, 0)] ++ out.flatMap SurveyRecord.bytes)), s)

/-- `SURVEY_RESULT` (R322): a count outside 1 to 42 gives LENGTH_INVALID. -/
def execSurveyResult (f : Frame) (r first count : Nat) (s : State) : Host.Outcome State Fault Refusal :=
  run (fun s => s.wicket f cmdSurveyResult (.surveyResult f r first count) (countField f 6 4 42 count) (bodySurveyResult r first count)) s

end Sys2Proof.Machine
end

