-- ==== Sys2Proof/Machine/Thermal.lean ====
section
/-! DEFINITION. Thermal supervision (chapter 12): levels of thermistors, die and busbar sensors, the forced outputs and the
thermal limit. -/

namespace Sys2Proof.Machine

open Sys2Proof

/-- Sensor code of thermistor `k` = 8 × link + 4 × monitor position + thermistor (R402). -/
def thermCode (k : Nat) : Nat := 0x8000 + k

/-- The thermistors of the monitors on assigned links, rising. -/
def State.usedTherms (s : State) : List Nat :=
  s.usedLinks.flatMap fun n => (List.range (4 * s.monCount n)).map fun j => 8 * n + j

/-- A level with hysteresis: entered at or above it, left below the level less the hysteresis (R390). -/
def levelOf (was : Bool) (v level hyst : Int) : Bool := decide (level ≤ v) || (was && decide (level - hyst ≤ v))

/-- What a thermistor counts as for its levels and the thermal limit (R394, R396). -/
def State.thermValue (s : State) (h : Therm) : Option Int :=
  if h.failed then some (s.val P.thBrickThrottle + s.val P.thBrickHysteresis) else h.value

/-- The warning and throttle levels of thermistor `k` (R390, R400). -/
def State.thermLevels (s : State) (k : Nat) : State :=
  let h := s.therm.therms.get k
  match s.thermValue h with
  | none => s
  | some v =>
    let hy := s.val P.thBrickHysteresis
    let w := levelOf h.warning v (s.val P.thBrickWarning) hy
    let t := levelOf h.throttle v (s.val P.thBrickThrottle) hy
    let s := s.modTherm fun x => { x with therms := x.therms.modify k fun h => { h with warning := w, throttle := t } }
    (s.condition (src 2 1) (item 7 (thermCode k)) 0 w).condition (src 2 2) (item 7 (thermCode k)) 1 t

/-- Thermistor `k` failed or valid again (R396). -/
def State.thermFailed (s : State) (k : Nat) (failed : Bool) : State :=
  let s := s.modTherm fun x => { x with therms := x.therms.modify k fun h => { h with failed := failed } }
  s.condition (src 2 4) (item 7 (thermCode k)) 2 failed

/-- Every thermistor of the pack on link `n` is failed (R397). -/
def State.packFailed (s : State) (n : Nat) : Bool :=
  decide (0 < s.monCount n) && (List.range (4 * s.monCount n)).all fun j => (s.therm.therms.get (8 * n + j)).failed

/-- The packs whose grace runs; one thermistor valid again ends TH.05 (R397). -/
def State.packGrace (s : State) : State :=
  let l := s.usedLinks.filter s.packFailed
  let back := s.therm.grace.filter fun n => !l.contains n
  let s := s.modTherm fun x => { x with grace := l }
  s.forAll back fun n s => s.endFault (src 2 5) (itemLink n)

/-- Outputs of `TH.FORCE_MASK` run at 100 % while a brick or busbar sensor is in its throttle level (R401). -/
def State.forceOutputs (s : State) : State :=
  let forced := s.usedTherms.any (fun k => (s.therm.therms.get k).throttle)
    || (List.range 32).any fun i => (s.therm.ths.get i).throttle
  let s := s.modTherm fun x => { x with forced := forced }
  if forced then s.forAll (maskIdx 8 (s.nat P.thForceMask)) fun k s => s.drivePwm k 1000 else s

/-- The Wicket core's evaluation of one thermistor at the end of its interval (R394, R396). -/
def State.evalTherm (s : State) (k : Nat) : State :=
  let h := s.therm.therms.get k
  let full := decide (0 < h.valid) && decide (h.total ≤ 2 * h.valid)
  let value := if full then some (divNear h.sum h.valid) else h.value
  let near := match value with
    | some v => full && decide (s.val P.thBrickThrottle - s.val P.thBrickFastBand ≤ v)
    | none => false
  let s := s.modTherm fun x => { x with therms := x.therms.modify k fun h =>
    { h with value := value, sum := 0, valid := 0, total := 0, fast := h.fast || near } }
  let dead := decide (0 < h.total) && decide (h.valid = 0)
  let s := if full then (if h.failed then s.thermFailed k false else s)
    else if dead then s.thermFailed k true else s
  s.thermLevels k

/-- `TH.HOTTEST_BRICK` and its value (R407): the lowest brick of the thermistor with the highest valid filtered value. -/
def State.hottestBrick (s : State) : State :=
  let best := s.usedTherms.foldl (fun (m : Option (Nat × Int)) k =>
    let h := s.therm.therms.get k
    match (if h.failed then none else h.value), m with
    | some v, some b => if b.2 < v then some (k, v) else m
    | some v, none => some (k, v)
    | none, _ => m) none
  s.modTherm fun x => { x with
    hottest := (match best with | some b => 24 * (b.1 / 8) + 12 * (b.1 / 4 % 2) + 3 * (b.1 % 4) | none => 0xFFFF)
    hottestTemp := best.map (·.2) }

/-- `BRICK_THERMAL_EVALUATION` (R394): the thermistors at 100 Hz in each 10th sweep, the others in each 100th. -/
def execBrickThermalEvaluation (s : State) : Host.Outcome State Fault Refusal :=
  run (fun s =>
    let due := s.usedTherms.filter fun k =>
      decide (s.time.sweep % 100 = 0) || (decide (s.time.sweep % 10 = 0) && (s.therm.therms.get k).fast)
    let s := s.forAll due fun k s => s.evalTherm k
    (s.packGrace.forceOutputs).hottestBrick) s

/-- `FAST_RATE_RETURN_TIMER` (R394): thermistor `k` returns to 10 Hz. -/
def execFastRateReturnTimer (k : Nat) (s : State) : Host.Outcome State Fault Refusal :=
  if 1024 ≤ k then .fault .illFormed
  else run (fun s =>
    let h := s.therm.therms.get k
    match h.value with
    | some v =>
      if v < s.val P.thBrickThrottle - s.val P.thBrickFastBand - s.val P.thBrickHysteresis then
        s.modTherm fun x => { x with therms := x.therms.modify k fun h => { h with fast := false } }
      else s
    | none => s) s

/-- The Guard core's evaluation of one thermistor against the shutdown level (R395, R424). -/
def State.guardTherm (s : State) (k : Nat) : State :=
  let h := s.therm.therms.get k
  let full := decide (0 < h.gValid) && decide (h.gTotal ≤ 2 * h.gValid)
  let value := if full then some (divNear h.gSum h.gValid) else h.gValue
  let hot := match value with | some v => decide (s.val P.thBrickShutdown ≤ v) && !h.failed | none => false
  let s := s.modTherm fun x => { x with therms := x.therms.modify k fun h =>
    { h with gValue := value, gSum := 0, gValid := 0, gTotal := 0, shutdown := h.shutdown || hot } }
  if hot then s.thermalShutdown (src 2 3) (item 7 (thermCode k)) else s

/-- `GUARD_THERMAL_EVALUATION` (R395): every thermistor, in each 10th sweep. -/
def execGuardThermalEvaluation (s : State) : Host.Outcome State Fault Refusal :=
  run (fun s =>
    if s.arch.guardStopped || decide (s.time.sweep % 10 ≠ 0) then s
    else s.forAll s.usedTherms fun k s => s.guardTherm k) s

/-- `THERMISTOR_FAILED_TIMEOUT` (R396). -/
def execThermistorFailedTimeout (k : Nat) (s : State) : Host.Outcome State Fault Refusal :=
  if 1024 ≤ k then .fault .illFormed
  else run (fun s => (((s.thermFailed k true).thermLevels k).packGrace).forceOutputs) s

/-- `PACK_THERMISTOR_GRACE_EXPIRY` (R397): TH.05 at G5 in M5 and M6, at G3 otherwise. -/
def execPackThermistorGraceExpiry (n : Nat) (s : State) : Host.Outcome State Fault Refusal :=
  if 128 ≤ n then .fault .illFormed
  else run (fun s =>
    if s.packFailed n then
      if s.onString then s.raise (src 2 5) (itemLink n) 5 else s.raise (src 2 5) (itemLink n) 3
    else s) s

/-! ### Busbar, contactor, die and board sensors (R399) -/

/-- The levels of `THS[i]` for the value it has or counts as (R399, R400). -/
def State.thsLevels (s : State) (i : Nat) (v : Int) (lost : Bool) : State :=
  let h := s.therm.ths.get i
  let hy := s.val (P.thsHysteresis i)
  let w := levelOf h.warning v (s.val (P.thsWarning i)) hy
  let t := levelOf h.throttle v (s.val (P.thsThrottle i)) hy
  -- an invalid sensor never brings about a shutdown by itself
  let d := !lost && decide (s.val (P.thsShutdown i) ≤ v)
  let s := s.modTherm fun x => { x with ths := x.ths.modify i fun h =>
    { h with last := v, warning := w, throttle := t, shutdown := h.shutdown || d } }
  let s := (s.condition (src 2 30) (item 7 (0x0400 + i)) 0 w).condition (src 2 31) (item 7 (0x0400 + i)) 1 t
  if d then s.thermalShutdown (src 2 32) (item 7 (0x0400 + i)) else s

/-- `THS[i]` in a sweep: the latest value of its source (R399). -/
def State.thsSweep (s : State) (i : Nat) : State :=
  let code := s.nat (P.thsSource i)
  if code = 0 then s
  else match s.auxFeedback code with
    | some x =>
      let v := clampI (-32767) 32767 (roundAway (f32Val x * 100))
      let s := (s.modTherm fun y => { y with ths := y.ths.modify i fun h => { h with value := some v, lost := false } }).endFault
        (src 2 33) (item 7 (0x0400 + i))
      s.thsLevels i v false
    | none =>
      let s := s.modTherm fun y => { y with ths := y.ths.modify i fun h => { h with value := none } }
      if (s.therm.ths.get i).lost then s.thsLevels i (s.val (P.thsThrottle i) + s.val (P.thsHysteresis i)) true else s

/-- `THS_SOURCE_INVALID_TIMEOUT` (R399). -/
def execThsSourceInvalidTimeout (i : Nat) (s : State) : Host.Outcome State Fault Refusal :=
  if 32 ≤ i then .fault .illFormed
  else run (fun s =>
    let code := s.nat (P.thsSource i)
    if code = 0 ∨ (s.auxFeedback code).isSome then s
    else
      let s := (s.modTherm fun y => { y with ths := y.ths.modify i fun h => { h with value := none, lost := true } }).raise
        (src 2 33) (item 7 (0x0400 + i)) 2
      (s.thsLevels i (s.val (P.thsThrottle i) + s.val (P.thsHysteresis i)) true).forceOutputs) s

/-- Die sensor `d` in a sweep with its new sample (R390, R399). -/
def State.dieSweep (s : State) (d : Nat) (x : Int) : State :=
  let old := s.therm.dies.get d
  let l := (x :: old.samples).take 8
  let v := divNear (l.foldl (· + ·) 0) l.length
  let hy := s.val P.thDieHysteresis
  if 4 ≤ d then
    let w := levelOf old.warning v (s.val P.thBoardWarning) hy
    (s.modTherm fun y => { y with dies := y.dies.set d { old with samples := l, value := v, warning := w } }).condition
      (src 2 13) (item 7 (0x0600 + d)) 1 w
  else
    let g := s.age.guard
    let w := levelOf old.warning v (s.val P.thDieWarning - g) hy
    let t := levelOf old.throttle v (s.val P.thDieThrottle - g) hy
    let x := decide (s.val P.thDieShutdown - g ≤ v)
    let z : Die := { samples := l, value := v, warning := w, throttle := t, shutdown := old.shutdown || x }
    let s := s.modTherm fun y => { y with dies := y.dies.set d z }
    let s := (s.condition (src 2 10) (item 7 (0x0600 + d)) 1 w).condition (src 2 11) (item 7 (0x0600 + d)) 1 t
    if x then s.thermalShutdown (src 2 12) (item 7 (0x0600 + d)) else s

/-- The throttle fraction f of R402. -/
def throttleFraction (t thr sd floor : Rat) : Rat := if sd = thr then floor else max floor (min 1 ((sd - t) / (sd - thr)))

/-- The thermal limit (R402): the smallest term, ties to the lower sensor code. -/
def State.thermalLimit (s : State) : State :=
  let floor : Rat := (s.nat P.thThrottleFloor : Rat) / 10000
  let total : Rat := (s.railsInUse.map fun r => (s.rated r : Rat)).foldl (· + ·) 0
  let ths := (List.range 32).filterMap fun i =>
    let h := s.therm.ths.get i
    if s.nat (P.thsSource i) ≠ 0 ∧ h.throttle then
      some (0x0400 + i, throttleFraction h.last (s.val (P.thsThrottle i)) (s.val (P.thsShutdown i)) floor * total)
    else none
  let bricks := s.usedTherms.filterMap fun k =>
    let h := s.therm.therms.get k
    match s.railOf (k / 8), s.thermValue h with
    | some r, some v =>
      let w := s.steer.shares.getD r 0
      if h.throttle ∧ 0 < w then
        some (thermCode k, throttleFraction v (s.val P.thBrickThrottle) (s.val P.thBrickShutdown) floor * (s.rated r : Rat) / w)
      else none
    | _, _ => none
  match least (ths ++ bricks) with
  | some x => s.modTherm fun y => { y with limit := (clampI 0 3200000 (roundAway x.2)).toNat, limiting := x.1 }
  | none => s.modTherm fun y => { y with limit := 3200000, limiting := 0xFFFF }

/-- Die, board and busbar sensors of a sweep, with the samples of the six die and board sensors (R399). -/
def State.thermalSweep (s : State) (dies : List Int) : State :=
  let s := s.forAll (List.range 6) fun d s => match dies[d]? with
    | some x => s.dieSweep d x
    | none => s
  let s := s.forAll (List.range 32) fun i s => s.thsSweep i
  s.forceOutputs.thermalLimit

/-- `TH.STATE` (R407). -/
def State.thState (s : State) : Nat :=
  let th := fun (f : Therm → Bool) => s.usedTherms.any fun k => f (s.therm.therms.get k)
  let hs := fun (f : Ths → Bool) => (List.range 32).any fun i => decide (s.nat (P.thsSource i) ≠ 0) && f (s.therm.ths.get i)
  let ds := fun (f : Die → Bool) => (List.range 4).any fun d => f (s.therm.dies.get d)
  ofIdx ((List.range 14).filter fun i => match i with
    | 0 => th (·.warning) | 1 => th (·.throttle) | 2 => th (·.shutdown) | 3 => th (·.fast) | 4 => th (·.failed)
    | 5 => ds (·.warning) | 6 => ds (·.throttle) | 7 => ds (·.shutdown)
    | 8 => (s.therm.dies.get 4).warning || (s.therm.dies.get 5).warning
    | 9 => hs (·.warning) | 10 => hs (·.throttle) | 11 => hs (·.shutdown) | 12 => hs (·.value.isNone)
    | _ => s.therm.forced)

end Sys2Proof.Machine
end

