-- ==== Sys2Proof/Machine/SafetyFn.lean ====
section
/-! DEFINITION. The safety functions (chapter 13): Strongroom's lines, the safe inputs, overcurrent, the off-pulse tests, the
close and weld-check sequences, the controlled opening; and the host's acknowledgement of faults (chapter 14). -/

namespace Sys2Proof.Machine

open Sys2Proof

/-! ### Strongroom (R413, R414) -/

/-- The item of a coil path, or of one of its switches (R451). -/
def itemPath (p : Nat) (detail : Nat := 0xFF) : Nat := item 6 p detail

/-- The item of a safe input. -/
def itemInput (k : Nat) : Nat := item 5 k

/-- A safe input that is not unused (R418). -/
def State.inputUsed (s : State) (k : Nat) : Bool := decide (s.nat (P.safInputKind k) ≠ 0)

/-- Strongroom finds a demand of a safe input. -/
def State.strongDemand (s : State) : Bool := (List.range 8).any fun k => s.inputUsed k && (s.saf.strongIn.get k).demand

/-- Strongroom honours an ARM (R71, R413, R414). -/
def State.mayArm (s : State) : Bool :=
  s.power.safeSup && s.power.safeSupSettled && s.power.presence && !s.power.presenceHeld
    && (List.range 8).all (fun k => !s.inputUsed k || (s.saf.strongIn.get k).taken)
    && !s.strongDemand && decide (s.saf.sf4Strong = 0) && !s.saf.tripReq && !s.modes.latchStrong

/-- `TRIP_REQUEST` (R414): Strongroom opens and disarms every H-switch; a pulse under way has no result. -/
def execTripRequest (s : State) : Host.Outcome State Fault Refusal :=
  run (fun s => (s.abortPulse.openH).modSaf fun x => { x with tripReq := true }) s

/-- `ARM_REQUEST` (R414, R415): the H-switches of the mask are armed and closed, subject to R413. -/
def execArmRequest (mask : Nat) (s : State) : Host.Outcome State Fault Refusal :=
  if 2 ^ 20 ≤ mask then .fault .illFormed
  else run (fun s => s.when s.mayArm fun s => s.modSaf fun x => { x with hArmed := x.hArmed ||| mask, hClosed := x.hClosed ||| mask }) s

/-- `DISARM_REQUEST` (R414): every H-switch opens and is disarmed, after the P-switches read open. -/
def execDisarmRequest (s : State) : Host.Outcome State Fault Refusal :=
  run (fun s => s.when (decide (s.saf.pRead = 0)) State.openH) s

/-! ### Demands (R410) -/

/-- A demand or a trip: its source is raised, and every coil path opens, whether or not the source is present already. -/
def State.demand (s : State) (source item grade : Nat) (single : Bool := false) : State :=
  let known := (s.instOf source item).isSome || s.flt.broken.contains (source, item)
  let s := s.raise source item grade single
  s.when known fun s => s.openAll source

/-- A demand that Strongroom decides: the H-switches open without waiting for the Guard core (R410). -/
def State.strongDemands (s : State) (source item : Nat) : State :=
  let s := s.abortPulse.openH
  s.when (s.power.mainUp && !s.power.mainHeld) fun s => s.demand source item 4

/-- The demand of an input ends on both sides: its fault instances clear (R420, R461). -/
def State.inputCleared (s : State) (k : Nat) : State :=
  let gone := fun (source : Nat) (s : State) => match s.instOf source (itemInput k) with
    | some i => s.clearInst i
    | none => s
  let a := s.saf.strongIn.get k
  let b := s.saf.guardIn.get k
  let s := if a.demand || b.demand then s else gone (src 3 (10 + k)) s
  if a.discrepancy || b.discrepancy then s else gone (src 3 (20 + k)) s

/-- The view of input `k` on one side: Strongroom's or the Guard core's. -/
def State.inputView (s : State) (k : Nat) (guard : Bool) : InputView := if guard then s.saf.guardIn.get k else s.saf.strongIn.get k

/-- Change one side's view of an input. -/
def State.modInput (s : State) (k : Nat) (guard : Bool) (f : InputView → InputView) : State :=
  s.modSaf fun x => if guard then { x with guardIn := x.guardIn.modify k f } else { x with strongIn := x.strongIn.modify k f }

/-- A side of an input demands SF1. -/
def State.inputDemand (s : State) (k : Nat) (guard : Bool) : State :=
  if guard then s.demand (src 3 (10 + k)) (itemInput k) 4 else s.strongDemands (src 3 (10 + k)) (itemInput k)

/-- The two sides agree on the discrepancy of an input, which ends SI.28 (R421). -/
def State.sidesAgree (s : State) (k : Nat) : State :=
  if (s.saf.strongIn.get k).discrepancy = (s.saf.guardIn.get k).discrepancy then s.endFault (src 3 28) (itemInput k) else s

/-- A channel at its on level of R75 is closed; below it, between the levels too, it counts as open. -/
def channelClosed (mv : Int) : Bool := decide (15000 ≤ mv)

/-- `SAFE_INPUT_CHANGE` (R75, R419, R420): the channels of input `k` as one side reads them now, in mV. -/
def execSafeInputChange (k : Nat) (guard : Bool) (ch1 ch2 : Int) (s : State) : Host.Outcome State Fault Refusal :=
  if 8 ≤ k then .fault .illFormed
  else run (fun s =>
    let ch1 := channelClosed ch1
    let ch2 := channelClosed ch2
    -- the Guard core reads its inputs while the main domain is up; Strongroom from the 50 us filter on, before SAFE_SUP has settled (R71)
    if guard && (!s.power.mainUp || s.power.mainHeld || s.arch.guardStopped) then s
    else
      let s := s.modInput k guard fun v => { v with taken := true, ch1 := ch1, ch2 := ch2 }
      let s := s.when (bitOf (s.nat P.nsWakeMask) 2) fun s => s.abandonDormant 4
      if !s.inputUsed k then s
      else if ch1 && ch2 then
        s.modInput k guard fun v => { v with closedSeen := if v.discrepancy then v.openSeen else v.demand }
      else
        let s := s.modInput k guard fun v => { v with
          demand := true, closedSeen := false, openSeen := v.openSeen || (v.discrepancy && !ch1 && !ch2) }
        s.inputDemand k guard) s

/-- `DISCREPANCY_TIMEOUT` (R419): the channels of input `k` have disagreed for D on one side. -/
def execDiscrepancyTimeout (k : Nat) (guard : Bool) (s : State) : Host.Outcome State Fault Refusal :=
  if 8 ≤ k then .fault .illFormed
  else run (fun s =>
    let v := s.inputView k guard
    if s.inputUsed k && v.taken && v.ch1 != v.ch2 then
      let s := s.modInput k guard fun v => { v with demand := true, discrepancy := true, openSeen := false, closedSeen := false }
      let s := s.inputDemand k guard
      let s := s.when (s.power.mainUp && !s.power.mainHeld) fun s => s.raise (src 3 (20 + k)) (itemInput k) 4
      s.sidesAgree k
    else s) s

/-- Reset one side of an input (R420). -/
def State.resetInput (s : State) (k : Nat) (guard : Bool) : State :=
  let s := s.modInput k guard fun v => { v with demand := false, discrepancy := false, openSeen := false, closedSeen := false }
  (s.inputCleared k).sidesAgree k

/-- `AUTO_RESET_TIMEOUT` (R420): the channels have stayed closed together for D. -/
def execAutoResetTimeout (k : Nat) (guard : Bool) (s : State) : Host.Outcome State Fault Refusal :=
  if 8 ≤ k then .fault .illFormed
  else run (fun s =>
    let v := s.inputView k guard
    if v.demand && !v.discrepancy && v.closedSeen && v.ch1 && v.ch2 && bitOf (s.nat P.safInputAutoReset) k then s.resetInput k guard
    else s) s

/-- `SAFETY_DISAGREE_TIMEOUT` (R421). -/
def execSafetyDisagreeTimeout (k : Nat) (s : State) : Host.Outcome State Fault Refusal :=
  if 8 ≤ k then .fault .illFormed
  else run (fun s =>
    if (s.saf.strongIn.get k).discrepancy ≠ (s.saf.guardIn.get k).discrepancy then s.raise (src 3 28) (itemInput k) 3 else s) s

/-- `HALL_THRESHOLD_CROSSED` (R426): HALL[r] as read before and now, 0.1 mV. Strongroom compares the reading with V_th;
the Guard core demands when both readings, scaled and offset, lie at or beyond the trip current. -/
def execHallThresholdCrossed (r : Nat) (guard : Bool) (before now : Int) (s : State) : Host.Outcome State Fault Refusal :=
  if 8 ≤ r then .fault .illFormed
  else run (fun s =>
    let amps := fun (v : Int) => roundAway (((v : Rat) / 10 - (s.val (P.railHallOffset r) : Rat)) * s.real (P.railHallScale r))
    let beyond := fun (v : Int) => decide (s.nat (P.ocTripCurrent r) ≤ (amps v).natAbs)
    let above := if guard then beyond before && beyond now else decide (10 * s.saf.vth.getD r 0 ≤ now.natAbs)
    let s := s.modSaf fun x => if guard then { x with sf4Guard := putBit x.sf4Guard r above } else { x with sf4Strong := putBit x.sf4Strong r above }
    if above then
      if guard then s.demand (src 3 (40 + r)) (itemRail r) 4 else s.strongDemands (src 3 (40 + r)) (itemRail r)
    else if bitOf s.saf.sf4Guard r || bitOf s.saf.sf4Strong r then s else s.endFault (src 3 (40 + r)) (itemRail r)) s

/-! ### Off-pulse tests (R429 to R434) -/

/-- The item of the P- or H-switch of a path. -/
def itemSwitch (p : Nat) (h : Bool) : Nat := itemPath p (b2n h)

/-- `OFF_PULSE_START` (R429, R430): test `j` of the period. -/
def execOffPulseStart (j : Nat) (s : State) : Host.Outcome State Fault Refusal :=
  if 40 ≤ j then .fault .illFormed
  else run (fun s =>
    let p := j / 2
    let h := decide (j % 2 = 1)
    let closed := if h then bitOf s.saf.hClosed p else bitOf s.saf.coil p && bitOf s.saf.keep p
    if !s.power.mainUp || s.power.mainHeld || s.arch.guardStopped || s.saf.deferred || s.saf.pulse.isSome || !closed then s
    else
      let s := s.modSaf fun x => { x with
        pulse := some { path := p, hSwitch := h, chop := bitOf x.chopping p }, chopping := putBit x.chopping p false
        keep := if h then x.keep else putBit x.keep p false }
      s.when h fun s => s.emit (.strongroom 1 (2 ^ p))) s

/-- `PULSE_PERMIT` (R430): Strongroom opens the H-switch of the path for the pulse. -/
def execPulsePermit (p : Nat) (s : State) : Host.Outcome State Fault Refusal :=
  if 20 ≤ p then .fault .illFormed
  else run (fun s =>
    if bitOf s.saf.hClosed p && bitOf s.saf.hArmed p && s.power.mainUp && !s.power.mainHeld then
      s.modSaf fun x => { x with permit := some p, hClosed := putBit x.hClosed p false }
    else s) s

/-- `OFF_PULSE_OFF_CHECK` (R432): the read-back at W − 20 us, in mV below COIL_SUP or over the H-switch. -/
def execOffPulseOffCheck (mv : Int) (s : State) : Host.Outcome State Fault Refusal :=
  run (fun s => match s.saf.pulse with
    | some t =>
      if t.phase ≠ 0 then s
      else
        let off := if t.hSwitch then hReadsOpen mv else !pReadsOn mv
        let s := s.modSaf fun x => { x with pulse := some { t with phase := 1, failed := !off } }
        s.when (!off) fun s => s.raise (if t.hSwitch then src 3 31 else src 3 30) (itemSwitch t.path t.hSwitch) 3
    | none => s) s

/-- `OFF_PULSE_RESTORE` (R430): at W the switch is commanded on again, unless a demand won or the path has been opened. -/
def execOffPulseRestore (s : State) : Host.Outcome State Fault Refusal :=
  run (fun s => match s.saf.pulse with
    | some t =>
      if t.phase ≠ 1 then s
      else s.modSaf fun x => { x with
        pulse := some { t with phase := 2 }, permit := none
        keep := if !t.hSwitch && bitOf x.coil t.path then putBit x.keep t.path true else x.keep
        hClosed := if t.hSwitch && bitOf x.hArmed t.path then putBit x.hClosed t.path true else x.hClosed }
    | none => s) s

/-- `OFF_PULSE_ON_CHECK` (R432): the read-back at W + 50 us; a passed test is counted, and the chop resumes. -/
def execOffPulseOnCheck (mv : Int) (s : State) : Host.Outcome State Fault Refusal :=
  run (fun s => match s.saf.pulse with
    | some t =>
      let commanded := if t.hSwitch then bitOf s.saf.hArmed t.path else bitOf s.saf.coil t.path
      if t.phase ≠ 2 then s
      else if !commanded then s.modSaf fun x => { x with pulse := none }
      else
        let on := if t.hSwitch then hReadsClosed mv else pReadsOn mv
        let s := s.modSaf fun x => { x with
          pulse := none, chopping := if t.chop then putBit x.chopping t.path true else x.chopping
          pulseCount := if on && !t.failed then satU 32 (x.pulseCount + 1) else x.pulseCount }
        s.when (!on) fun s => s.demand (src 3 32) (itemSwitch t.path t.hSwitch) 4
    | none => s) s

/-- The switch of a path is commanded closed, and reads closed. -/
def State.switchState (s : State) (p : Nat) (h : Bool) : Bool × Bool :=
  if h then (bitOf s.saf.hClosed p, bitOf s.saf.hRead p) else (bitOf s.saf.coil p, bitOf s.saf.pRead p)

/-- The comparison of every switch with its command in a sweep (R433): runs of disagreement, and conditions that have ended. -/
def State.compareSwitches (s : State) : State :=
  s.forAll (List.range 40) fun j s =>
    let p := j % 20
    let h := decide (20 ≤ j)
    let (cmd, rd) := s.switchState p h
    let tested := match s.saf.pulse with | some t => decide (t.path = p) && t.hSwitch == h | none => false
    if tested then s
    else if cmd = rd then
      let s := s.modSaf fun x => { x with disagree := x.disagree.set j 0 }
      let s := s.endFault (if h then src 3 31 else src 3 30) (itemSwitch p h)
      s.endFault (src 3 32) (itemSwitch p h)
    else s.modSaf fun x => { x with disagree := x.disagree.modify j fun n => min 3 (n + 1) }

/-- `READBACK_DISAGREE_COUNT` (R433): three sweeps of disagreement of a switch. -/
def execReadbackDisagreeCount (p : Nat) (h : Bool) (s : State) : Host.Outcome State Fault Refusal :=
  if 20 ≤ p then .fault .illFormed
  else run (fun s =>
    let (cmd, rd) := s.switchState p h
    if s.saf.disagree.get (p + 20 * b2n h) < 3 ∨ cmd = rd then s
    else if cmd then s.demand (src 3 32) (itemSwitch p h) 4
    else s.raise (if h then src 3 31 else src 3 30) (itemSwitch p h) 3) s

/-- Off-pulse tests are deferred while the pair offset exceeds 1 ms or the twin link is down with the partner fitted (R434). -/
def State.deferTests (s : State) : State :=
  let d := s.fitted && s.flag P.twinPaired && (decide (1000000 < s.saf.pairOffset.natAbs) || !s.twin.linkUp)
  (s.modSaf fun x => { x with deferred := d }).condition (src 3 33) noItem 1 d

/-- `PAIR_OFFSET_MEASURE` (R434): an OFFSET exchange with the partner, once per second. -/
def execPairOffsetMeasure (s : State) : Host.Outcome State Fault Refusal :=
  run (fun s => (s.when (s.twin.linkUp && s.coreUp) fun s =>
    ((s.modTwin fun t => { t with offsetT1 := none }).emit (.twin 4 false [])).awaitStamp 2 4 s.secs).deferTests) s

/-! ### Coil commands (R412, R440) -/

/-- Command the P-switches of a mask of paths closed. -/
def State.closePaths (s : State) (mask : Nat) : State :=
  s.modSaf fun x => { x with coil := x.coil ||| mask, keep := x.keep ||| mask }

/-- Command the P-switches of a mask of paths open. -/
def State.openPaths (s : State) (mask : Nat) : State :=
  let off := fun (n : Nat) => (maskIdx 20 mask).foldl (fun n p => putBit n p false) n
  s.modSaf fun x => { x with coil := off x.coil, keep := off x.keep, chopping := off x.chopping }

/-- `ECONOMY_CHOP_START` (R440): SAF.PICKUP_TIME after path `p` was closed. -/
def execEconomyChopStart (p : Nat) (s : State) : Host.Outcome State Fault Refusal :=
  if 20 ≤ p then .fault .illFormed
  else run (fun s =>
    let testing := match s.saf.pulse with | some t => decide (t.path = p) | none => false
    if bitOf s.saf.coil p && bitOf s.saf.keep p && !testing && decide (s.nat P.safEconomyDuty < 1000) then
      s.modSaf fun x => { x with chopping := putBit x.chopping p true }
    else s) s

/-! ### Closing (R106, R435 to R439) -/

/-- Every present fault at G3 or above is an acknowledged weld finding, and there is one (R439). -/
def State.weldFindings (s : State) : Bool :=
  let l := s.flt.present.filter fun i => decide (3 ≤ i.grade)
  !l.isEmpty && l.all fun i => decide (i.source = src 3 50) && i.acked

/-- A bus voltage modulator reads below `SAF.WELD_VOLTAGE`. -/
def State.busLow (s : State) (v : Option Nat) : Bool := match v with
  | some x => decide (x < 1000 * s.nat P.safWeldVoltage)
  | none => false

/-- The first condition of a close that is not met (R106, then R435, in the order of the text; log 20). -/
def State.closeUnmet (s : State) : Option Nat :=
  if !s.active then some 1
  else if s.faultAt 3 && !s.weldFindings then some 2
  else if s.modes.latchStrong || s.modes.latchNight then some 3
  else if s.power.bankMilliVolt < 44000 then some 4
  else if s.fitted && (decide (s.setCrc ≠ s.par.partnerSetCrc) || decide (s.settingsCrc ≠ s.par.partnerSettingsCrc)) then some 5
  else if s.hasFault (src 3 3) || (s.hasFault (src 3 50) && !s.weldFindings) then some 6
  else if !s.busLow s.sec.bus0 then some 7
  else if !(s.sec.convFresh && decide (s.sec.convState ≤ 1)) then some 8
  else none

/-- The close or weld-check sequence starts: ARM for every path, the discharge contactor closes (R436). -/
def State.startClose (s : State) : State :=
  let weld := s.weldFindings
  let rails := ofIdx ((List.range 8).filter s.railUsed)
  let s := s.modSaf fun x => { x with
    close := some { weldOnly := weld, rails := rails }, tripReq := false, disarmDue := false, leftOpen := 0, coil := 0, keep := 0, chopping := 0 }
  let s := s.modPower fun p => { p with presenceHeld := false }
  let s := (s.modProf fun p => { p with tripFrame := false, stopCause := 0 }).abandonDormant 0
  (s.closePaths (2 ^ 19)).emit (.strongroom 0x3C5A 0xFFFFF)

/-- A close asked for in M4: the unmet condition, if any (R106, R435). SI.53 where the converter link is charged. -/
def State.tryClose (s : State) : Option Nat × State :=
  if s.saf.close.isSome then (none, s)
  else match s.closeUnmet with
    | some c => (some c, s.when (decide (c = 7)) fun s => s.raise (src 3 53) noItem 1 (single := true))
    | none => (none, s.startClose)

/-- A weld finding on a path (R436, R438, R439): SI.50 at G4, kept in the Lockout log. In a weld-check sequence it trips
nothing. -/
def State.weldFinding (s : State) (p : Nat) : State :=
  let known := (s.instOf (src 3 50) (itemPath p)).isSome
  let weld := match s.saf.close with | some c => c.weldOnly | none => false
  let s := s.modSaf fun x => { x with close := x.close.map fun c => { c with failed := putBit c.failed p true } }
  let s := s.raise (src 3 50) (itemPath p) 4 (atStart := weld)
  if known then s
  else
    let e := s.lockEntry 2 (src 3 50) (itemPath p)
    (s.modVault fun v => { v with lockouts := v.lockouts ++ [e] }).queueVault 1

/-- The rails that a finding at the poles names (R436): those that carry the current, else those at the bus voltage, else all. -/
def State.findingRails (s : State) (c : CloseSeq) : List Nat :=
  let near := (maskIdx 8 c.rails).filter fun r => match s.sec.bus1 with
    | some b => decide (((s.rails.get r).voltage - b) + (b - (s.rails.get r).voltage) ≤ 1000 * s.nat P.safRailMatch)
    | none => false
  if c.hot ≠ 0 then maskIdx 8 c.hot
  else if near.isEmpty then maskIdx 8 c.rails else near

/-- The end of a check on the poles: findings on the poles that `poles` gives for a rail. -/
def State.poleCheck (s : State) (c : CloseSeq) (poles : Nat → List Nat) : State :=
  if c.hot ≠ 0 ∨ c.high then s.forAll ((s.findingRails c).flatMap poles) fun p s => s.weldFinding p else s

/-- The end of a check on a main contactor. -/
def State.mainCheck (s : State) (c : CloseSeq) (p : Nat) : State := if c.high then s.weldFinding p else s

/-- Go to a stage of the sequence, unless a check has ended it. -/
def State.stage (s : State) (n : Nat) (f : State → State) : State :=
  match s.saf.close with
  | some c => f (s.modSaf fun x => { x with close := some { c with stage := n, hot := 0, high := false } })
  | none => s

/-- The mask of the negative (1) or positive (0) poles of a mask of rails. -/
def poleMask (rails side : Nat) : Nat := ofIdx ((maskIdx 8 rails).map fun r => 2 * r + side)

/-- The weld-check sequence ends (R439): every path opened, DISARM, CLOSE_RESULT failed with cause 0; the findings whose
paths passed every check clear, each with a Lockout log entry of kind 3. -/
def State.weldEnd (s : State) (c : CloseSeq) : State :=
  let s := s.failClose 0
  let checked := poleMask c.rails 0 ||| poleMask c.rails 1 ||| 2 ^ 16 ||| 2 ^ 17
  s.forAll (s.flt.present.filter fun i => decide (i.source = src 3 50) && !i.signal) fun i s =>
    let p := i.item % 65536
    if bitOf checked p && !bitOf c.failed p then
      let e := s.lockEntry 3 (src 3 50) i.item
      let s := (s.modVault fun v => { v with lockouts := v.lockouts ++ [e] }).queueVault 1
      s.clearInst i
    else s

/-- The rails on the string bus (R436 at 1,000 ms): one too far from the median of the others stays off. -/
def State.matchRails (s : State) (c : CloseSeq) : State :=
  let l := maskIdx 8 c.rails
  let m := median (l.map fun r => (s.rails.get r).voltage)
  let far := l.filter fun r =>
    let d : Rat := ((s.rails.get r).voltage : Rat) - m
    decide ((1000 * s.nat P.safRailMatch : Nat) < (if d < 0 then -d else d))
  let stay := l.filter fun r => !far.contains r
  let s := s.modSaf fun x => { x with
    leftOpen := ofIdx far, close := some { c with stage := 8, rails := ofIdx stay, hot := 0, high := false } }
  let s := (s.openPaths (poleMask (ofIdx far) 0)).closePaths (poleMask (ofIdx stay) 1)
  s.forAll far fun r s => s.raise (src 3 52) (itemRail r) 1 (single := true)

/-- The row of the sequence that is due (R436). -/
def State.closeStep (s : State) (c : CloseSeq) : State :=
  match c.stage with
  | 0 =>
    let arm := match s.twin.partner with | some q => q.armMask | none => 0
    let miss := (List.range 20).filter fun p => !bitOf s.saf.hRead p || (s.fitted && !bitOf arm p)
    if miss.isEmpty then s.stage 1 id
    else (s.forAll miss fun p s => s.raise (src 3 31) (itemSwitch p true) 3).failClose (src 3 31)
  | 1 =>
    let s := s.poleCheck { c with hot := 0, high := !s.busLow s.sec.bus1 } fun r => [2 * r, 2 * r + 1]
    s.stage 2 fun s => s.closePaths (poleMask c.rails 1)
  | 2 => s.stage 3 id
  | 3 => (s.poleCheck c fun r => [2 * r]).stage 4 fun s => s.openPaths (poleMask c.rails 1)
  | 4 => s.stage 5 fun s => s.closePaths (poleMask c.rails 0)
  | 5 => s.stage 6 id
  | 6 => (s.poleCheck c fun r => [2 * r + 1]).stage 7 fun s => s.openPaths (2 ^ 19)
  | 7 => s.matchRails c
  | 8 => s.stage 9 fun s => s.closePaths (2 ^ 18)
  | 9 => s.stage 10 id
  | 10 => (s.mainCheck c 17).stage 11 fun s => s.openPaths (2 ^ 18)
  | 11 => s.stage 12 fun s => s.closePaths (2 ^ 17)
  | 12 => s.stage 13 id
  | 13 =>
    let s := s.mainCheck c 16
    match s.saf.close with
    | some d => if d.weldOnly then s.weldEnd d else s.stage 14 fun s => s.closePaths (2 ^ 18)
    | none => s
  | 15 => s.stage 16 fun s => s.openPaths (2 ^ 18)
  | 16 =>
    if bitOf s.saf.pRead 18 then s
    else
      let s := s.modSaf fun x => { x with close := none }
      (s.setMode .m5 0).slip 0x000E [(1, 0), (2, 0)]
  | _ => s

/-- `CLOSE_SEQUENCE_STEP` (R436). -/
def execCloseSequenceStep (s : State) : Host.Outcome State Fault Refusal :=
  run (fun s => match s.saf.close with
    | some c => s.closeStep c
    | none => s) s

/-- What a sweep of a check window finds, on its 1 ms means (R436). -/
def State.closeSweep (s : State) : State :=
  match s.saf.close with
  | some c =>
    let hot := ofIdx ((maskIdx 8 c.rails).filter fun r => decide (1000 * s.nat P.safWeldCurrent ≤ (s.rails.get r).current.natAbs))
    let c := if c.stage = 3 ∨ c.stage = 6 then { c with hot := c.hot ||| hot, high := c.high || !s.busLow s.sec.bus1 }
      else if c.stage = 10 ∨ c.stage = 13 then { c with high := c.high || !s.busLow s.sec.bus0 } else c
    s.modSaf fun x => { x with close := some c }
  | none => s

/-- The link is at or above `SAF.PRECHARGE_RATIO` × bus. -/
def State.precharged (s : State) : Bool := match s.sec.bus0, s.sec.bus1 with
  | some l, some b => decide (s.nat P.safPrechargeRatio * b ≤ 10000 * l)
  | _, _ => false

/-- `PRECHARGE_REACHED` (R436): the link has reached its ratio of the bus, and main positive closes. -/
def execPrechargeReached (s : State) : Host.Outcome State Fault Refusal :=
  run (fun s => match s.saf.close with
    | some c => if c.stage = 14 && s.precharged then s.stage 15 fun s => s.closePaths (2 ^ 16) else s
    | none => s) s

/-- `PRECHARGE_TIMEOUT` (R436): SI.51, and the sequence fails. -/
def execPrechargeTimeout (s : State) : Host.Outcome State Fault Refusal :=
  run (fun s => match s.saf.close with
    | some c => if c.stage = 14 then (s.raise (src 3 51) (itemPath 18) 3).failClose (src 3 51) else s
    | none => s) s

/-! ### Controlled opening (R443 to R445) -/

/-- `OPEN_WAIT_END` (R443): the main contactors open. -/
def execOpenWaitEnd (s : State) : Host.Outcome State Fault Refusal :=
  run (fun s =>
    if s.prof.openWait then
      let s := s.modProf fun p => { p with openWait := false }
      if s.twin.orphanStop then
        -- an orphaned standby opens every P-switch and disarms its Strongroom (R490)
        let s := ((s.openPaths 0xFFFFF).emit (.strongroom 0x5AA5 0)).setMode .m4 (src 7 12)
        -- bus 0 goes back to bus monitoring (R538)
        let s := s.modBus fun b => { b with can := b.can.modify 0 fun c => { c.released with orphan := false } }
        (s.modProf fun p => { p with stopRamp := none, stopCause := 0 }).modTwin fun t => { t with orphanStop := false }
      else
      (s.modSaf fun x => { x with opening := some 0 }).openPaths (2 ^ 16 + 2 ^ 17)
    else s) s

/-- After a controlled opening DISARM is sent once every P-switch reads open (R445). -/
def State.disarmStep (s : State) : State :=
  if s.saf.disarmDue && decide (s.saf.pRead = 0) then (s.modSaf fun x => { x with disarmDue := false }).emit (.strongroom 0x5AA5 0)
  else s

/-- `CONTROLLED_OPENING_STEP` (R445): the poles, the discharge contactor, the end in M4 with DISARM due. -/
def execControlledOpeningStep (s : State) : Host.Outcome State Fault Refusal :=
  run (fun s => match s.saf.opening with
    | some 0 => (s.modSaf fun x => { x with opening := some 1 }).openPaths 0xFFFF
    | some 1 => (s.modSaf fun x => { x with opening := some 2 }).closePaths (2 ^ 19)
    | some _ =>
      let s := (s.modSaf fun x => { x with opening := none, leftOpen := 0, disarmDue := true }).openPaths 0xFFFFF
      let s := s.when s.onString fun s => s.setMode .m4 s.prof.stopCause
      s.modProf fun p => { p with stopRamp := none, stopCause := 0 }
    | none => s) s

/-- `STANDBY_FOLLOW_TIMEOUT` (R444): the standby still holds path `p` closed; the opening becomes a trip. -/
def execStandbyFollowTimeout (p : Nat) (s : State) : Host.Outcome State Fault Refusal :=
  if 20 ≤ p then .fault .illFormed
  else run (fun s =>
    let holds := match s.twin.partner with | some q => bitOf q.coil p | none => false
    if s.active && s.fitted && holds && !bitOf s.saf.coil p then
      (s.raise (src 3 34) (itemPath p) 2 (single := true)).openAll (src 3 34)
    else s) s

/-- Both string main contactors read open after a trip or a demand: M5 or M6 ends in M4 (R93). -/
def State.mainsOpen (s : State) : State :=
  if s.onString && s.saf.opening.isNone && !s.pathClosed 16 && !s.pathClosed 17 && !bitOf s.saf.coil 16 && !bitOf s.saf.coil 17 then
    let s := s.setMode .m4 s.prof.stopCause
    s.modProf fun p => { p with stopRamp := none, stopCause := 0, openWait := false }
  else s

/-! ### Requests of the program (R446, R567) -/

/-- Answer a Guard request: honoured, or refused with a reason of R371. -/
def State.guardAnswer (s : State) (bit : Nat) (refused : Option Nat) : State :=
  let a := match refused with | some c => (bit, 2, c) | none => (bit, 1, 0)
  s.modPrg fun p => { p with
    guardPlaced := p.guardPlaced.filter (· ≠ bit), guardAnswers := (p.guardAnswers.filter fun x => x.1 ≠ bit) ++ [a] }

/-- The Guard core decides a placed CLOSE. -/
def State.programClose (s : State) : State :=
  if s.prg.stopSeen || s.prg.guardPlaced.contains 1 || s.saf.opening.isSome || s.prof.openWait then s.guardAnswer 0 (some 3)
  else if s.modes.mode ≠ .m4 then s.guardAnswer 0 (some 1)
  else if s.weldFindings && s.saf.close.isNone then s.guardAnswer 0 (some 6)
  else
    let (c, s) := s.tryClose
    s.guardAnswer 0 (c.map fun n => if n = 1 then 2 else 6)

/-- The Guard core decides a placed STOP. -/
def State.programStop (s : State) : State :=
  let s := s.modPrg fun p => { p with stopSeen := true }
  if s.onString then (s.stopAny 0).guardAnswer 1 none else s.guardAnswer 1 (some 1)

/-- |rail voltage − bus| is at most `SAF.RAIL_MATCH`. -/
def State.railMatches (s : State) (r : Nat) : Bool := match s.sec.bus1 with
  | some b => decide (((s.rails.get r).voltage - b) + (b - (s.rails.get r).voltage) ≤ 1000 * s.nat P.safRailMatch)
  | none => false

/-- A demand of any function is present (R448). -/
def State.anyDemand (s : State) : Bool :=
  let cond := fun (source : Nat) => s.flt.present.any fun i => decide (i.source = source) && i.cond
  s.strongDemand || (List.range 8).any (fun k => s.inputUsed k && (s.saf.guardIn.get k).demand)
    || (List.range 5).any (fun j => cond (src 3 (60 + j))) || cond (src 2 3)
    || decide (s.saf.sf4Strong ≠ 0) || decide (s.saf.sf4Guard ≠ 0)

/-- The Guard core decides a placed RAIL_CONNECT[r]. -/
def State.programConnect (s : State) (r : Nat) : State :=
  if s.modes.mode ≠ .m5 then s.guardAnswer (8 + r) (some 1)
  else if !bitOf s.saf.leftOpen r then s.guardAnswer (8 + r) (some 4)
  else if s.sec.bus1.isNone then s.guardAnswer (8 + r) (some 5)
  else if !s.railMatches r || s.anyDemand then s.guardAnswer (8 + r) (some 6)
  else
    let s := s.modSaf fun x => { x with leftOpen := putBit x.leftOpen r false }
    (s.closePaths (poleMask (2 ^ r) 0 ||| poleMask (2 ^ r) 1)).guardAnswer (8 + r) none

/-- The Guard core decides a placed RAIL_DISCONNECT[r]. -/
def State.programDisconnect (s : State) (r : Nat) : State :=
  if s.modes.mode ≠ .m5 then s.guardAnswer (16 + r) (some 1)
  else if !(s.railsInUse.any fun q => q != r) || s.steer.zeroRun.getD r 0 < 1000 then s.guardAnswer (16 + r) (some 4)
  else (s.openPaths (poleMask (2 ^ r) 0 ||| poleMask (2 ^ r) 1)).guardAnswer (16 + r) none

/-- The Guard core decides a placed request by its bit. -/
def State.decideGuard (s : State) (bit : Nat) : State :=
  if !s.prg.guardPlaced.contains bit then s
  else if bit = 0 then s.programClose
  else if bit = 1 then s.programStop
  else if bit < 16 then s.programConnect (bit - 8)
  else s.programDisconnect (bit - 16)

/-- `PROGRAM_CLOSE_REQUEST` (R446): decides the CLOSE that the program has placed. -/
def execProgramCloseRequest (s : State) : Host.Outcome State Fault Refusal := run (fun s => s.decideGuard 0) s

/-- `PROGRAM_STOP_REQUEST` (R446). -/
def execProgramStopRequest (s : State) : Host.Outcome State Fault Refusal := run (fun s => s.decideGuard 1) s

/-- `RAIL_CONNECT` (R446). -/
def execRailConnect (r : Nat) (s : State) : Host.Outcome State Fault Refusal :=
  if 8 ≤ r then .fault .illFormed else run (fun s => s.decideGuard (8 + r)) s

/-- `RAIL_DISCONNECT` (R446). -/
def execRailDisconnect (r : Nat) (s : State) : Host.Outcome State Fault Refusal :=
  if 8 ≤ r then .fault .illFormed else run (fun s => s.decideGuard (16 + r)) s

/-! ### Commands of the host (R106, R379, R442, R460) -/

def cmdClose : Cmd := { code := 0x0203, kind := .x, cls := 1 }
def cmdStop : Cmd := { code := 0x0204, kind := .x, cls := 0 }
def cmdTrip : Cmd := { code := 0x0205, kind := .x, cls := 0 }
def cmdFaultAck : Cmd := { code := 0x0206, kind := .x, cls := 1 }

/-- CLOSE (R106, R435): refused outside M4, or with the first unmet condition. -/
def bodyClose (s : State) : Answer :=
  if s.modes.mode ≠ .m4 then (some s.notInMode, s)
  else match s.tryClose with
    | (some c, t) => (some (t.notInMode c), t)
    | (none, t) => (some done, t)

/-- `CLOSE` (R106). -/
def execClose (f : Frame) (s : State) : Host.Outcome State Fault Refusal :=
  run (fun s => s.wicket f cmdClose (.close f) (fixedLen f 0) bodyClose) s

/-- STOP (R157, R379): the stop ramp, or the end of a close sequence (R437). -/
def bodyStop (s : State) : Answer := (some done, (s.stopAny 0).modPrg fun p => { p with stopSeen := true })

/-- `STOP` (R379). -/
def execStop (f : Frame) (s : State) : Host.Outcome State Fault Refusal :=
  run (fun s => s.wicket f cmdStop (.stop f) (fixedLen f 0) bodyStop) s

/-- TRIP (R442): SI.08 at G4, every coil path opened, the host slot in the Daybook (R157). -/
def bodyTrip (f : Frame) (s : State) : Answer := (some done, (s.demand (src 3 8) noItem 4 (single := true)).day 0x0007 f.host)

/-- `TRIP` (R442). -/
def execTrip (f : Frame) (s : State) : Host.Outcome State Fault Refusal :=
  run (fun s => s.wicket f cmdTrip (.trip f) (fixedLen f 0) (bodyTrip f)) s

/-- What an acknowledgement resets and sends: the inputs whose order of R420 has been met, ALARM_CLEAR (R261). -/
def State.ackEffects (s : State) (source : Nat) : State :=
  let hit := fun (n : Nat) => decide (source = 0xFFFF) || decide (source = n)
  let s := s.forAll (List.range 8) fun k s => s.forAll [false, true] fun g s =>
    let v := s.inputView k g
    let closed := v.closedSeen && v.ch1 && v.ch2
    if v.discrepancy then (if closed && v.openSeen && hit (src 3 (20 + k)) then s.resetInput k g else s)
    else if v.demand && closed && hit (src 3 (10 + k)) then s.resetInput k g else s
  s.forAll s.usedLinks fun n s => s.forAll (List.range (s.monCount n)) fun p s => s.alarmClear n p

/-- FAULT_ACK at its sweep boundary (R459, R460): the instances acknowledged anew; it is forwarded to the partner (R463). -/
def State.applyAck (s : State) (source : Nat) : Reply × State :=
  let (n, s) := s.ackFaults source
  let s := s.ackEffects source
  let s := s.when s.active fun s => s.modTwin fun t => { t with ackOut := t.ackOut ++ [source] }
  (done [(2, satU 16 n)], s)

/-- FAULT_ACK carried out: it is applied and answered at the next sweep boundary (R459). -/
def bodyFaultAck (f : Frame) (source : Nat) (s : State) : Answer :=
  (none, s.modWk fun w => { w with writes := w.writes ++ [{ frame := f, code := 0x0206, ack := some source }] })

/-- `FAULT_ACK` (R460). -/
def execFaultAck (f : Frame) (source : Nat) (s : State) : Host.Outcome State Fault Refusal :=
  run (fun s => s.wicket f cmdFaultAck (.faultAck f source) (fixedLen f 2) (bodyFaultAck f source)) s

/-! ### Broken signals (R453) -/

/-- `BROKEN_SIGNAL` (R453): an instance of its own at G2; the source's own instance keeps its state. -/
def execBrokenSignal (source item : Nat) (s : State) : Host.Outcome State Fault Refusal :=
  run (fun s =>
    let s := s.modFlt fun x => { x with
      signalErrors := satU 32 (x.signalErrors + 1)
      broken := if x.broken.contains (source, item) then x.broken else x.broken ++ [(source, item)] }
    s.raise source item 2 (signal := true)) s

/-- `SIGNAL_INTEGRITY_RESTORED` (R453). -/
def execSignalIntegrityRestored (source item : Nat) (s : State) : Host.Outcome State Fault Refusal :=
  run (fun s =>
    let s := s.modFlt fun x => { x with broken := x.broken.filter fun e => e ≠ (source, item) }
    s.endFault source item (signal := true)) s

/-- `SAF.STATE` (R448). -/
def State.safState (s : State) : Nat :=
  let cond := fun (source : Nat) => s.flt.present.any fun i => decide (i.source = source) && i.cond
  let sf1 := s.strongDemand || (List.range 8).any (fun k => s.inputUsed k && (s.saf.guardIn.get k).demand)
  let sf2 := (List.range 5).any fun j => cond (src 3 (60 + j))
  let sf3 := cond (src 2 3)
  let sf4 := decide (s.saf.sf4Strong ≠ 0) || decide (s.saf.sf4Guard ≠ 0)
  b2n s.anyDemand + 2 * b2n sf1 + 4 * b2n sf2 + 8 * b2n sf3 + 16 * b2n sf4 + 32 * b2n (s.hasFault (src 3 50))
    + 64 * b2n s.saf.opening.isSome + 128 * b2n s.saf.close.isSome + 256 * b2n (decide (s.saf.hArmed ≠ 0))
    + 512 * b2n (s.modes.latchStrong || s.modes.latchNight) + 1024 * b2n (s.hasFault (src 3 3)) + 2048 * b2n s.saf.deferred

end Sys2Proof.Machine
end

