-- ==== Sys2Proof/Machine/Modes.lean ====
section
/-! DEFINITION. Mode requests, restarts, the Dormant entry and Night Safe (chapter 03). -/

namespace Sys2Proof.Machine

open Sys2Proof

/-- The first condition of a Dormant request that is not met, in the order of R110. -/
def State.dormantUnmet (s : State) : Option Nat :=
  let standbyReady := match s.twin.partner with | some q => q.dormantReady | none => false
  let idleVault := s.vault.writing.isNone && s.vault.yielded.isNone && decide (s.vault.queued = 0) && s.vault.lockouts.isEmpty
  if s.modes.mode ≠ .m4 then some 1
  else if (List.range 20).any fun p => s.pathClosed p || bitOf s.saf.coil p then some 2
  else if s.faultAt 2 then some 3
  else if s.power.kaMilliVolt < 10500 ∨ !s.power.kaPresent then some 4
  else if !s.power.safeSup then some 5
  else if s.upd.holder.isSome || decide (s.survey.state ≠ 0) then some 6
  else if !idleVault || decide (s.power.bankMilliVolt < 44000) then some 7
  else if s.active && s.fitted && s.flag P.twinPaired && !standbyReady then some 8
  else none

/-- Night Safe is loaded with the wake settings, Hall scales and offsets (R111). -/
def State.loadNight (s : State) : State :=
  s.modNight fun n => { n with
    rails := (List.range 8).foldl (fun (t : Table NsRail) r =>
      if s.railUsed r then t.set r { scale := s.val (P.railHallScale r), offset := s.val (P.railHallOffset r) } else t) []
    wakeMask := s.nat P.nsWakeMask, wakeCurrent := s.nat P.nsWakeCurrent, wakeCount := s.nat P.nsWakeCurrentCount
    inputFilter := s.nat P.nsInputFilter
    alarmRun := [], inputRun := 0, kaLow := 0, buttonRun := 0, heldWake := none }

/-- A Dormant request, accepted or refused with its first unmet condition (R110, R111); cause 0 wicket, 1 section order,
2 idle timer. One that arrives while an entry runs changes nothing. -/
def State.requestDormant (s : State) (cause : Nat) : Option Nat × State :=
  if s.modes.dormantEntry then (none, s)
  else match s.dormantUnmet with
    | some c => (some c, s)
    | none =>
      -- balancing stops, pair targets with it (R111, R251, R258)
      let s := s.modModes fun m => { m with
        dormantEntry := true, dormantSweeps := 0, dormantSealed := false, dormantChecked := false, stopDue := true }
      (none, (s.loadNight.slip 0x0011 [(2, cause)]).writeBack)

/-- `DORMANT_IDLE_EXPIRY` (R110). -/
def execDormantIdleExpiry (s : State) : Host.Outcome State Fault Refusal :=
  run (fun s =>
    if s.nat P.modeDormantIdle = 0 ∨ s.twin.role = .standby ∨ s.twin.role = .coldStandby then s else (s.requestDormant 2).2) s

/-- The states of the 16 safe input channels as Strongroom has them: bits 2k and 2k + 1 (R447). -/
def State.inputState (s : State) : Nat :=
  ofIdx ((List.range 16).filter fun j => let v := s.saf.strongIn.get (j / 2); if j % 2 = 0 then v.ch1 else v.ch2)

/-- `DORMANT_HANDOVER` (R111, R95): Night Safe takes charge at the next millisecond boundary, and the main domain goes off. A
standby hands over at the same boundary, when its own conditions hold and the active module is in its entry. -/
def execDormantHandover (s : State) : Host.Outcome State Fault Refusal :=
  run (fun s =>
    let handing := match s.twin.partner with | some q => q.handing | none => false
    let standby := decide (s.twin.role = .standby) && s.dormantUnmet.isNone && handing
    if s.modes.mode = .m4 ∧ s.modes.restartPending.isNone ∧ s.saf.close.isNone ∧
        ((s.modes.dormantEntry ∧ s.modes.dormantSealed) ∨ standby) then
      let s := s.when standby State.loadNight
      let s := s.modTime fun t => { t with ns := (t.ns / 1000000 + 1) * 1000000 }
      let s := (s.setMode .m0 0).setPower 3
      let s := s.modModes fun m => { m with dormantEntry := false, dormantSealed := false, housekeeping := false }
      let s := s.mainReset
      let s := s.modPower fun p => { p with mainUp := false }
      s.modNight fun n => { n with
        rails := n.rails.mapVals fun y => { y with overCount := 0 }, inCharge := true, tookAt := s.time.ns, timeCopy := s.time.ns, timeValid := true, inputBase := s.inputState
        safeSupWas := s.power.safeSup }
    else s) s

/-- A wake cause found in M0, or one that ends a Dormant entry (R112, R94). -/
def State.wakeCause (s : State) (causes : Nat) : State :=
  if causes = 0 then s
  else if s.night.inCharge then (if s.night.heldWake.isSome then s else s.wake causes)
  else s.abandonDormant causes

/-- The run of a sampled condition. -/
def runOf (c : Bool) (n : Nat) : Nat := if c then n + 1 else 0

/-- Strongroom's conversion of a Hall input at 10 mV resolution (R113): v in 0.1 mV; the fraction of a step is dropped (log 179). -/
def hallStep (v : Int) : Int := v.tdiv 100 * 100

/-- The current of a Hall sample of rail `r` by the scales loaded at the entry, mA (R113, R115): v in 0.1 mV. -/
def NsRail.current (x : NsRail) (v : Int) : Int :=
  roundAway (((hallStep v : Rat) / 10 - (x.offset : Rat)) * f32Val (BitVec.ofInt 32 x.scale))

/-- `NIGHT_SAFE_SAMPLE` (R112, R114): the wake quantities of one sample period. -/
def execNightSafeSample (x : NightInputs) (s : State) : Host.Outcome State Fault Refusal :=
  run (fun s =>
    if !s.night.inCharge then s
    else
      let s := s.modTime fun t => { t with ns := (t.ns / 10000000 + 1) * 10000000 }
      let n := s.night
      let above := fun (r : Nat) => x.tenHz && x.safeSup && decide (n.wakeCurrent < ((n.rails.get r).current (x.hall.getD r 0)).natAbs)
      let rails := if x.tenHz then (List.range 8).foldl (fun (t : Table NsRail) r =>
          if s.railUsed r then t.modify r fun y => { y with overCount := runOf (above r) y.overCount } else t) n.rails else n.rails
      let alarmRun := s.usedLinks.foldl (fun (t : Table Nat) l => t.set l (min 3 (runOf (x.alarms.contains l) (n.alarmRun.get l)))) []
      let inputRun := if x.inputs = n.inputBase then 0 else n.inputRun + 10
      let kaLow := if x.tenHz then runOf (decide (x.kaMilliVolt < 9500)) n.kaLow else n.kaLow
      let buttonRun := if x.button then n.buttonRun + 10 else 0
      let found := ofIdx ((List.range 8).filter fun i => match i with
        | 0 => (List.range 8).any fun r => s.railUsed r && decide (n.wakeCount ≤ (rails.get r).overCount)
        | 1 => s.usedLinks.any fun l => decide (3 ≤ alarmRun.get l)
        | 2 => decide (n.inputFilter ≤ inputRun) && decide (0 < inputRun)
        | 5 => decide (10 ≤ kaLow)
        | 6 => x.safeSup != n.safeSupWas
        | 7 => decide (50 ≤ buttonRun)
        | _ => false)
      let s := s.modNight fun n => { n with
        rails := rails, alarmRun := alarmRun, inputRun := inputRun, kaLow := kaLow, buttonRun := buttonRun
        safeSupWas := x.safeSup, timeCopy := s.time.ns }
      let s := s.when x.tenHz fun s => s.modPower fun p => { p with kaMilliVolt := x.kaMilliVolt }
      -- bits 6, 5, 4 and 1 are always enabled
      s.wakeCause (found &&& (n.wakeMask ||| 0x72))) s

/-- `NIGHT_SAFE_COUNT` (R115): each assigned rail's Hall sample (0.1 mV) × 0.1 s; without SAFE_SUP a count gap. -/
def execNightSafeCount (hall : List Int) (s : State) : Host.Outcome State Fault Refusal :=
  run (fun s =>
    if !s.night.inCharge then s
    else s.forAll ((List.range 8).filter s.railUsed) fun r s =>
      s.modNight fun n => { n with rails := n.rails.modify r fun y =>
        if s.power.safeSup then
          let i := y.current (hall.getD r 0)
          { y with charge := wrapI 64 (y.charge + divNear i 10), samples := y.samples + 1, peak := max y.peak i.natAbs }
        else { y with gap := y.gap + 1 } }) s

/-- `HOUSEKEEPING_TIMER` (R112). -/
def execHousekeepingTimer (s : State) : Host.Outcome State Fault Refusal :=
  run (fun s => s.when s.night.inCharge fun s => s.wakeCause 0x10) s

/-- `CAN_WAKE_UP_PATTERN` (R112): on bus `b` of a fitted controller. -/
def execCanWakeUpPattern (b : Nat) (s : State) : Host.Outcome State Fault Refusal :=
  if 2 ≤ b then .fault .illFormed
  else run (fun s => if b < canCount s.ident.variant ∧ (bitOf s.night.wakeMask 3 ∨ !s.night.inCharge) then s.wakeCause 8 else s) s

/-- `HOUSEKEEPING_STAY_EXPIRY` (R118): M0 again, unless something holds the module in M4. -/
def execHousekeepingStayExpiry (s : State) : Host.Outcome State Fault Refusal :=
  run (fun s =>
    if !s.modes.housekeeping || decide (s.modes.mode ≠ .m4) then s
    else
      let s := s.modModes fun m => { m with housekeeping := false }
      let held := s.faultAt 2 || (List.range 4).any (fun i => (s.slot i).session.isSome)
        || s.prof.pendingOrder.isSome || !s.prof.waiting.isEmpty || s.upd.holder.isSome
      -- a standby never starts a Dormant entry itself (R95)
      if held ∨ s.twin.role = .standby ∨ s.twin.role = .coldStandby then s else (s.requestDormant 2).2) s

/-- `HOLD_TIMEOUT` (R108): a controlled stop into M4. -/
def execHoldTimeout (s : State) : Host.Outcome State Fault Refusal :=
  run (fun s => if s.modes.mode = .m6 ∧ s.active then s.startStop 0 else s) s

/-! ### Commands -/

def cmdModeRequest : Cmd := { code := 0x0201, kind := .x, cls := 1 }
def cmdRestart : Cmd := { code := 0x0202, kind := .a, cls := 1 }

/-- MODE_REQUEST (R93, R110): M3 from M4 with every coil path open, M0 by a Dormant request; any other is refused (log 21). -/
def bodyModeRequest (target : Nat) (s : State) : Answer :=
  if target ≠ 0 ∧ target ≠ 3 ∧ target ≠ 4 then (some (fieldRange 0 none32 none32), s)
  else if s.modes.mode ≠ .m4 ∨ target = 4 then (some (s.notInMode 1), s)
  else if target = 3 then
    if (List.range 20).any fun p => s.pathClosed p || bitOf s.saf.coil p then (some (s.notInMode 2), s)
    else (some done, (s.abandonDormant 0).setMode .m3 0)
  else match s.requestDormant 0 with
    | (some c, t) => (some (t.notInMode c), t)
    | (none, t) => (some done, t)

/-- `MODE_REQUEST` (R93). -/
def execModeRequest (f : Frame) (target : Nat) (s : State) : Host.Outcome State Fault Refusal :=
  -- a Dormant request names its first unmet condition in every mode that answers (R110)
  run (fun s => s.wicket f cmdModeRequest (.modeRequest f target) (fixedLen f 1) (bodyModeRequest target)
    (also := decide (target = 0))) s

/-- RESTART (R157, R298): the reply, then the restart at the next sweep boundary; a cold one writes back the learned values
first, where the mode permits the write. -/
def bodyRestart (f : Frame) (kind : Nat) (s : State) : Answer :=
  if s.onString then (some s.notInMode, s)
  else if 1 < kind then (some (fieldRange 0 0 1), s)
  else if kind = 1 ∧ s.modes.mode.runs ∧ s.trs.state ≠ 2 then
    (none, (s.modWk fun w => { w with restarting := some f }).writeBack)
  else (some done, s.modModes fun m => { m with restartPending := some (decide (kind = 0)), restartCause := 0 })

/-- `RESTART` (R157). -/
def execRestart (f : Frame) (kind : Nat) (s : State) : Host.Outcome State Fault Refusal :=
  run (fun s => s.wicket f cmdRestart (.restart f kind) (fixedLen f 1) (bodyRestart f kind) (inM2 := true)) s

/-- `PENDING_RESTART_BEGIN` (R157): the main domain goes into reset; WARM_RESTART or COLD_RESTART is the start that follows. -/
def execPendingRestartBegin (s : State) : Host.Outcome State Fault Refusal :=
  run (fun s => match s.modes.restartPending with
    | some warm => if s.power.mainHeld then s else s.beginRestart warm s.modes.restartCause
    | none => s) s

/-- The pins of J1 whose strap level differs from `p`, with their items (R63, R64). -/
def strapPins (p : StrapPins) : List (Nat × Nat) :=
  ((List.range 5).map fun n => (itemPin 3 (n + 1), p.sid.getD n 0))
    ++ [(itemPin 3 6, p.sidp), (itemPin 3 7, p.twposA), (itemPin 3 8, p.twposB)]

/-- `STRAP_POLL` (R64): the levels read now; a change takes effect only at the next restart. -/
def execStrapPoll (pins : StrapPins) (s : State) : Host.Outcome State Fault Refusal :=
  run (fun s =>
    if !s.power.mainUp || s.power.mainHeld || !(s.modes.mode.runs || decide (s.modes.mode = .m7)) then s
    else
      s.forAll ((strapPins pins).zip (strapPins s.power.straps)) fun x s =>
        s.condition (src 7 3) x.1.1 2 (decide (x.1.2 ≠ x.2.2))) s

end Sys2Proof.Machine
end

