-- ==== Sys2Proof/Machine/Can.lean ====
section
/-! DEFINITION. The CAN FD buses (chapter 17): transmission, errors and bus-off, the stations, process data and SDO transfers of
the auxiliary bus. -/

namespace Sys2Proof.Machine

open Sys2Proof

/-! ### Controllers (R531 to R538) -/

/-- The item of a CAN bus (R451); a station takes the place of the detail (R540). -/
def itemBus (b : Nat) (detail : Nat := 0) : Nat := item 10 b detail

/-- Change controller `b`. -/
def State.modCan (s : State) (b : Nat) (f : Can → Can) : State := s.modBus fun x => { x with can := x.can.modify b f }

/-- Controller `b`. -/
def State.can (s : State) (b : Nat) : Can := s.bus.can.get b

/-- The mode of controller `b` (R537): 0 off, 1 bus monitoring, 2 normal, 5 restricted. -/
def State.canMode (s : State) (b : Nat) : Nat :=
  if canCount s.ident.variant ≤ b ∨ !s.coreUp ∨ s.modes.mode = .m0 ∨ s.modes.mode = .m2 then 0
  else if s.modes.mode = .m1 then 1
  else if (s.can b).orphan then 2
  else if !s.active then 1
  else if s.nat (P.canMode b) = 0 then 2 else 5

/-- The controller samples each bit three times (R530). -/
def State.canTriple (s : State) (b : Nat) : Bool :=
  decide (s.canMode b ≠ 0) && s.flag (P.canTriple b) && decide (s.nat (P.canNominalRate b) ≤ 250000)

/-- `CAN[b].STATE` (R544). -/
def State.canState (s : State) (b : Nat) : Nat :=
  let c := s.can b
  let m := s.canMode b
  let k := if m ≠ 2 then m else if c.busOff then 4 else if 128 ≤ c.tec ∨ 128 ≤ c.recErr then 3 else 2
  k + 128 * b2n (s.canTriple b)

/-- Dedicated slot `j`. -/
def Can.slot (c : Can) (j : Nat) : CanSlot := if j = 0 then c.slot0 else c.slot1

/-- Change dedicated slot `j`. -/
def Can.modSlot (c : Can) (j : Nat) (f : CanSlot → CanSlot) : Can :=
  if j = 0 then { c with slot0 := f c.slot0 } else { c with slot1 := f c.slot1 }

/-- The frame that goes on the bus when a transmission can start: slot 0, slot 1, the head of the FIFO (R531). -/
def Can.take (c : Can) : Can :=
  if c.slot0.frame.isSome then { c with slot0 := { c.slot0 with onBus := true } }
  else if c.slot1.frame.isSome then { c with slot1 := { c.slot1 with onBus := true } }
  else { c with fifoOnBus := !c.fifo.isEmpty }

/-- Offer a frame for arbitration, where the controller may send and none is on the bus (R531, R536, R537). -/
def State.offer (s : State) (b : Nat) : State :=
  let c := s.can b
  if s.canMode b ≠ 2 ∨ c.busOff ∨ c.busy then s else s.modCan b Can.take

/-- A write that the controller does not take raises the drop count (R534, R537). -/
def State.canRefused (s : State) (b : Nat) : State := s.modCan b fun c => { c with txDrops := satU 32 (c.txDrops + 1) }

/-- Write a frame to the FIFO (R533, R534); whether it was queued. -/
def State.canFifo (s : State) (b : Nat) (x : CanFrame) : Bool × State :=
  if s.canMode b ≠ 2 ∨ 32 ≤ (s.can b).fifo.length then (false, s.canRefused b)
  else (true, (s.modCan b fun c => { c with fifo := c.fifo ++ [x] }).offer b)

/-- Write a frame into a dedicated slot (R532). -/
def CanSlot.write (c : CanSlot) (x : CanFrame) : CanSlot :=
  if c.onBus then { c with held := some x } else { c with frame := some x, attempts := 0 }

/-- The write replaces a frame that is not on the bus (R532). -/
def CanSlot.replaces (c : CanSlot) : Bool := if c.onBus then c.held.isSome else c.frame.isSome

/-- Write a frame to a dedicated slot (R532); whether it was taken. -/
def State.canSlotWrite (s : State) (b j : Nat) (x : CanFrame) : Bool × State :=
  if s.canMode b ≠ 2 then (false, s.canRefused b)
  else
    (true, (s.modCan b fun c =>
      { c.modSlot j (·.write x) with overwrites := satU 32 (c.overwrites + b2n (c.slot j).replaces) }).offer b)

/-- The slot once its frame has left it: the held frame takes its place. -/
def CanSlot.left (c : CanSlot) : CanSlot := { frame := c.held }

/-- The frame on the bus and the controller without it. -/
def Can.sent (c : Can) : Option (CanFrame × Can) :=
  if c.slot0.onBus then c.slot0.frame.map fun x => (x, { c with slot0 := c.slot0.left })
  else if c.slot1.onBus then c.slot1.frame.map fun x => (x, { c with slot1 := c.slot1.left })
  else if c.fifoOnBus then c.fifo.head?.map fun x => (x, { c with fifo := c.fifo.tail, fifoOnBus := false, attempts := 0 })
  else none

/-- A frame as it goes out at a data rate (R529): rate 0 sends every frame in classic format, of at most eight bytes (log 182). -/
def CanFrame.asSent (x : CanFrame) (rate : Nat) : CanFrame :=
  if rate = 0 then { x with fd := false, data := x.data.take 8 } else x

/-- The secondary sample point of a frame whose measured transmitter delay is `delay` ns (R528, R529): tseg1 + 1 data quanta after it,
while the data rate is above 1 Mbit/s; none without compensation. -/
def State.secondarySample (s : State) (b delay : Nat) : Option Nat :=
  let rate := s.nat (P.canDataRate b)
  if rate ≤ 1000000 then none
  else (canQuanta rate 5 49).map fun n =>
    let p := 100000000 / (n * rate)
    delay + ((canSegments n (s.nat (P.canDataSp b)) 16).1 + 1).toNat * p * 10

/-- The bit timing in force of the nominal phase and, where the data rate is not 0, of the data phase: prescaler, tseg1, tseg2, SJW
(R528). -/
def State.bitTiming (s : State) (b : Nat) : List (Option (Nat × Int × Int × Int)) :=
  let phase := fun (rate sp lo hi sjw : Nat) => (canQuanta rate lo hi).map fun n => (100000000 / (n * rate), canSegments n sp sjw)
  phase (s.nat (P.canNominalRate b)) (s.nat (P.canNominalSp b)) 8 385 128
    :: (if s.val (P.canDataRate b) = 0 then [] else [phase (s.nat (P.canDataRate b)) (s.nat (P.canDataSp b)) 5 49 16])

/-- `CAN_TX_COMPLETE` (R529, R531, R536): the frame on the bus is sent. A module in reset drives no bus (R83). -/
def execCanTxComplete (x : CanSent) (s : State) : Host.Outcome State Fault Refusal :=
  let b := x.bus
  let delay := x.delay
  if 2 ≤ b then .fault .illFormed
  else run (fun s =>
    if !s.power.mainUp || s.power.mainHeld then s
    else match (s.can b).sent with
    | some (x, c) =>
      let x := x.asSent (s.nat (P.canDataRate b))
      let ssp := if x.fd then s.secondarySample b delay else none
      let s := (s.modCan b fun _ => { c with tec := c.tec - 1, ssp := ssp }).emit (.can b x)
      (s.endFault (src 1 41) (itemBus b)).offer b
    | none => s) s

/-- The identifier in a CAN_FRAME_DROPPED slip (R535). -/
def CanFrame.slipId (x : CanFrame) : Nat := x.id + 2 ^ 31 * b2n x.ext

/-- The last permitted attempt of a frame has failed (R535). -/
def State.canDropped (s : State) (b : Nat) (x : CanFrame) : State :=
  let s := s.modCan b fun c => { c with txDrops := satU 32 (c.txDrops + 1) }
  (s.raise (src 1 40) (itemBus b) 1 (single := true)).slip 0x000D [(1, b), (4, x.slipId)]

/-- The frame on the bus leaves it unsent: it waits for its retry, or a frame written meanwhile takes its slot (R532). -/
def CanSlot.back (c : CanSlot) (counts : Bool) : CanSlot :=
  if c.held.isSome then c.left else { c with onBus := false, attempts := c.attempts + b2n counts }

/-- `CAN_TX_ATTEMPT_FAILED` (R535): the attempt ends in an error or without acknowledgement, or loses arbitration (`lost`),
which is no attempt. -/
def execCanTxAttemptFailed (b : Nat) (lost : Bool) (s : State) : Host.Outcome State Fault Refusal :=
  if 2 ≤ b then .fault .illFormed
  else run (fun s =>
    let c := s.can b
    if !c.busy then s
    else
      let tries := if c.slot0.onBus then c.slot0.attempts else if c.slot1.onBus then c.slot1.attempts else c.attempts
      let tec := if lost then c.tec else min 256 (c.tec + 8)
      let s :=
        -- a frame that was on the bus at a release of the role is not tried again (R538)
        if s.canMode b ≠ 2 then s.modCan b fun c => c.emptied c.count
        else if !lost && decide (s.nat (P.canRetryLimit b) ≤ tries) then
          match c.sent with
          | some (x, c) => (s.modCan b fun _ => { c with tec := tec }).canDropped b x
          | none => s
        else s.modCan b fun c =>
          if c.slot0.onBus then { c with slot0 := c.slot0.back (!lost), tec := tec }
          else if c.slot1.onBus then { c with slot1 := c.slot1.back (!lost), tec := tec }
          else { c with fifoOnBus := false, attempts := c.attempts + b2n (!lost), tec := tec }
      s.offer b) s

/-- At a release of the role the queues empty without a slip; a frame on the bus completes (R538). -/
def State.canRelease (s : State) : State := s.forAll [0, 1] fun b s => s.modCan b Can.released

/-- `CAN_BUS_OFF` (R536). -/
def execCanBusOff (b : Nat) (s : State) : Host.Outcome State Fault Refusal :=
  if 2 ≤ b then .fault .illFormed
  else run (fun s =>
    if s.canMode b ≠ 2 ∨ (s.can b).busOff then s
    else
      let s := s.modCan b fun c =>
        { c.emptied c.count with busOff := true, tec := 256, busOffCount := satU 32 (c.busOffCount + 1) }
      (s.raise (src 1 41) (itemBus b) 2).slip 0x000D [(1, b), (4, 0xFFFFFFFF)]) s

/-- `CAN_BUS_OFF_RECOVERY` (R536): the recovery sequence, at whose end the controller is error active with both counters at 0. -/
def execCanBusOffRecovery (b : Nat) (s : State) : Host.Outcome State Fault Refusal :=
  if 2 ≤ b then .fault .illFormed
  else run (fun s =>
    if !(s.can b).busOff then s else (s.modCan b fun c => { c with busOff := false, tec := 0, recErr := 0 }).offer b) s

/-! ### Stations (R539, R540) -/

/-- Change station `st`. -/
def State.modAux (s : State) (st : Nat) (f : Aux → Aux) : State := s.modBus fun x => { x with aux := x.aux.modify st f }

/-- The configured stations. -/
def State.stations (s : State) : List Nat :=
  if canCount s.ident.variant ≤ 1 then [] else (List.range 16).filter fun st => decide (s.nat (P.auxNodeId st) ≠ 0)

/-- The stations of a node. -/
def State.stationsOf (s : State) (node : Nat) : List Nat := s.stations.filter fun st => decide (s.nat (P.auxNodeId st) = node)

/-- Start remote node, as NMT master in normal mode (R539). -/
def State.startNode (s : State) (st : Nat) : State :=
  if s.canMode 1 = 2 then (s.canFifo 1 { id := 0, data := [1#8, BitVec.ofNat 8 (s.nat (P.auxNodeId st))] }).2 else s

/-- Start remote node once to each configured station (R539). -/
def State.startNodes (s : State) : State := s.forAll s.stations fun st s => s.startNode st

/-- `AUX_BOOTUP` (R539): the boot-up message of a node. -/
def execAuxBootup (node : Nat) (s : State) : Host.Outcome State Fault Refusal :=
  run (fun s => if s.canMode 1 = 0 then s
    else s.forAll (s.stationsOf node) fun st s => (s.modAux st fun a => { a with state := 0 }).startNode st) s

/-- `AUX_HEARTBEAT` (R539, R540): the heartbeat of a node with its NMT state. -/
def execAuxHeartbeat (node nmt : Nat) (s : State) : Host.Outcome State Fault Refusal :=
  run (fun s => if s.canMode 1 = 0 then s
    else s.forAll (s.stationsOf node) fun st s =>
      let s := s.modAux st fun a => { a with state := nmt % 128, present := true }
      let s := s.endFault (src 1 42) (itemBus 1 st)
      s.when (decide (nmt % 128 = 0x7F)) fun s => s.startNode st) s

/-- Mapping `i` is in use (R543). -/
def State.mapped (s : State) (i : Nat) : Bool := decide (2 ≤ canCount s.ident.variant) && bitOf (s.nat (P.pdoCob i)) 31

/-- The direction, station and identifier of mapping `i`; its byte offset and type (R543). -/
def State.pdoTx (s : State) (i : Nat) : Bool := bitOf (s.nat (P.pdoCob i)) 12
def State.pdoStation (s : State) (i : Nat) : Nat := s.nat (P.pdoCob i) / 2 ^ 16 % 16
def State.pdoId (s : State) (i : Nat) : Nat := s.nat (P.pdoCob i) % 2 ^ 11
def State.pdoByte (s : State) (i : Nat) : Nat := s.nat (P.pdoField i) % 256
def State.pdoType (s : State) (i : Nat) : Nat := s.nat (P.pdoField i) / 256 % 256

/-- The mappings in use of one direction. -/
def State.mappings (s : State) (tx : Bool) : List Nat := (List.range 32).filter fun i => s.mapped i && s.pdoTx i == tx

/-- Change process value `i`. -/
def State.modPdo (s : State) (i : Nat) (f : Pdo → Pdo) : State := s.modBus fun x => { x with pdo := x.pdo.modify i f }

/-- `AUX_HEARTBEAT_LOSS` (R540). -/
def execAuxHeartbeatLoss (st : Nat) (s : State) : Host.Outcome State Fault Refusal :=
  if 16 ≤ st then .fault .illFormed
  else run (fun s =>
    if !(s.bus.aux.get st).present then s
    else
      let s := s.modAux st fun a => { a with state := 0xFF, present := false, losses := satU 16 (a.losses + 1) }
      let s := s.forAll ((s.mappings false).filter fun i => decide (s.pdoStation i = st)) fun i s =>
        s.modPdo i fun p => { p with valid := false, value := 0x7FC00000 }
      s.raise (src 1 42) (itemBus 1 st) 2) s

/-- `HEARTBEAT_PRODUCE_DUE` (R539). -/
def execHeartbeatProduceDue (s : State) : Host.Outcome State Fault Refusal :=
  run (fun s => if s.canMode 1 = 2 ∧ s.nat (P.canHbProducer 1) ≠ 0 then
      (s.canFifo 1 { id := 0x700 + s.nat (P.canNodeId 1), data := [5#8] }).2 else s) s

/-! ### Process data (R542) -/

/-- Bytes of a PDO field of a type. -/
def fieldBytes (ty : Nat) : Nat := tyBits ty / 8

/-- The float32 halves of `PDO[i].SCALE`: scale, offset. -/
def State.pdoScaling (s : State) (i : Nat) : U32 × U32 :=
  let v := s.nat (P.pdoScale i)
  (BitVec.ofNat 32 v, BitVec.ofNat 32 (v / 2 ^ 32))

/-- The number in the field of receive mapping `i` in the data of its frame, as float32 (R542). -/
def State.pdoNumber (s : State) (i : Nat) (data : List Byte) : U32 :=
  let n := fieldBytes (s.pdoType i)
  let raw := leNat ((data.drop (s.pdoByte i)).take n)
  if s.pdoType i = 0x21 then BitVec.ofNat 32 raw
  else f32OfRat (((if tySigned (s.pdoType i) then ofPat (8 * n) raw else (raw : Int)) : Int) : Rat)

/-- The frame is long enough for the field of mapping `i` (R542). -/
def State.pdoFits (s : State) (i : Nat) (data : List Byte) : Bool := decide (s.pdoByte i + fieldBytes (s.pdoType i) ≤ data.length)

/-- `RX_PDO` (R542): a classic frame fills every receive mapping of its identifier. -/
def execRxPdo (id : Nat) (data : List Byte) (s : State) : Host.Outcome State Fault Refusal :=
  run (fun s => if s.canMode 1 = 0 then s
    else s.forAll ((s.mappings false).filter fun i => decide (s.pdoId i = id)) fun i s =>
      if !s.pdoFits i data then s
      else
        let x := s.pdoNumber i data
        let (k, o) := s.pdoScaling i
        -- a field that holds no finite number: the manual gives no result
        let v := if f32Finite x then (f32Add (f32Mul x k) o).toNat else s.free 32
        (s.modPdo i fun p => { p with value := v, time := s.time.ns, valid := true }).nextFree) s

/-- The raw field of a transmit mapping (R542); of a value that is no finite number it is a free value,
another one for each mapping. -/
def State.pdoRaw (s : State) (i : Nat) : Nat :=
  let w := 8 * fieldBytes (s.pdoType i)
  let v : U32 := BitVec.ofNat 32 (s.bus.pdo.get i).value
  let (k, o) := s.pdoScaling i
  if !f32Finite v then Config.freeValue (s.freeCtr + i) % 2 ^ w
  else
    let q := (f32Val v - f32Val o) / f32Val k
    if s.pdoType i = 0x21 then (f32OfRat q).toNat
    else
      let r := roundAway q
      if tySigned (s.pdoType i) then patI w (clampI (-(2 ^ (w - 1))) (2 ^ (w - 1) - 1) r)
      else (clampI 0 (2 ^ w - 1) r).toNat

/-- The data of the transmit frame of an identifier (R542): bytes that no mapping covers are 0. -/
def State.pdoData (s : State) (id : Nat) : List Byte :=
  let l := (s.mappings true).filter fun i => decide (s.pdoId i = id)
  let len := l.foldl (fun m i => max m (s.pdoByte i + fieldBytes (s.pdoType i))) 0
  l.foldl (fun d i => d.take (s.pdoByte i) ++ leBytes (fieldBytes (s.pdoType i)) (s.pdoRaw i)
    ++ d.drop (s.pdoByte i + fieldBytes (s.pdoType i))) (List.replicate len 0#8)

/-- Write the transmit frame of an identifier to the FIFO (R542). -/
def State.sendPdo (s : State) (id : Nat) : State :=
  let s := (s.canFifo 1 { id := id, data := s.pdoData id }).2
  let s := s.forAll ((s.mappings true).filter fun i => decide (s.pdoId i = id)) fun i s =>
    s.modPdo i fun p => { p with changed := false }
  s.forAll (List.range 32) fun _ s => s.nextFree

/-- The transmit frame of an identifier names a station whose heartbeat is lost, so it is withheld (R565). -/
def State.pdoWithheld (s : State) (id : Nat) : Bool :=
  ((s.mappings true).filter fun i => decide (s.pdoId i = id)).any fun i => bitOf s.prg.undelivered (s.pdoStation i)

/-- `TX_PDO_REFRESH_DUE` (R542): a transmit PDO unsent for 1 s. -/
def execTxPdoRefreshDue (id : Nat) (s : State) : Host.Outcome State Fault Refusal :=
  run (fun s =>
    if s.canMode 1 = 2 ∧ ((s.mappings true).any fun i => decide (s.pdoId i = id)) ∧ !s.pdoWithheld id then s.sendPdo id else s) s

/-! ### SDO transfers (R541): the CiA 301 client, expedited and segmented -/

/-- The running transfer of a bus. -/
def State.sdo (s : State) (b : Nat) : Option Sdo := if b = 0 then s.bus.sdo0 else s.bus.sdo1

/-- Set the running transfer of a bus. -/
def State.setSdo (s : State) (b : Nat) (o : Option Sdo) : State :=
  s.modBus fun x => if b = 0 then { x with sdo0 := o } else { x with sdo1 := o }

/-- Send an SDO request of 8 bytes to a station. -/
def State.sdoSend (s : State) (b st : Nat) (d : List Byte) : State :=
  (s.canFifo b { id := 0x600 + s.nat (P.auxNodeId st), data := (d ++ List.replicate 8 0#8).take 8 }).2

/-- The index and subindex of a transfer as they stand in a frame. -/
def Sdo.address (x : Sdo) : List Byte := leBytes 2 x.index ++ leBytes 1 x.sub

/-- The transfer ends with its data or an abort code (R541, R569). -/
def State.sdoEnd (s : State) (b code : Nat) (data : List Byte) : State :=
  (s.setSdo b none).modPrg fun p => { p with sdoAnswers := p.sdoAnswers ++ [(b, code, data)] }

/-- The client aborts a transfer. -/
def State.sdoAbort (s : State) (b code : Nat) : State :=
  match s.sdo b with
  | some x => (s.sdoSend b x.station ([0x80#8] ++ x.address ++ leBytes 4 code)).sdoEnd b code []
  | none => s

/-- Start a transfer: the initiate frame. -/
def State.sdoStart (s : State) (b : Nat) (x : Sdo) : State :=
  let n := x.data.length
  let x := { x with done := 0, toggle := false, segmented := x.write && decide (4 < n), size := n }
  let s := s.setSdo b (some x)
  s.sdoSend b x.station
    (if !x.write then [0x40#8] ++ x.address
     else if n ≤ 4 then [BitVec.ofNat 8 (0x23 + 4 * (4 - n))] ++ x.address ++ x.data
     else [0x21#8] ++ x.address ++ leBytes 4 n)

/-- The next segment of a download. -/
def State.sdoSegment (s : State) (b : Nat) (x : Sdo) : State :=
  let part := (x.data.drop x.done).take 7
  let last := decide (x.data.length ≤ x.done + 7)
  s.sdoSend b x.station ([BitVec.ofNat 8 (16 * b2n x.toggle + 2 * (7 - part.length) + b2n last)] ++ part)

/-- The next request of a segmented upload. -/
def State.sdoAsk (s : State) (b : Nat) (x : Sdo) : State := s.sdoSend b x.station [BitVec.ofNat 8 (0x60 + 16 * b2n x.toggle)]

/-- An SDO response `d` of the server of a running transfer. -/
def State.sdoTake (s : State) (b : Nat) (x : Sdo) (d : List Byte) : State :=
  let c := (d.getD 0 0#8).toNat
  if c = 0x80 then s.sdoEnd b (leNat ((d.drop 4).take 4)) []
  else if x.write then
    if !x.segmented then (if c = 0x60 then s.sdoEnd b 0 [] else s.sdoAbort b 0x05040001)
    else if x.done = 0 ∧ c = 0x60 ∧ !x.toggle then s.sdoSegment b x
    else if c % 16 = 0 ∧ c / 32 = 1 then
      if decide (c / 16 % 2 = 1) ≠ x.toggle then s.sdoAbort b 0x05030000
      else
        let x := { x with done := x.done + 7, toggle := !x.toggle }
        if x.data.length ≤ x.done then s.sdoEnd b 0 [] else (s.setSdo b (some x)).sdoSegment b x
    else s.sdoAbort b 0x05040001
  else if !x.segmented then
    if c / 64 = 1 ∧ c / 2 % 2 = 1 then s.sdoEnd b 0 ((d.drop 4).take (if c % 2 = 1 then 4 - c / 4 % 4 else 4))
    else if c = 0x41 then
      let n := leNat ((d.drop 4).take 4)
      if 256 < n then s.sdoAbort b 0x05040005
      else
        let x := { x with segmented := true, size := n, data := [] }
        (s.setSdo b (some x)).sdoAsk b x
    else s.sdoAbort b 0x05040001
  else if c / 32 = 0 then
    if decide (c / 16 % 2 = 1) ≠ x.toggle then s.sdoAbort b 0x05030000
    else
      let x := { x with data := x.data ++ (d.drop 1).take (7 - c / 2 % 8), toggle := !x.toggle }
      if 256 < x.data.length then s.sdoAbort b 0x05040005
      else if c % 2 = 1 then s.sdoEnd b 0 x.data
      else (s.setSdo b (some x)).sdoAsk b x
  else s.sdoAbort b 0x05040001

/-- `SDO_RESPONSE` (R541): 8 data bytes from a node. -/
def execSdoResponse (b node : Nat) (d : List Byte) (s : State) : Host.Outcome State Fault Refusal :=
  if 2 ≤ b then .fault .illFormed
  else run (fun s => match s.sdo b with
    | some x => if s.canMode b = 0 ∨ s.nat (P.auxNodeId x.station) ≠ node ∨ d.length ≠ 8 then s else s.sdoTake b x d
    | none => s) s

/-- `SDO_TIMEOUT` (R541). -/
def execSdoTimeout (b : Nat) (s : State) : Host.Outcome State Fault Refusal :=
  if 2 ≤ b then .fault .illFormed else run (fun s => s.sdoAbort b 0x05040000) s

/-! ### Reception for the program (R568, R572) -/

/-- Entry `i` of the receive filter takes the frame. -/
def State.filterTakes (s : State) (i : Nat) (x : CanFrame) : Bool :=
  let v := s.nat (P.prgRxFilter i)
  let mask := v / 2 ^ 32 % 2 ^ 29
  bitOf v 63 && (bitOf v 62 == x.ext) && decide (v % 2 ^ 29 &&& mask = x.id &&& mask)

/-- `PROGRAM_CAN_RECEIVE` (R568): a frame of bus `b`; at most 64 are held for a snapshot. -/
def execProgramCanReceive (b : Nat) (x : CanFrame) (s : State) : Host.Outcome State Fault Refusal :=
  if 2 ≤ b then .fault .illFormed
  else run (fun s =>
    if s.canMode b = 0 ∨ !((List.range 4).any fun j => s.filterTakes (4 * b + j) x) then s
    else if 64 ≤ (s.can b).rx.length then s.modPrg fun p => { p with canRefused := satU 32 (p.canRefused + 1) }
    else s.modCan b fun c => { c with rx := c.rx ++ [x] }) s

end Sys2Proof.Machine
end

