-- ==== Sys2Proof/Machine/Orders.lean ====
section
/-! DEFINITION. Dispatch orders and the set-point profile (chapter 11): section frames, limits and grants, the profile generator,
gearing, converter frames, statements and notices. -/

namespace Sys2Proof.Machine

open Sys2Proof

/-! ### Section frames (R362 to R364) -/

/-- A section frame of a KIND reaches the module (R362, R480): `SEC.PORT`, and an address it listens on. The active module takes
orders on its role address, a standby on its position address (log 197); the partner's standing messages go to the managers and
are overheard. -/
def State.hearsSection (s : State) (kind : Nat) (f : SectionFrame) : Bool :=
  let own := decide (f.via = 0) && decide (s.val (P.netPosAddr s.pos) ≠ 0)
  let role := decide (f.via = 1) && s.net.roleHeld
  decide (f.port = s.nat P.secPort) && (match kind with
    | 1 => if s.active then role else own
    | 2 => own || role || (decide (f.via = 2) && decide (s.val P.secStreamGroup ≠ 0))
    | 5 => true
    | _ => own)

/-- More than 10 frames of a stale epoch within 1 s (RT.32, R389). -/
def State.epochsStale (s : State) : Bool := match s.sec.staleTimes[10]? with
  | some t => decide (s.time.ns < t + 1000000000)
  | none => false

/-- A section frame of a KIND as it arrives (R364): discarded, of a stale epoch, or handled in `k` with its epoch taken. -/
def State.sectionTake (s : State) (kind : Nat) (f : SectionFrame) (payload : List Byte) (k : State → State) : State :=
  if !s.netUp || !s.hearsSection kind f then s
  else
    let named := decide (f.str = s.stringNo) || (decide (kind = 2) && decide (f.str = 0xFF))
    let partner := decide (kind ≠ 5) || decide (f.position = 1 - s.pos)
    if !f.accepts kind payload || !named || !partner then s.modSec fun x => { x with discards := satU 32 (x.discards + 1) }
    else if kind = 5 then k s
    else if f.epoch < s.sec.epoch then
      let s := s.modSec fun x => { x with stale := satU 32 (x.stale + 1), staleTimes := (s.time.ns :: x.staleTimes).take 11 }
      s.when s.epochsStale fun s => s.raise (src 7 32) noItem 1
    else k (s.modSec fun x => { x with epoch := max x.epoch f.epoch })

/-- The addresses of the section manager in use (R385). -/
def State.managers (s : State) : List Nat := ((List.range 2).map fun i => s.nat (P.secManagerAddr i)).filter (· ≠ 0)

/-- Send a section frame to every manager address. -/
def State.sendSection (s : State) (kind seq : Nat) (body : List (Nat × Nat)) : State :=
  s.forAll s.managers fun a s => s.emit (.sectionFrame a kind seq s.sec.epoch s.stringNo s.pos s.time.ns body)

/-! ### Limits (R369) -/

/-- L_rail in mA: the steered rails in use, and the others with their measured shares. -/
def State.railLimit (s : State) : Rat :=
  let use := s.railsInUse
  let down := (s.arch.engines.get 5).inReset
  let st := if down then [] else use.filter s.steered
  let other := if down then use else use.filter fun r => !s.steered r
  let q := fun (r : Nat) => s.steer.measured.getD r 0
  let l1 := if st.isEmpty then []
    else [(st.foldl (fun a r => a + (s.rated r : Rat)) 0) / max (1 - other.foldl (fun a r => a + q r) 0) (1 / 100)]
  let l2 := (other.filter fun r => decide (0 < q r)).map fun r => (s.rated r : Rat) / q r
  match l1 ++ l2 with
  | [] => 0
  | a :: t => t.foldl min a

/-- A ratio held between 0 and 1. -/
def unitClamp (q : Rat) : Rat := max 0 (min 1 q)

/-- The limits of one direction with their codes, in the order of R369. -/
def State.limitTerms (s : State) (charge : Bool) : List (Nat × Rat) :=
  let lr := s.railLimit
  let p : Rat := (s.est.position : Rat)
  let eod := fun (i : Nat) => (s.val (P.estEodLevel i) : Rat)
  let eoc := fun (i : Nat) => (s.val (P.estEocLevel i) : Rat)
  let soc := if s.est.position = 0xFFFF then 0
    else if charge then lr * unitClamp ((eoc 1 - p) / (eoc 1 - eoc 0)) else lr * unitClamp ((p - eod 2) / (eod 1 - eod 2))
  let live := s.sec.convFresh && decide (s.sec.convState ≠ 4)
  let conv : Rat := if live then ((if charge then s.sec.convChg else s.sec.convDis) * 1000 : Nat) else 0
  let g := s.worst.getD 0
  [(1, soc), (2, (s.therm.limit : Rat)), (3, lr), (4, conv)]
    ++ (if 3 ≤ g then [(5, 0)] else if g = 2 then [(5, (s.nat P.prfG2Derate : Rat) / 10000 * lr)] else [])

/-- The smallest limit, ties to the lower code; in Hold-up 0 with factor 6 (R369, R381). -/
def State.limitOf (s : State) (charge : Bool) : Nat × Nat :=
  if s.trs.state = 2 then (6, 0)
  else
    let m := (s.limitTerms charge).foldl (fun (m : Option (Nat × Rat)) x => match m with
      | some a => if x.2 < a.2 then some x else some a
      | none => some x) none
    match m with
    | some (c, l) => (c, (max 0 l.floor).toNat)
    | none => (0, 0)

/-- Form both limits (R369). -/
def State.formLimits (s : State) : State :=
  let d := s.limitOf false
  let c := s.limitOf true
  s.modProf fun p => { p with disLimit := d.2, disFactor := d.1, chgLimit := c.2, chgFactor := c.1 }

/-- Limit and factor of the direction of a current. -/
def Profile.limit (p : Profile) (i : Int) : Nat × Nat := if 0 < i then (p.chgLimit, p.chgFactor) else (p.disLimit, p.disFactor)

/-- The grant of a request with the limiting factor, 0 when it is served (R370). -/
def Profile.granted (p : Profile) (i : Int) : Int × Nat :=
  let l := p.limit i
  if i.natAbs ≤ l.1 then (i, 0) else (i.sign * l.1, l.2)

/-! ### Requests (R368, R376 to R378) -/

/-- The bus voltage, mV: modulator 1, or modulator 0 while it has failed. -/
def State.busVoltage (s : State) : Option Nat := s.sec.bus1.or s.sec.bus0

/-- The segment that contains a section position (R378). -/
def State.segmentOf (s : State) (p : Nat) : Nat :=
  ((List.range 8).filter fun g => decide (s.nat (P.gearPosition g) ≤ p)).foldl max 0

/-- One change of segment under the hysteresis, until none is due (R378). -/
def State.regear (s : State) (p : Nat) : Nat → Nat → Nat
  | 0, g => g
  | n + 1, g =>
    let h := s.nat P.gearHysteresis
    if g < 7 ∧ s.nat (P.gearPosition (g + 1)) + h ≤ p then s.regear p n (g + 1)
    else if 0 < g ∧ p + h < s.nat (P.gearPosition g) then s.regear p n (g - 1)
    else g

/-- The master value at time `t`, mA (R377). -/
def Profile.master (p : Profile) (t : Nat) : Rat :=
  match p.masters with
  | m2 :: m1 :: _ =>
    let dt : Rat := min (((t : Int) - (m2.time : Int) : Int) : Rat) 20000000
    (m2.master : Rat) + ((m2.master - m1.master : Int) : Rat) * dt / (((m2.time : Int) - (m1.time : Int) : Int) : Rat)
  | [m] => (m.master : Rat)
  | [] => 0

/-- The request of an order at a profile step, mA (R368, R377). -/
def State.requestOf (s : State) (o : Order) : Int :=
  if o.code = 0 then o.value
  else if o.code = 1 then match s.busVoltage with
    | some 0 => o.value.sign * 0x7FFFFFFF
    | some v => roundAway ((o.value : Rat) * 1000000 / (v : Rat))
    | none => 0
  else if o.code = 2 then
    if s.prof.streamLost then 0
    else roundAway (s.real (P.gearRatio s.prof.gear) * s.prof.master (s.time.lastEpoch + 950000))
  else 0

/-! ### Targets (R370 to R375) -/

/-- OUTCOME and FACTOR follow the order in force while it is the last order handled (R387). -/
def State.report (s : State) (o : Order) (outcome factor : Nat) : State :=
  s.modProf fun p => if p.lastSeq = some o.seq then { p with outcome := outcome, factor := factor } else p

/-- Take a target, mA, with its limiting factor: a move starts from rest with the present PRF.JERK (R373). -/
def State.setTarget (s : State) (o : Order) (g : Int × Nat) : State :=
  let jerk := s.nat P.prfJerk
  let s := s.modProf fun p => { p with
    target := g.1, grant := g.1, grantFactor := g.2, jerk := if p.moving then p.jerk else jerk
    moving := p.moving || decide (p.i ≠ r64 ((g.1 : Rat) / 1000)) }
  s.report o (if g.2 = 0 then 0 else 1) g.2

/-- An order becomes the order in force: requested, granted, and its move starts. -/
def State.takeOrder (s : State) (o : Order) : State :=
  let p := match s.prof.masters with | m :: _ => s.segmentOf m.position | [] => s.prof.gear
  let s := s.modProf fun x => { x with inForce := some o, gear := if o.code = 2 then p else x.gear }
  let s := if o.code = 2 then s else (s.modProf fun x => { x with streamLost := false }).endFault (src 7 31) noItem
  let i := s.requestOf o
  (s.modProf fun x => { x with request := i }).setTarget o (s.prof.granted i)

/-- FOLLOW is in force. -/
def Profile.following (p : Profile) : Bool := match p.inForce with | some o => decide (o.code = 2) | none => false

/-- A new target (R373, R375): during a move it waits in the pending slot, replacing the one there. -/
def State.newTarget (s : State) (o : Order) : State :=
  if s.prof.moving && !s.prof.following then
    let s := match s.prof.pendingOrder with
      | some q => (s.modProf fun p => { p with overwrites := satU 32 (p.overwrites + 1) }).slip 0x000B
          [(4, patI 32 q.value), (4, patI 32 o.value)]
      | none => s
    (s.modProf fun p => { p with pendingOrder := some o }).report o 2 0
  else s.takeOrder o

/-! ### The profile generator (R372) -/

/-- Set-point, rate and acceleration. -/
structure Motion where
  i : Rat := 0
  v : Rat := 0
  a : Rat := 0
  deriving DecidableEq, Repr

/-- The sign of a rational: −1, 0 or 1. -/
def ratSign (q : Rat) : Int := if 0 < q then 1 else if q < 0 then -1 else 0

/-- One step of the generator in float64 under the limits r, a and j; whether the move ends at it. -/
def profileStep (r aLim j : Nat) (target : Rat) (m : Motion) : Motion × Bool :=
  let t := r64 (1 / 1000)
  let e := r64 (target - m.i)
  let d := if e < 0 then -e else e
  if d < t ∧ m.v = 0 ∧ m.a = 0 then ({ m with i := target }, true)
  else
    let s : Rat := if 0 ≤ e then 1 else -1
    let al : Rat := (aLim : Rat)
    let jr : Rat := (j : Rat)
    let j2 := r64 (jr * jr)
    let a2 := r64 (al * al)
    let vb :=
      if r64 (r64 (a2 * al) / j2) ≤ d then
        r64 (r64 (sqrt64 (r64 (r64 (r64 (a2 * a2) / j2) + r64 (r64 (8 * al) * d))) - r64 (a2 / jr)) / 2)
      else cbrt64 (r64 (jr * r64 (d * d)))
    let vg := s * min (r : Rat) vb
    let dv := r64 (vg - m.v)
    let mag := if dv < 0 then -dv else dv
    let ag := (ratSign dv : Rat) * min al (sqrt64 (r64 (r64 (2 * jr) * mag)))
    let jt := r64 (jr * t)
    let a := r64 (m.a + max (-jt) (min jt (r64 (ag - m.a))))
    let v := r64 (m.v + r64 (a * t))
    let i := r64 (m.i + r64 (v * t))
    let left := r64 (target - i)
    if ratSign left ≠ ratSign s ∨ (if left < 0 then -left else left) < t then ({ i := target }, true)
    else ({ i := i, v := v, a := a }, false)

/-- The set-point of the step, rounded to 1 mA: `PRF.SETPOINT`. -/
def Profile.setpoint (p : Profile) : Int := roundAway (p.i * 1000)

/-- Run the generator once. -/
def State.generate (s : State) : State :=
  let p := s.prof
  let stop := p.stopRamp.isSome
  let r := if stop then s.nat P.prfStopRate else s.nat P.prfRate
  let a := if stop then s.nat P.prfStopAccel else s.nat P.prfAccel
  let j := if stop then s.nat P.prfStopJerk else p.jerk
  let (m, ended) := profileStep r a j (r64 ((p.target : Rat) / 1000)) { i := p.i, v := p.v, a := p.a }
  s.modProf fun p => { p with i := m.i, v := m.v, a := m.a, moving := p.moving && !ended }

/-- The profile acts: on the active module while the string is connected and no trip or opening runs; on an orphaned standby
during its stop (R379, R380, R490). -/
def State.profileLive (s : State) : Bool :=
  s.onString && (s.active || s.twin.orphanStop) && !s.prof.tripFrame && decide (s.saf.coil ≠ 0) && s.saf.opening.isNone
    && !s.prof.openWait && decide (s.trs.state ≠ 2)

/-- What the order in force asks of the target before the step (R368, R374, R375). -/
def State.followOrder (s : State) : State :=
  match s.prof.inForce with
  | none => s
  | some o =>
    let i := s.requestOf o
    let s := s.modProf fun p => { p with request := i }
    if o.code = 2 then s.setTarget o (s.prof.granted i)
    else
      let l := s.prof.limit s.prof.target
      -- a limit that has fallen below the target clamps it (R374)
      let s := if l.1 < s.prof.target.natAbs then s.setTarget o (s.prof.target.sign * l.1, l.2) else s
      let g := s.prof.granted i
      if o.code = 1 ∧ !s.prof.moving ∧ 1000 * s.nat P.prfPowerDeadband < (g.1 - s.prof.target).natAbs then s.setTarget o g else s

/-- What the end of a move brings: the pending order, or a limit that has risen (R373, R374). -/
def State.moveEnded (s : State) : State :=
  match s.prof.pendingOrder with
  | some o => (s.modProf fun p => { p with pendingOrder := none }).takeOrder o
  | none => match s.prof.inForce with
    | some o =>
      if 2 ≤ o.code then s
      else
        let g := s.prof.granted (s.requestOf o)
        -- a power request that has drifted within its deadband brings no new target (R368)
        let drifts := decide (o.code = 1) && decide (s.prof.grantFactor = 0)
          && decide ((g.1 - s.prof.target).natAbs ≤ 1000 * s.nat P.prfPowerDeadband)
        if g.1 ≠ s.prof.target && !drifts then s.setTarget o g else s
    | none => s

/-- The string is not connected: no order is in force and the set-point is 0. -/
def State.profileIdle (s : State) : State :=
  let jerk := s.nat P.prfJerk
  s.modProf fun p => { p with
    i := 0, v := 0, a := 0, target := 0, moving := false, pendingOrder := none, jerk := jerk
    inForce := none, request := 0, grant := 0, grantFactor := 0, streamLost := false
    stopRamp := none, openWait := false }

/-! ### Orders (R365 to R367, R371) -/

/-- The SEQ of the order that R367 takes: none of a frame. -/
def timeoutSeq : Nat := 65536

/-- Whether the module refuses an order of a new target, with the reason. -/
def State.targetRefused (s : State) (o : Order) : Option Nat :=
  if s.modes.mode ≠ .m5 then some 1
  else if s.prof.stopRamp == some true || s.prof.openWait || s.saf.opening.isSome then some 3
  else if o.code = 0 ∧ 3200000 < o.value.natAbs then some 4
  else if o.code = 1 ∧ s.busVoltage.isNone then some 5
  else none

/-- Report the outcome of the order handled last. -/
def State.outcome (s : State) (reason : Option Nat) : State :=
  s.modProf fun p => match reason with
    | some r => { p with outcome := 3, factor := r }
    | none => { p with outcome := 0, factor := 0 }

/-- Handle an order at its profile step (R366, R371). -/
def State.handleOrder (s : State) (o : Order) : State :=
  let s := s.modProf fun p => { p with lastSeq := some o.seq, ordersLost := false }
  let s := s.endFault (src 7 30) noItem
  if !s.active then s.outcome (some 2)
  else if o.code ≤ 2 then match s.targetRefused o with
    | some r => s.outcome (some r)
    | none => s.newTarget o
  else if o.code = 3 then
    let s := (s.modPrg fun p => { p with stopSeen := true }).stopAny 0
    (s.modProf fun p => { p with inForce := some o }).outcome none
  else if o.code = 4 then
    if s.modes.mode ≠ .m4 then s.outcome (some 1)
    else
      let (c, s) := s.tryClose
      s.outcome (c.map fun n => if n = 1 then 2 else 6)
  else if o.code = 5 then
    let (c, s) := s.requestDormant 1
    s.outcome (c.map fun _ => 7)
  else s.outcome (if o.code = 6 then none else some 4)

/-- The target and the generator of one step, under a stop ramp or the order in force (R372 to R375, R379). -/
def State.profileMove (s : State) : State :=
  let s := if s.prof.stopRamp.isSome then s else s.followOrder
  let was := s.prof.moving
  let s := s.generate
  let jerk := s.nat P.prfJerk
  if s.prof.stopRamp.isNone && was && !s.prof.moving then (s.modProf fun p => { p with jerk := jerk }).moveEnded else s

/-- The profile step of a cycle (R42, R366): the orders due, the limits, the generator. -/
def State.profileCycle (s : State) : State :=
  let s := s.formLimits
  let s := s.when (!s.onString && !s.twin.orphanStop) State.profileIdle
  let due := (s.prof.waiting.filter fun x => !x.2).map (·.1)
  let s := s.modProf fun p => { p with waiting := (p.waiting.filter (·.2)).map fun x => (x.1, false) }
  let s := s.forAll due fun o s => s.handleOrder o
  let s := s.when s.profileLive State.profileMove
  s.modProf fun p => { p with masters := (p.lateMasters ++ p.masters).take 2, lateMasters := [] }

/-- A notice has been received by the manager (R388). -/
def Notice.acked (n : Notice) (ack : Nat) : Bool := decide (0 ≤ ofPat 32 (ack + 2 ^ 32 - n.number))

/-- `SECTION_ORDER` (R365, R366). -/
def execSectionOrder (f : SectionFrame) (order : Nat) (value : Int) (ack : Nat) (s : State) : Host.Outcome State Fault Refusal :=
  run (fun s => s.sectionTake 1 f (orderBytes order value ack) fun s =>
    let s := s.modTwin fun t => { t with managerAt := some s.time.ns }
    let s := (s.endFault (src 7 12) noItem).modSec fun x => { x with notices := x.notices.filter fun n => !n.acked ack }
    if s.prof.lastSeq = some f.seq ∨ s.prof.waiting.any fun x => decide (x.1.seq = f.seq) then s
    else s.modProf fun p => { p with waiting := p.waiting ++ [({ seq := f.seq, code := order, value := value }, !f.early)] }) s

/-- `MASTER_STREAM_FRAME` (R376, R378). -/
def execMasterStreamFrame (f : SectionFrame) (master : Int) (position reserved : Nat) (s : State) :
    Host.Outcome State Fault Refusal :=
  run (fun s => s.sectionTake 2 f (masterBytes master position reserved) fun s =>
    let time := f.seconds * 1000000000 + f.nanos
    let newest := match s.prof.lateMasters ++ s.prof.masters with | m :: _ => m.time | [] => 0
    if !(s.prof.lateMasters ++ s.prof.masters).isEmpty && decide (time ≤ newest) then
      s.modSec fun x => { x with discards := satU 32 (x.discards + 1) }
    else
      let m : MasterFrame := { time := time, master := master, position := position }
      let g := s.regear position 16 s.prof.gear
      let s := s.modProf fun p => { p with
        masters := if f.early then (m :: (p.lateMasters ++ p.masters)).take 2 else p.masters
        lateMasters := if f.early then [] else m :: p.lateMasters
        gear := g, streamLost := false }
      s.endFault (src 7 31) noItem) s

/-- `ORDER_TIMEOUT` (R367). -/
def execOrderTimeout (s : State) : Host.Outcome State Fault Refusal :=
  run (fun s =>
    if s.modes.mode ≠ .m5 ∨ !s.active ∨ s.prof.ordersLost then s
    else
      let s := (s.modProf fun p => { p with ordersLost := true }).raise (src 7 30) noItem 1
      if s.prof.stopRamp.isSome || s.prof.openWait || s.saf.opening.isSome then s
      else s.newTarget { seq := timeoutSeq, code := 0, value := 0 }) s

/-- `STREAM_TIMEOUT` (R377). -/
def execStreamTimeout (s : State) : Host.Outcome State Fault Refusal :=
  run (fun s =>
    if s.onString && s.active && s.prof.following then
      (s.modProf fun p => { p with streamLost := true }).raise (src 7 31) noItem 1
    else s) s

/-- `STOP_RAMP_COMPLETE` (R379, R443): the ramp has reached 0, and the wait for the opening starts. -/
def execStopRampComplete (s : State) : Host.Outcome State Fault Refusal :=
  run (fun s =>
    if s.prof.stopRamp = some true ∧ s.prof.i = 0 ∧ s.prof.v = 0 ∧ s.prof.a = 0 ∧ s.saf.opening.isNone then
      s.modProf fun p => { p with openWait := true, moving := false }
    else s) s

/-! ### The converter (R382 to R386) -/

/-- Write a frame of 6 bytes and their CRC into the profile's slot `j` (R382). -/
def State.converterFrame (s : State) (j ident : Nat) (d : List Byte) : State :=
  (s.canSlotWrite 0 j { id := ident, fd := decide (s.nat (P.canDataRate 0) ≠ 0), data := d ++ leBytes 2 (crc16 d) }).2

/-- The converter frames of sweep `n` (R383, R384): written by the active module in M4 to M7, and by an orphaned standby. -/
def State.converterFrames (s : State) (n : Nat) : State :=
  let sends := s.flag P.prfConverterEnable && (s.active || s.twin.orphanStop) && decide (4 ≤ s.modes.mode.num)
  if !sends then s.modProf fun p => { p with tripFrame := false }
  else
    let trip := s.prof.tripFrame
    let mode := if trip ∨ s.modes.mode = .m7 then 2 else if s.prof.zeroHold then 0 else if s.onString then 1 else 0
    let value := if mode = 1 then s.prof.setpoint else 0
    let s := if trip ∨ s.prof.firstFrame ∨ n % s.nat P.prfFramePeriod = 0 then
        let c := wrapU 8 (s.prof.countSet + 1)
        (s.modProf fun p => { p with countSet := c, tripFrame := false, firstFrame := false }).converterFrame 0 (s.nat P.prfSetpointId)
          (leBytes 1 c ++ leBytes 1 mode ++ leBytes 4 (patI 32 value))
      else s
    if n % 10 = 0 then
      let c := wrapU 8 (s.prof.countLim + 1)
      (s.modProf fun p => { p with countLim := c }).converterFrame 1 (s.nat P.prfLimitsId)
        (leBytes 1 c ++ leBytes 1 0 ++ leBytes 2 (satU 16 (s.prof.disLimit / 1000)) ++ leBytes 2 (satU 16 (s.prof.chgLimit / 1000)))
    else s

/-- `CONVERTER_STATUS_FRAME` (R386): its CRC-16 covers bytes 0 to 5. -/
def execConverterStatusFrame (crc count convState dis chg : Nat) (s : State) : Host.Outcome State Fault Refusal :=
  run (fun s =>
    if s.canMode 0 = 0 then s
    else if decide (crc ≠ crc16 (wireBytes [(1, count), (1, convState), (2, dis), (2, chg)])) || decide (s.sec.convCount = some count) then s.raise (src 1 31) (itemBus 0) 1 (single := true)
    else
      let s := s.modSec fun x => { x with
        convCount := some count, convState := convState, convDis := dis, convChg := chg, convFresh := true }
      (s.endFault (src 1 30) (itemBus 0)).condition (src 4 30) noItem 2 (decide (convState = 4))) s

/-- The converter's status is missed in M5 or M6 (R386). -/
def State.converterLost (s : State) : State := s.condition (src 1 30) (itemBus 0) 3 (s.onString && !s.sec.convFresh)

/-- `CONVERTER_STATUS_TIMEOUT` (R386). -/
def execConverterStatusTimeout (s : State) : Host.Outcome State Fault Refusal :=
  run (fun s => if s.canMode 0 = 0 then s else (s.modSec fun x => { x with convFresh := false }).converterLost) s

/-! ### Statements and notices (R387, R388) -/

/-- `PRF.PENDING` (R385). -/
def Profile.pendingValue (p : Profile) : Int := match p.pendingOrder with | some o => o.value | none => -2 ^ 31

/-- Saturate at int32. -/
def satI32 (x : Int) : Int := clampI (-2 ^ 31) (2 ^ 31 - 1) x

/-- `EST.STRING_AVAILABLE` and `EST.STRING_HEADROOM` in their unit of 0.1 C. -/
def State.availWord (q : Int) : Int := satI32 (divNear q 100000)

/-- The payload of the statement, field by field (R387). -/
def State.statementBody (s : State) : List (Nat × Nat) :=
  let p := s.prof
  let fall := ofIdx ((List.range 8).filter fun r => (s.loops.get r).fallback)
  let i32 := fun (x : Int) => ((4, patI 32 (satI32 x)) : Nat × Nat)
  [(1, s.modes.mode.num), (1, s.twin.role.num), (1, s.trs.state), (1, s.worst.getD 0xFF), (2, s.est.position), (1, s.est.warn),
   (1, p.outcome), (2, if p.outcome = 0xFF then 0 else p.lastSeq.getD 0), (1, p.factor),
   (1, match p.inForce with | some o => o.code | none => 0xFF), i32 p.request, i32 p.grant, i32 p.pendingValue, i32 p.setpoint,
   i32 s.sec.curMean, (4, s.busVoltage.getD 0xFFFFFFFF), (4, p.disLimit), (4, p.chgLimit), (1, p.disFactor), (1, p.chgFactor),
   (1, ofIdx s.railsInUse), (1, fall), i32 (State.availWord s.est.avail), i32 (State.availWord s.est.headroom), (2, p.overwrites % 65536),
   (2, s.sec.stale % 65536), (4, match s.sec.notices with | n :: _ => n.number | [] => 0)]

/-- `STATEMENT_DUE` (R45, R387): the mean string current of the last 100 ms is formed with it. -/
def execStatementDue (s : State) : Host.Outcome State Fault Refusal :=
  run (fun s =>
    let s := s.modSec fun x => { x with curMean := divNear x.curSum 100, curSum := 0 }
    if !s.netUp then s
    else
      let s := s.modSec fun x => { x with seqStatement := wrapU 16 (x.seqStatement + 1) }
      s.sendSection 3 s.sec.seqStatement s.statementBody) s

/-- Send a notice (R388). -/
def State.sendNotice (s : State) (n : Notice) : State :=
  let s := s.modSec fun x => { x with
    seqNotice := wrapU 16 (x.seqNotice + 1)
    notices := x.notices.map fun m => if m.number = n.number then { m with sent := true } else m }
  s.sendSection 4 s.sec.seqNotice
    [(4, n.number), (1, b2n n.p1), (1, n.cause), (2, n.source), (1, n.grade), (1, n.rail), (2, n.brick)]

/-- The notices of the events of the sweep before are sent (R388). -/
def State.newNotices (s : State) : State :=
  s.when s.active fun s => s.forAll (s.sec.notices.filter fun n => !n.sent) fun n s => s.sendNotice n

/-- `NOTICE_REPEAT_DUE` (R388): an open notice is sent again. -/
def execNoticeRepeatDue (number : Nat) (s : State) : Host.Outcome State Fault Refusal :=
  run (fun s => match s.sec.notices.find? fun n => decide (n.number = number) && n.sent with
    | some n => if s.active ∧ s.netUp then s.sendNotice n else s
    | none => s) s

end Sys2Proof.Machine
end

