-- ==== Sys2Proof/Machine/Twin.lean ====
section
/-! DEFINITION. Twin pairs (chapter 15): the mirror and its blocks, rulings, taking and releasing the active role, joining,
reconciliation, requests between the modules, standing messages; and applying a parameter write at its boundary (chapter 05). -/

namespace Sys2Proof.Machine

open Sys2Proof

/-! ### A parameter write takes effect (R166, R170) -/

/-- What the new value of a parameter does besides standing: SET_TIMING after SWEEP_PHASE (R213), the states of a loop that
stops or changes its sections (R346), PRF.JERK outside a move (R373). -/
def State.paramEffect (s : State) (i : Nat) (old v : Int) : State :=
  let s := s.when (decide (i = P.prfJerk) && !s.prof.moving) fun s => s.modProf fun p => { p with jerk := v.toNat }
  let s := match s.usedLinks.find? fun n => P.lnkSweepPhase n = i with
    | some n => if s.sends n && s.swept n then s.forAll (s.reached n) fun p s => s.setTiming n p true else s
    | none => s
  match (List.range 16).find? fun k => P.loopEnable k = i ∨ P.loopSections k = i with
  | some k =>
    if i = P.loopEnable k then
      if v = 0 then s.modLoop k fun l => { l with
        sections := List.replicate 8 {}, output := 0, y := 0, cPrev := 0, b0 := 0, bump := 0, handover := false, fbInvalid := false, ran := false
        duty := 0, limitRun := 0 }
      else s
    else
      let keep := min old.toNat v.toNat
      s.modLoop k fun l => { l with sections := l.sections.take keep ++ List.replicate (8 - keep) {} }
  | none => s

/-- One entry of a write takes effect at its sweep boundary; a commission-only one enters the working copy (R166, R525, R610). -/
def State.applyParam (s : State) (i : Nat) (v : Int) : State :=
  match wRow i with
  | none => s
  | some r =>
    if i = 0x0360 then s.modNet fun n => { n with sticky := 0 }
    else if i = P.ageReplanRequest then
      s.modAge fun a => { a with request := true, trigger := if a.trigger = 0 then 6 else a.trigger }
    else if r.acc = .co then
      s.modPar fun p => { p with work := p.work.set i (if v = s.val i then none else some v) }
    else
      let old := s.val i
      let s := s.force i v
      let s := s.when (decide (r.kept = 2)) fun s => s.modPar fun p => { p with burst := true }
      s.paramEffect i old v

/-! ### ASSESS (R479) -/

/-- The carrier is built for two modules (R470). -/
def State.paired (s : State) : Bool := s.flag P.twinPaired

/-- A standby or a cold standby. -/
def State.standsBy (s : State) : Bool := decide (s.twin.role = .standby) || decide (s.twin.role = .coldStandby)

/-- The twin port as an item. -/
def itemTwin : Nat := item 10 0 2

/-- Assigned links neither swept nor heard in the last second (R478). -/
def State.linksMissing (s : State) : Nat :=
  satU 8 (s.usedLinks.filter fun n => decide ((s.links.get n).lastFrame + 1000000000 < s.time.ns)).length

/-- All 18 modulator channels are valid (shunts, rail and bus voltages, R81, R266), and LINKS_MISSING is 0. -/
def State.measureOk (s : State) : Bool :=
  (List.range 18).all (fun m => !bitOf s.arch.modFailed m) && (List.range 8).all (fun r => (s.rails.get r).shuntValid)
    && s.sec.bus0.isSome && s.sec.bus1.isSome && decide (s.linksMissing = 0)

/-- The module hears and sends on the twin link: its Network core works (R26). -/
def State.twinUp (s : State) : Bool := s.twin.linkUp && s.coreUp

/-- The mirror formats match. -/
def State.formatsMatch (s : State) : Bool := decide (s.twin.partnerFormat = s.upd.running.mirrorFormat)

/-- What READY asks besides MIRROR_FLOWING: a module that hears no more fragments from a failed partner keeps it, since it
could follow no ruling otherwise (R486, R489; log 22). -/
def State.readyBar (s : State) : Bool :=
  decide (s.twin.role = .standby) && decide (s.twin.sync = 5) && decide (s.settingsCrc = s.par.partnerSettingsCrc)
    && decide (s.setCrc = s.par.partnerSetCrc) && s.measureOk && s.formatsMatch && decide (s.twin.imagesDue = 0) && !s.faultAt 3

/-- READY (R479). -/
def State.ready (s : State) : Bool := s.readyBar && decide (s.twinState = 2)

/-- `TWIN.ASSESS` (R479). -/
def State.assess (s : State) : Nat :=
  ofIdx ((List.range 13).filter fun i => match i with
    | 0 => s.twin.linkUp
    | 1 => decide (s.twinState = 2)
    | 2 => s.ready
    | 3 => decide (3 ≤ s.twin.silentCycles)
    | 4 => s.measureOk
    | 5 => s.sec.convFresh
    | 6 => !s.hasFault (src 7 20)
    | 7 => decide (s.settingsCrc = s.par.partnerSettingsCrc)
    | 8 => decide (s.setCrc = s.par.partnerSetCrc)
    | 9 => s.hasFault (src 7 12)
    | 10 => s.twin.programLag
    | 11 => s.twin.diverge
    | _ => s.hasFault (src 1 11))

/-- The own STATUS block (R474). -/
def State.ownStatus (s : State) : PartnerStatus :=
  { role := s.twin.role.num, mode := s.modes.mode.num, coil := s.saf.coil,
    arming := (match s.saf.close with | some c => decide (c.stage = 0) | none => false), armMask := s.saf.hArmed,
    released := s.twin.released, taking := s.twin.taking, rulingEpoch := s.twin.rulingEpoch, rulingSeq := s.twin.rulingSeq,
    settingsCrc := s.settingsCrc, setCrc := s.setCrc, syncState := s.twin.sync, assess := s.assess,
    dormantReady := s.dormantUnmet.isNone,
    handing := s.modes.dormantEntry && s.modes.dormantSealed }

/-! ### Requests between the modules (R475) -/

/-- Variant code that STRAPS carries: the variant and the -F suffix. -/
def variantCode (x : Identity) : Nat := (match x.variant with | .s128A => 0 | .s128C => 1 | .s128D => 2 | .s064B => 3) + 4 * b2n x.fibre

/-- The decoded straps of the partner (R65, R6): a conflict takes the role away, and leads from M1 to M3 (R93); a module that has left
M1 already keeps to the transitions of R93 (log 178). Another variant makes this module a cold standby. -/
def State.takeStraps (s : State) (str pos variant : Nat) : State :=
  let s := s.modTwin fun t => { t with partnerStraps := some (str, pos, variant) }
  let clash := decide (str ≠ s.stringNo) || decide (pos = s.pos)
  let s := s.when (s.paired || clash) fun s => s.condition (src 7 1) noItem 2 (decide (variant ≠ variantCode s.ident))
  if clash then
    let s := (s.modModes fun m => { m with strapConflict := true }).setRole .none
    let s := s.raise (src 7 4) noItem 4
    s.modModes fun m => { m with bootExit := if decide (m.mode = .m1) && m.bootExit.isNone then some .m3 else m.bootExit }
  else s.endFault (src 7 4) noItem

/-- STRAPS asked by the partner. -/
def State.serveStraps (s : State) (str pos variant : Nat) : State :=
  (s.emit (.twin 0 true [s.stringNo, s.pos, variantCode s.ident])).takeStraps str pos variant

/-- ENUMERATE asked by position A before a role is decided (R203, R219). -/
def State.serveEnumerate (s : State) (n : Nat) : State :=
  if s.linkUsed n && decide (s.pos = 1) && decide (s.twin.role = .none) then
    (s.modLink n fun l => { l with enumByPartner := true }).enumerate n
  else s

/-- IDENTIFY asked by a listener: hops 1 to m + 1 of the links (R223). -/
def State.serveIdentify (s : State) (l : List Nat) : State :=
  if s.active then s.forAll (l.filter s.linkUsed) fun n s =>
    s.forAll (List.range (s.monCount n + 1)) fun h s => s.sendHop n (h + 1) 0x02 []
  else s

/-- OFFSET asked by the partner, received at `rx` (R434): the reply goes out with a stamp request, and its stamp follows it (R523,
log 205). -/
def State.serveOffset (s : State) (rx : Nat) : State :=
  ((s.modTwin fun t => { t with offsetT2 := rx }).emit (.twin 4 true [])).awaitStamp 2 5 s.secs

/-- CHARGE_TOTAL asked by the partner: the logged values at two boundaries of 100 ms, or that the module did not count (R292). -/
def State.serveTotals (s : State) (r b1 b2 : Nat) : State :=
  let log := fun (b : Nat) => ((s.rails.get r).chargeLog.find? fun x => x.1 == b).map (·.2)
  match log b1, log b2 with
  | some v1, some v2 => s.emit (.twin 3 true [r, 1, v1, v2])
  | _, _ => s.emit (.twin 3 true [r, 0])

/-- The bound host slots, with their numbers. -/
def State.boundSlots (s : State) : List (Nat × HostSlot) := (List.range 4).map fun i => (i, s.slot i)

/-- The allowances per engine. -/
def State.allowances (s : State) : List (Nat × Nat × Nat) :=
  (List.range 8).map fun i => let g := s.trs.engines.get (i + 1); (i + 1, g.allowance, g.heat)

/-- A full image of a kind (R475): 0 sessions, 1 slips, 2 program, 3 Treasury, 4 Ledger. -/
def State.image (s : State) (kind : Nat) : Option Bulk := match kind with
  | 0 => some (.sessions s.boundSlots)
  | 1 => some (.slips (s.boundSlots.map fun x => (x.1, x.2.slips, x.2.nextSeq)))
  | 2 => some (.program s.prg.state s.prg.cycles s.prg.inst)
  | 3 => some (.treasury s.trs.state s.allowances)
  | 4 => some (.ledger s.recs.live)
  | _ => none

/-- An image waits for the BULK blocks of the mirror. -/
def State.pushBulk (s : State) (b : Bulk) : State := s.modTwin fun t => { t with bulkOut := t.bulkOut ++ [b] }

/-- IMAGE asked by the partner. -/
def State.serveImage (s : State) (kind : Nat) : State := match s.image kind with
  | some b => if s.active then s.pushBulk b else s
  | none => s

/-- SETTINGS asked by the partner: the sealed settings and the safety set in force. -/
def State.serveSettings (s : State) : State :=
  let s := match s.newest 5 with
    | some (_, r) => match r.content with
      | .settings x a => s.pushBulk (.settings x a)
      | _ => s
    | none => s
  s.pushBulk (.safetySet s.setCrc s.sealedTable)

/-- An issue command of the partner for this module (R636, R638): 0 trial, 1 confirm, 2 reject. -/
def State.serveIssue (s : State) (what number : Nat) : State :=
  let slot := 1 - s.upd.runningSlot
  if what = 0 then
    if !s.upd.trial && decide (s.upd.control.slotState.getD slot 0 = 2) && decide (s.upd.control.slotIssue.getD slot 0 = number)
    then s.startTrial slot number else s
  else if !s.upd.trial then s
  else if what = 1 then s.confirmTrial else s.fallBack 2

/-- A request of the partner. With other mirror formats only STRAPS and OFFSET are served (R496). -/
def State.serveRequest (s : State) (r : TwinReq) : State :=
  match r with
  | .straps a b c => s.serveStraps a b c
  | .offset t => s.serveOffset t
  | .enumerate n => s.serveEnumerate n
  | .identify l => s.serveIdentify l
  | .chargeTotal r a b => s.serveTotals r a b
  | .image k => s.serveImage k
  | .settings => s.serveSettings
  | .issue a n => s.serveIssue a n

/-- A request that is not a row's STRAPS or OFFSET is served while the formats do not differ (R496). -/
def State.sameFormat (s : State) (f : State → State) : State :=
  s.when (s.twinUp && (s.formatsMatch || decide (s.twin.partnerFormat = 0))) f

/-- `TWIN_REQUEST_STRAPS` (R475). -/
def execTwinRequestStraps (str pos variant : Nat) (s : State) : Host.Outcome State Fault Refusal :=
  run (fun s => s.when s.twinUp fun s => s.serveStraps str pos variant) s

/-- `TWIN_REQUEST_ENUMERATE` (R475). -/
def execTwinRequestEnumerate (n : Nat) (s : State) : Host.Outcome State Fault Refusal :=
  run (fun s => s.sameFormat fun s => s.serveEnumerate n) s

/-- `TWIN_REQUEST_IDENTIFY` (R475). -/
def execTwinRequestIdentify (l : List Nat) (s : State) : Host.Outcome State Fault Refusal :=
  run (fun s => s.sameFormat fun s => s.serveIdentify l) s

/-- `TWIN_REQUEST_OFFSET` (R475), received at `rx`. -/
def execTwinRequestOffset (rx : Nat) (s : State) : Host.Outcome State Fault Refusal :=
  run (fun s => s.when s.twinUp fun s => s.serveOffset rx) s

/-- `TWIN_REQUEST_CHARGE_TOTAL` (R475). -/
def execTwinRequestChargeTotal (r b1 b2 : Nat) (s : State) : Host.Outcome State Fault Refusal :=
  if 8 ≤ r then .fault .illFormed else run (fun s => s.sameFormat fun s => s.serveTotals r b1 b2) s

/-- `TWIN_REQUEST_IMAGE` (R475). -/
def execTwinRequestImage (kind : Nat) (s : State) : Host.Outcome State Fault Refusal :=
  run (fun s => s.sameFormat fun s => s.serveImage kind) s

/-- `TWIN_REQUEST_SETTINGS` (R475). -/
def execTwinRequestSettings (s : State) : Host.Outcome State Fault Refusal :=
  run (fun s => s.sameFormat State.serveSettings) s

/-- A full image of a kind is asked for; READY waits for it (R474). -/
def State.askImage (s : State) (kind : Nat) : State :=
  (s.modTwin fun t => { t with imagesDue := putBit t.imagesDue kind true }).emit
    (if kind = 5 then .twin 6 false [] else .twin 5 false [kind])

/-! ### Joining a pair (R493, R494) -/

/-- The role of a module whose partner is active: cold where the formats or the variants differ, or a set was refused (R469). -/
def State.standbyKind (s : State) : Role :=
  let variant := match s.twin.partnerStraps with | some x => decide (x.2.2 ≠ variantCode s.ident) | none => false
  if (!s.formatsMatch && decide (s.twin.partnerFormat ≠ 0)) || variant || s.twin.setRefused then .coldStandby else .standby

/-- The module becomes standby and begins to join (R493). -/
def State.becomeStandby (s : State) : State :=
  (s.modTwin fun t => { t with
    sync := if t.linkUp then 1 else 0, seqIn := List.replicate 5 65536, imagesDue := 0, joinRound := 0, settingsAsked := false
    takeDue := false, taking := false }).setRole s.standbyKind

/-- The links that are not identified yet. -/
def State.unheard (s : State) : List Nat := s.usedLinks.filter fun n => !s.swept n

/-- One look at the stage of joining (R493). -/
def State.joinStep (s : State) : State :=
  if !s.standsBy then s
  else match s.twin.sync with
    | 0 => if s.twin.linkUp then s.modTwin fun t => { t with sync := 1 } else s
    | 1 => if s.twin.partnerStraps.isSome && s.formatsMatch then s.modTwin fun t => { t with sync := 2, settingsAsked := false } else s
    | 2 =>
      if s.settingsCrc = s.par.partnerSettingsCrc ∧ s.setCrc = s.par.partnerSetCrc then
        s.forAll [0, 1, 2, 3, 4] fun k s => (s.modTwin fun t => { t with sync := 3, joinWait := 0 }).askImage k
      else if s.twin.settingsAsked then s
      else (s.modTwin fun t => { t with settingsAsked := true }).emit (.twin 6 false [])
    | 3 =>
      if s.twin.imagesDue = 0 then
        let s := s.modTwin fun t => { t with sync := 4, joinRound := 0 }
        s.when (!s.unheard.isEmpty) fun s => s.emit (.twin 2 false (s.unheard.map fun n => (n : Int)))
      -- an image that has not come is asked for again; after 1,000 boundaries is the model's choice (log 204)
      else if s.twin.joinWait < 1000 then s.modTwin fun t => { t with joinWait := t.joinWait + 1 }
      else s.forAll (maskIdx 5 s.twin.imagesDue) fun k s => (s.modTwin fun t => { t with joinWait := 0 }).askImage k
    | 4 => if s.unheard.isEmpty && s.modes.settled && decide (s.twin.joinRound = 2) then s.modTwin fun t => { t with sync := 5 } else s
    | _ => s

/-- Settings of the partner as this module's working copy (R494): every value that differs. -/
def State.adopt (s : State) (x : Settings) (anchors : List (Option (List Byte))) : State :=
  let keys := s.par.force.map (·.1) ++ x.values.map (·.1)
  let work := keys.foldl (fun (t : Table (Option Int)) i => match wRow i with
    | some r => if r.kept = 2 then t.set i (some ((x.values.get i).getD (dfltOf s.ident i))) else t
    | none => t) []
  (((s.modPar fun p => { p with work := work, committing := true, burst := false }).modUpd fun u => { u with
    anchorsWork := anchors }).queueVault 4)

/-- The safety set of the partner, checked by both sides as under step 1 of R184: its CRC-32 recomputed, and the ranges of its values,
of which Strongroom checks those it uses; brought into force and sealed, or refused (R494, R495). -/
def State.adoptSet (s : State) (crc : Nat) (entries : Table (Option Int)) : State :=
  let value := fun (i : Nat) => (entries.get i).getD (dfltOf s.ident i)
  let l := sealedIdx.map fun i => (i, value i)
  if setCrcOf value = crc ∧ l.all inRange then
    let s := (s.modPar fun p => { p with confirmedSet := some l }).queueVault 2
    let s := s.modTwin fun t => { t with setRefused := false }
    -- a joining module restarts once both copies are sealed
    if s.twin.sync = 2 ∧ !s.par.committing then (s.modPar fun p => { p with committing := true }).queueVault 4 else s
  else
    let s := (s.modTwin fun t => { t with setRefused := true }).raise (src 7 13) noItem 2
    s.when s.standsBy fun s => s.setRole .coldStandby

/-- An image of an issue or a program from the partner (R635, R634, R546): staged, verified and sealed here. -/
def State.stageImage (s : State) (kind number result : Nat) (c : Content) (info : IssueInfo) : State :=
  let r := if result ≠ 0 then result else if kind = 1 then 0
    else if s.ident.romLevel < info.romMin then 4 else if info.security < s.upd.floor then 5 else 0
  let slot := s.imageSlot kind
  if s.upd.holder.isSome then s.emit (.twin 5 true [6])
  else
    let s := s.day 0x0048 (s.nat (P.netPosAddr (1 - s.pos)))
    let s := s.modVault fun v => { v with
      records := v.records.set (64 * imageRegion kind + slot) (if r = 0 then some { generation := 1, time := s.secs, content := c } else none) }
    let s := s.modUpd fun u => { u with
      stagedResult := r, stagedProgram := (match c with | .program p => if r = 0 then some p else u.stagedProgram | _ => u.stagedProgram) }
    let s := s.when (decide (kind = 0)) fun s => s.setSlot slot (if r = 0 then 2 else 5) (if r = 0 then number else 0)
    let s := if r = 0 then s.day 0x004B (number + 65536 * slot + 2 ^ 24 * kind) else s.day 0x004C (r + 256 * slot)
    (s.day 0x0049 1).emit (.twin 5 true [r])

/-- An image has arrived (R474). -/
def State.imageIn (s : State) (kind : Nat) : State := s.modTwin fun t => { t with imagesDue := putBit t.imagesDue kind false }

/-- What a BULK block carries, once it is complete. -/
def State.applyBulk (s : State) (b : Bulk) : State :=
  match b with
  | .settings x a =>
    let s := s.imageIn 5
    if x.crc = s.settingsCrc ∨ s.par.committing then s else s.adopt x a
  | .safetySet c e => if s.par.partnerSetCrc = s.setCrc then s else s.adoptSet c e
  | .sessions l => (s.imageIn 0).modTwin fun t => { t with mirSlots := l.foldl (fun t x => t.set x.1 x.2) t.mirSlots }
  | .slips l => (s.imageIn 1).modTwin fun t => { t with
      mirSlots := l.foldl (fun t x => t.modify x.1 fun h => { h with slips := x.2.1, nextSeq := x.2.2 }) t.mirSlots }
  | .program st n i => ((s.imageIn 2).modPrg fun p => { p with inst := i, cycles := n }).modTwin fun t => { t with programWasRun := decide (st = 1) }
  | .treasury st l => (s.imageIn 3).modTwin fun t => { t with mirTreasury := some (st, l) }
  | .ledger l => (s.imageIn 4).modRecs fun r => { r with live := l }
  | .issueImage i r => s.stageImage 0 i.number r (.issue i) i
  | .programImage p r => s.stageImage 1 0 r (.program p) {}

/-! ### Taking and releasing the active role (R483 to R489) -/

/-- A host slot as the new active module serves it (R146): stored replies without payload, requests in progress aborted. -/
def HostSlot.moved (h : HostSlot) : HostSlot :=
  let wicketOf := fun (w : WicketSt) =>
    let aborted : Reply := refusal 0x06 0
    match w.inProgress with
    | some q => { w with lastSeq := q, lastCode := w.curCode, stored := some aborted, inProgress := none }
    | none => { w with stored := w.stored.map fun r => { outcome := r.outcome, fieldOffset := 0, epoch := r.epoch, flags := r.flags ||| 16 } }
  { h with session := h.session.map fun x => { x with wickets := x.wickets.mapVals wicketOf } }

/-- The requests in progress at a role transfer get their final reply from the module that serves them now (R146). -/
def State.abortMoved (s : State) (i : Nat) (h : HostSlot) : State :=
  match h.session with
  | none => s
  | some x => s.forAll (List.range 16) fun k s =>
    let w := x.wickets.get k
    match w.inProgress with
    | some q =>
      let f : Frame := { src := h.addr.getD 0, port := h.port, via := if x.service then 2 else 1, dport := s.nat P.wktUdpPort, host := i
                         wicket := k, seq := q, session := x.token, code := w.curCode, priority := w.curCls }
      s.answer f w.curCode (refusal 0x06 0)
    | none => s

/-- The sessions and slips of the mirror are served here from now on. -/
def State.takeSlots (s : State) : State :=
  s.forAll (List.range 4) fun i s =>
    let h := s.twin.mirSlots.get i
    if h.addr.isSome then (s.modSlot i fun _ => h.moved).abortMoved i h else s

/-- The program after a take (R488), and the end of a hold: the profile at zero, and no hold ramp (R109). -/
def State.takeProgram (s : State) : State :=
  let lag := match s.twin.partner with | some p => bitOf p.assess 10 | none => false
  let hold := decide (s.modes.mode = .m6)
  let s := s.when hold fun s =>
    let s := s.modProf fun p => { p with
      i := 0, v := 0, a := 0, target := 0, moving := false, pendingOrder := none
      stopRamp := if p.stopRamp = some true then some true else none }
    (s.setMode .m5 0).modPrg fun p => { p with stopCause := 5 }
  if s.twin.programWasRun && !lag && !hold && s.upd.present.isSome then
    ((s.setProgram 1).endFault (src 5 31) noItem).modPrg fun p => { p with instCrc := (match s.upd.present with | some i => i.crc | none => 0) }
  else if lag || hold then s.setProgram 0 else s

/-- The module takes the active role (R484, R486 to R489, R504). -/
def State.takeRole (s : State) : State :=
  let was := decide (s.twin.role = .standby)
  let lastGap := match s.twin.gap with
    | some r => min s.twin.silence ((s.time.sweep + 2 ^ 32 - 1 - r) % 2 ^ 32)
    | none => s.twin.silence
  let s := s.stopSurvey 3
  let s := s.setRole .active
  let s := s.modTwin fun t => { t with
    pagesOut := [], mirInst := [], mirProgram := 0, programLag := false
    taking := false, takeDue := false, released := false, gap := none, sync := 0, delayLink := some 0, timingNext := 0
    switchovers := if was then satU 32 (t.switchovers + 1) else t.switchovers
    lastGap := if was then min lastGap 255 else t.lastGap, lastSilence := if was then satU 16 t.silence else t.lastSilence
    lastSwitchTime := if was then s.sec32 else t.lastSwitchTime }
  let s := if was then s.takeSlots.takeProgram else s
  let s := s.modProf fun p => { p with firstFrame := true }
  let s := { s with loops := (List.range 16).foldl (fun t k => t.modify k fun l => { l with handover := true, ran := false }) s.loops }
  let held := decide (s.val P.netRoleAddr ≠ 0) && decide (s.val (P.netPosAddr s.pos) ≠ 0)
  let s := s.when held fun s => (s.modNet fun n => { n with roleHeld := true, arpLeft := 2 }).emit (.arp 3 (s.nat P.netRoleAddr) true)
  s.when (s.modes.mode.runs || decide (s.modes.mode = .m7)) State.startNodes

/-- The module releases the active role (R483): it stops transmitting and becomes standby. -/
def State.releaseRole (s : State) : State :=
  let s := s.endTest 3
  let s := s.stopSurvey 3
  let s := (s.stopProgram 5).canRelease
  let s := s.forAll (List.range 4) fun i s => match (s.slot i).session with
    | some _ =>
      let s := s.modSlot i fun h => h.addSlip 0x0007 0 0xFF s.time.ns [(4, s.nat (P.netPosAddr (1 - s.pos)))]
      -- the slip goes out, behind all that wait before it, while the session is still open (R146, R147)
      (s.forAll (List.range 9) fun _ s => s.sendBatch i).closeSession i 5
    | none => s
  let s := s.modNet fun n => { n with roleHeld := false, arpLeft := 0 }
  let s := s.modTherm fun t => { t with pwm := List.replicate 8 0 }
  let s := s.becomeStandby
  let s := s.modTwin fun t => { t with released := true, releaseDue := false, programLag := false, delayLink := none, roundNext := none, silence := 0 }
  -- fragment 0 with RELEASED goes out at +20 us (R483)
  s.emit (.mirror s.time.sweep [.status s.ownStatus])

/-- `RULING` (R480 to R485). -/
def execRuling (f : SectionFrame) (ruling active : Nat) (s : State) : Host.Outcome State Fault Refusal :=
  run (fun s => s.sectionTake 6 f (rulingBytes ruling active) fun s =>
    let s := s.modTwin fun t => { t with managerAt := some s.time.ns }
    let newer := decide (s.twin.rulingEpoch < f.epoch) || decide (s.twin.ruling = 0)
      || (decide (s.twin.rulingEpoch = f.epoch) && decide (0 < ofPat 16 (f.seq + 2 ^ 16 - s.twin.rulingSeq)))
    if !newer then s
    else
      let s := (s.endFault (src 7 12) noItem).modTwin fun t => { t with
        rulings := satU 32 (t.rulings + 1), ruling := ruling, rulingPos := active, rulingSeq := f.seq, rulingEpoch := f.epoch }
      let s := s.day 0x0005 (ruling + 256 * active + 65536 * f.seq)
      if !s.paired then s
      else
        let mine := decide (active = s.pos)
        let partner := s.twin.partner
        let partnerActive := match partner with | some p => decide (p.role = 1) | none => false
        let silent := decide (3 ≤ s.twin.silentCycles)
        match s.twin.role with
        | .active =>
          if mine ∨ ruling ≠ 2 then s
          else
            let ok := silent || (match partner with | some p => bitOf p.assess 2 | none => false)
            if ok then s.modTwin fun t => { t with releaseDue := true }
            else s.modTwin fun t => { t with refused := satU 32 (t.refused + 1) }
        | .none =>
          -- the start rule (R484); one that comes in M1 stands until M1 is finished
          if !mine then s.modTwin fun t => { t with takeDue := false }
          else if decide (s.modes.mode ≠ .m2) && !s.modes.strapConflict && (decide (s.modes.mode = .m1) || silent || !partnerActive) then
            s.modTwin fun t => { t with takeDue := true }
          else s
        | _ =>
          if !mine ∨ ruling ≠ 2 then s
          else if s.readyBar then s.modTwin fun t => { t with taking := true, heardSince := false, gap := some s.time.sweep }
          else s.modTwin fun t => { t with refused := satU 32 (t.refused + 1) }) s

/-- `ROLE_TAKE_TIMEOUT` (R483): the third sweep boundary after the ruling; no fragment 0 has come since, or they have stopped. -/
def execRoleTakeTimeout (s : State) : Host.Outcome State Fault Refusal :=
  run (fun s => if s.twin.taking && (!s.twin.heardSince || decide (3 ≤ s.twin.silentCycles)) then s.takeRole else s) s

/-- After a take the delays of one link are measured in each cycle (R489). -/
def State.delayStep (s : State) : State :=
  match s.twin.delayLink with
  | none => s
  | some i => match s.usedLinks[i]? with
    | some n =>
      let s := s.modTwin fun t => { t with delayLink := some (i + 1) }
      if s.active && s.swept n then s.forAll (s.reached n) fun p s => s.measureDelay n p false else s
    | none => s.modTwin fun t => { t with delayLink := none }

/-- The end of a cycle without or with a SAMPLE on the rings, for LAST_SILENCE (R487), and the age of the partner's newest
fragment 0 (R477). -/
def State.countSilence (s : State) : State :=
  let heard := s.usedLinks.any fun n => (s.links.get n).sampled
  s.modTwin fun t => { t with silence := if heard then 0 else t.silence + 1, silentCycles := satU 16 (t.silentCycles + 1) }

/-! ### The mirror as it arrives (R474, R476) -/

/-- The standby follows the active module's coil word (R412), and arms its H-switches as a close starts (R415); P-switches
stay open while a trip of its own stands. -/
def State.followStatus (s : State) (old : Option PartnerStatus) (p : PartnerStatus) : State :=
  let was := match old with | some q => q.arming | none => false
  let starts := p.arming && !was
  let s := if starts && !s.anyDemand && !s.faultAt 4 then
      let s := (s.modSaf fun x => { x with tripReq := false }).modPower fun y => { y with presenceHeld := false }
      s.emit (.strongroom 0x3C5A 0xFFFFF)
    else s
  -- a stopped Guard core toggles no keep signal (R20, R23)
  let word := if s.saf.tripReq || s.arch.guardStopped then 0 else p.coil
  let s := s.when (decide (s.saf.coil ≠ 0) && decide (word = 0)) fun s => s.emit (.strongroom 0x5AA5 0)
  s.modSaf fun x => { x with coil := word, keep := word, chopping := x.chopping &&& word }

/-- The mode of the active module is taken (R95, R104). -/
def State.followMode (s : State) (p : PartnerStatus) : State :=
  let m := match p.mode with | 4 => some Mode.m4 | 5 => some .m5 | 6 => some .m6 | _ => none
  let own := s.modes.mode
  match m with
  | some m => if own = .m4 ∨ own = .m5 ∨ own = .m6 then s.setMode m 0 else s
  | none => s

/-- The partner's STATUS block takes effect (R474, R483 to R485, R469). -/
def State.applyStatus (s : State) (p : PartnerStatus) : State :=
  let old := s.twin.partner
  let s := (s.modTwin fun t => { t with partner := some p }).modPar fun x => { x with
    partnerSetCrc := p.setCrc, partnerSettingsCrc := p.settingsCrc }
  if !s.paired then s
  else
    let differ := decide (p.setCrc ≠ s.setCrc) || decide (p.settingsCrc ≠ s.settingsCrc) || s.twin.setRefused
    let s := s.condition (src 7 13) noItem 2 differ
    let s := s.condition (src 7 11) noItem 2 (!s.formatsMatch && decide (s.twin.partnerFormat ≠ 0))
    let joins := decide (s.twin.role = .none) && decide (p.role = 1) && !s.modes.strapConflict
      && decide (s.modes.mode ≠ .m1) && decide (s.modes.mode ≠ .m2)
    let s := s.when joins State.becomeStandby
    let s := s.when s.standsBy fun s => s.setRole s.standbyKind
    -- both show the active role (R485)
    let older := decide (s.twin.rulingEpoch < p.rulingEpoch) || (decide (s.twin.rulingEpoch = p.rulingEpoch)
      && (decide (ofPat 16 (s.twin.rulingSeq + 2 ^ 16 - p.rulingSeq) < 0)
        || (decide (s.twin.rulingSeq = p.rulingSeq) && decide (s.twin.rulingPos ≠ s.pos))))
    let s := s.when (s.active && decide (p.role = 1) && older) fun s => s.modTwin fun t => { t with releaseDue := true }
    let s := s.when (s.standsBy && decide (p.role = 1)) fun s => (s.followStatus old p).followMode p
    let s := s.when s.standsBy fun s => s.modTwin fun t => { t with released := t.released && decide (p.role ≠ 1) }
    if p.released && s.twin.taking then s.takeRole else s

/-- A block of a sequence: a gap asks for a full image of its kind (R474). Place 0 sessions, 1 slips, 2 program, 3 Ledger, 4 PARAM. -/
def State.seqTake (s : State) (k seq : Nat) : State :=
  let e := s.twin.seqIn.getD k 65536
  let s := s.when (decide (e ≠ 65536) && decide (e ≠ seq)) fun s => s.askImage (if k < 3 then k else k + 1)
  s.modTwin fun t => { t with seqIn := updAt t.seqIn k fun _ => wrapU 16 (seq + 1) }

/-- The own A_b at the sweep of a RECONCILE block (R491): without what has been booked in the sweeps after it. -/
def State.aboveAt (s : State) (b sweep : Nat) : Int :=
  let x := s.bricks.get b
  let later := s.est.history.takeWhile fun h => decide (0 < ofPat 32 (h.1 + 2 ^ 32 - sweep))
  let rail := match s.railOf (b / 24) with | some r => later.foldl (fun a h => a + h.2.getD r 0) 0 | none => 0
  x.above - rail - (if s.time.sweep = sweep then 0 else x.shuttleNow)

/-- One brick of a RECONCILE block (R491): aligned, counted as an outlier, or skipped. -/
def State.reconcileBrick (s : State) (sweep : Nat) (x : Nat × Int × Nat × Int × Bool) : State :=
  let (b, _, c, a, skip) := x
  let own := s.bricks.get b
  let row := s.rows.get b
  if skip || !s.brickUsed b || bitOf row.status 6 || bitOf row.status 7 || bitOf own.flags 1 then s
  else
    let d := s.aboveAt b sweep - a
    let joining := decide (s.twin.sync = 4)
    if joining || decide ((d.natAbs : Nat) * 10000 ≤ s.nat P.twinReconcileTol * (c * 100000)) then
      s.modBrick b fun y => y.glided { y with c := c, e := y.e + d }
    else s.modTwin fun t => { t with outliersNow := t.outliersNow + 1 }

/-- A RECONCILE block (R491, R493). -/
def State.reconcile (s : State) (sweep : Nat) (l : List (Nat × Int × Nat × Int × Bool)) (last : Bool) : State :=
  let first := match l with | x :: _ => decide (s.usedBricks.head? = some x.1) | [] => s.usedBricks.isEmpty
  let s := s.when (first && decide (s.twin.sync = 4)) fun s => s.modTwin fun t => { t with joinRound := 1 }
  let s := s.when first fun s => s.modTwin fun t => { t with outliersNow := 0 }
  let s := s.forAll l fun x s => s.reconcileBrick sweep x
  s.when last fun s => s.modTwin fun t => { t with
    outliers := t.outliersNow, diverge := decide (0 < t.outliersNow), joinRound := if t.joinRound = 1 then 2 else t.joinRound }

/-- A SURVEY block: the standby captures with the active module, and ends with it (R324). -/
def State.applySurvey (s : State) (number rail t0 st : Nat) : State :=
  let n := (s.time.sweep + 2 ^ 32 - t0) % 2 ^ 32
  let s := s.modSurvey fun v => { v with number := number }
  if 2 ≤ st ∧ st ≤ 4 ∧ (s.survey.state = 0 ∨ s.survey.running ≠ number) then
    let s := s.modSurvey fun v => { v with
      state := st, rail := rail, running := number, sweeps := n, ticks := 20 * n, period := (if st = 2 then 0 else n / 10000), clips := 0
      shuntVoid := 0, bricks := [], blocks := [], currents := [], engineReset := false, ending := none, weight := 0, ramp := 0
      scheduled := false, follow := true }
    -- a partner that transmits on links of the rail sends their SAMPLE and FETCH frames
    s.forAll (s.linksOf rail) fun n s => s.modLink n fun l => { l with capture := true }
  else if st = 0 ∧ 2 ≤ s.survey.state ∧ s.survey.state ≤ 4 then
    (s.endCapture).modSurvey fun v => { v with state := 0, rail := 0xFF, period := 0, weight := 0, ramp := 0, ending := none, follow := false }
  else s

/-- A PROFILE block: the standby's generator tracks it (R488). -/
def State.applyProfile (s : State) (i v a : Rat) (target : Int) (waiting inForce : Option Order) (lastSeq : Option Nat)
    (stopRamp : Option Bool) (openWait : Bool) (gear countSet countLim : Nat) : State :=
  s.modProf fun p => { p with
    i := i, v := v, a := a, target := target, pendingOrder := waiting, inForce := inForce, lastSeq := lastSeq
    stopRamp := stopRamp, openWait := openWait, gear := gear, countSet := countSet, countLim := countLim
    moving := decide (v ≠ 0) || decide (a ≠ 0) || decide (i ≠ r64 ((target : Rat) / 1000)) }

/-- A LEDGER block (R587). -/
def State.applyLedger (s : State) (adds : List (Nat × Nat × Int)) (exts : List (Nat × Nat × Nat × Int × Nat)) : State :=
  let s := s.forAll adds fun x s => s.modLed x.1 fun r => { r with words := r.words.modify x.2.1 fun y => min (y + x.2.2) (2 ^ 32 - 1) }
  s.forAll exts fun x s => s.modLed x.1 fun r => { r with words := (r.words.set x.2.1 x.2.2.2.1).set x.2.2.1 x.2.2.2.2 }

/-- One block takes effect at its boundary (R476). -/
def State.applyBlock (s : State) (b : MirrorBlock) : State :=
  match b with
  | .status p => s.applyStatus p
  | .request r => s.serveRequest r
  | .bulk b => if s.paired then s.applyBulk b else s
  | .profile i v a t w o q r ow g cs cl => s.when s.standsBy fun s => s.applyProfile i v a t w o q r ow g cs cl
  | .param q l acks => s.when s.standsBy fun s =>
      let s := (s.seqTake 4 q).forAll l fun x s => s.applyParam x.1 x.2
      s.forAll acks fun a s => ((s.ackFaults a).2).ackEffects a
  | .sessions q l => s.when s.standsBy fun s => (s.seqTake 0 q).modTwin fun t => { t with
      mirSlots := l.foldl (fun t x => t.modify x.1 fun h => { x.2 with slips := h.slips, nextSeq := h.nextSeq }) t.mirSlots }
  | .slips q l => s.when s.standsBy fun s => (s.seqTake 1 q).modTwin fun t => { t with
      mirSlots := l.foldl (fun t x => t.modify x.1 fun h => { h with slips := x.2.1, nextSeq := x.2.2 }) t.mirSlots }
  | .survey n r t st => s.when s.standsBy fun s => s.applySurvey n r t st
  | .treasury st l => s.when s.standsBy fun s => s.modTwin fun t => { t with mirTreasury := some (st, l) }
  | .program q st n l => s.when s.standsBy fun s =>
      let s := (s.seqTake 2 q).modPrg fun p => { p with
        cycles := n, inst := p.inst.map fun x => match l.find? fun y => y.1 == x.1 with | some y => y | none => x }
      s.modTwin fun t => { t with programWasRun := decide (st = 1) }
  | .ledger q a e => s.when s.standsBy fun s => (s.seqTake 3 q).applyLedger a e
  | .reconcile k l last => s.when (decide (s.twin.role = .standby)) fun s => s.reconcile k l last
  | .linkTiming n l => s.when s.standsBy fun s => s.forAll l fun x s => s.modMon n x.1 fun m => { m with
      delay := x.2.1, slot := x.2.2.1, owd := x.2.2.2 }

/-- At a sweep boundary: the blocks that wait, then the role changes that are due (R476, R483, R484). -/
def State.applyMirror (s : State) : State :=
  let l := s.twin.waiting
  let s := (s.modTwin fun t => { t with waiting := [] }).forAll l fun b s => s.applyBlock b
  let s := s.when (s.active && s.twin.releaseDue) State.releaseRole
  let free := decide (3 ≤ s.twin.silentCycles) || (match s.twin.partner with | some p => decide (p.role ≠ 1) | none => true)
  let done := decide (s.modes.mode ≠ .m1) && decide (s.modes.mode ≠ .m2) && !s.modes.strapConflict
  let s := s.when (decide (s.twin.role = .none) && s.twin.takeDue && done && free) State.takeRole
  s.joinStep

/-- The block of a fragment is read: with other formats, or as a cold standby, STATUS and requests alone (R496). -/
def State.readsBlock (s : State) (b : MirrorBlock) : Bool :=
  match b with
  | .status _ | .request (.straps _ _ _) | .request (.offset _) => true
  | _ => s.formatsMatch && decide (s.twin.role ≠ .coldStandby)

/-- `MIRROR_FRAGMENT` (R472, R476). -/
def execMirrorFragment (x : MirrorFrame) (s : State) : Host.Outcome State Fault Refusal :=
  run (fun s =>
    if !s.twinUp then s
    else if !x.accepts then
      s.when (decide (x.frag = 0)) fun s => s.modTwin fun t => { t with mirrorMissed := satU 32 (t.mirrorMissed + 1) }
    else
      let first := decide (x.frag = 0)
      let late := first && decide (2 ≤ ofPat 32 (s.time.sweep + 2 ^ 32 - x.sweep))
      let s := s.modTwin fun t => { t with
        partnerFormat := x.format, silentCycles := if first then 0 else t.silentCycles, heardSince := t.heardSince || first
        mirrorLate := if late then satU 32 (t.mirrorLate + 1) else t.mirrorLate }
      let s := s.when first fun s => (s.endFault (src 7 12) noItem).endFault (src 7 10) itemTwin
      -- other fragments that complete after their fragment 0 has been applied take effect at once
      let l := x.blocks.filter s.readsBlock
      if first ∨ s.twin.waiting ≠ [] then s.modTwin fun t => { t with waiting := t.waiting ++ l }
      else s.forAll l fun b s => s.applyBlock b) s

/-! ### The mirror as it is sent (R473, R474) -/

/-- The host slots whose session state, or whose slips, have changed since they were sent. -/
def State.slotChanges (s : State) (slips : Bool) : List Nat :=
  (List.range 4).filter fun i =>
    let a := s.slot i
    let b := s.twin.mirSlots.get i
    if slips then decide (a.slips ≠ b.slips) || decide (a.nextSeq ≠ b.nextSeq)
    else decide ({ a with slips := [], nextSeq := 0 } ≠ { b with slips := [], nextSeq := 0 })

/-- The RECONCILE block of this cycle, and whether it is the round's last (R491). -/
def State.reconcileBlock (s : State) : List MirrorBlock :=
  match s.twin.roundNext with
  | none => []
  | some i =>
    let l := (s.usedBricks.drop i).take 64
    [.reconcile s.time.sweep (l.map fun b =>
      let x := s.bricks.get b
      let row := s.rows.get b
      (b, x.e, x.c, x.above, bitOf row.status 6 || bitOf row.status 7 || bitOf x.flags 1)) (decide (s.usedBricks.length ≤ i + 64))]

/-- A page of 4 KiB of the instance data, 8 bytes for each variable in their order (R474; log 203). -/
def programPage (l : List (Nat × Nat × Nat)) (k : Nat) : List (Nat × Nat × Nat) := (l.drop (512 * k)).take 512

/-- The pages that have changed since `old` (R474). -/
def changedPages (l old : List (Nat × Nat × Nat)) : List Nat :=
  (List.range ((l.length + 511) / 512)).filter fun k => decide (programPage l k ≠ programPage old k)

/-- Program pages that one cycle sends: 64 fragments of at most 1,480 bytes of blocks (R472, R473; log 203). -/
def mirrorPages : Nat := 23

/-- LINK_TIMING of four links in turn (R474). -/
def State.timingBlocks (s : State) : List MirrorBlock :=
  ((s.usedLinks.drop s.twin.timingNext).take 4).map fun n =>
    .linkTiming n ((List.range (s.monCount n)).map fun p => let m := s.mon n p; (p, m.delay, m.slot, m.owd))

/-- Send a numbered block: its sequence rises. -/
def State.nextSeqOut (s : State) (k : Nat) : State :=
  s.modTwin fun t => { t with seqOut := updAt t.seqOut k fun n => wrapU 16 (n + 1) }

/-- The mirror of the cycle that ends (R473): every module its STATUS, the active module every block. -/
def State.mirrorSend (s : State) : State :=
  let status : MirrorBlock := .status s.ownStatus
  if !s.twin.linkUp then (s.modTwin fun t => { t with paramOut := [], ackOut := [] }).modRecs fun r => { r with adds := [], exts := [] }
  else if !s.twinUp then s
  else if !s.active then s.emit (.mirror s.time.sweep [status])
  else
    let p := s.prof
    let q := fun (k : Nat) => s.twin.seqOut.getD k 0
    let ses := s.slotChanges false
    let sl := s.slotChanges true
    let surv := decide (s.twin.mirSurvey ≠ (s.survey.number, s.survey.state))
    let par := !s.twin.paramOut.isEmpty || !s.twin.ackOut.isEmpty
    let due := decide (s.prg.state = 1) && decide (0 < s.prg.period) && decide (s.time.sweep % s.prg.period = 0)
    let pages := s.twin.pagesOut ++ (if due then (changedPages s.prg.inst s.twin.mirInst).filter (!s.twin.pagesOut.contains ·) else [])
    let prg := due || !pages.isEmpty || decide (s.prg.state ≠ s.twin.mirProgram)
    let led := !s.recs.adds.isEmpty || !s.recs.exts.isEmpty
    let blocks := [status, .profile p.i p.v p.a p.target p.pendingOrder p.inForce p.lastSeq p.stopRamp p.openWait p.gear p.countSet p.countLim]
      ++ (if par then [.param (q 4) s.twin.paramOut s.twin.ackOut] else [])
      ++ (if ses.isEmpty then [] else [.sessions (q 0) (ses.map fun i => (i, s.slot i))])
      ++ (if sl.isEmpty then [] else [.slips (q 1) (sl.map fun i => (i, (s.slot i).slips, (s.slot i).nextSeq))])
      ++ (if surv then [.survey s.survey.number s.survey.rail ((s.time.sweep + 2 ^ 32 - s.survey.sweeps) % 2 ^ 32) s.survey.state] else [])
      ++ (if s.time.ns / 1000000 % 100 = 0 then [.treasury s.trs.state s.allowances] else [])
      ++ (if prg then [.program (q 2) s.prg.state s.prg.cycles ((pages.take mirrorPages).flatMap (programPage s.prg.inst))] else [])
      ++ (if led then [.ledger (q 3) s.recs.adds s.recs.exts] else [])
      ++ s.reconcileBlock ++ s.timingBlocks ++ (s.twin.bulkOut.take 1).map .bulk
    let s := s.emit (.mirror s.time.sweep blocks)
    let s := (s.when par fun s => s.nextSeqOut 4).when (!ses.isEmpty) fun s => s.nextSeqOut 0
    let s := (s.when (!sl.isEmpty) fun s => s.nextSeqOut 1).when prg fun s => s.nextSeqOut 2
    let s := s.when led fun s => s.nextSeqOut 3
    let s := s.modRecs fun r => { r with adds := [], exts := [] }
    let n := s.usedBricks.length
    let m := s.usedLinks.length
    s.modTwin fun t => { t with
      paramOut := [], ackOut := [], bulkOut := t.bulkOut.drop 1, pagesOut := pages.drop mirrorPages, mirProgram := s.prg.state
      mirInst := (if due then s.prg.inst else t.mirInst), programLag := (if due then !t.pagesOut.isEmpty else t.programLag), mirSurvey := (s.survey.number, s.survey.state)
      mirSlots := (List.range 4).foldl (fun (x : Table HostSlot) i => x.set i (s.slot i)) []
      timingNext := if m ≤ t.timingNext + 4 then 0 else t.timingNext + 4
      roundNext := match t.roundNext with | some i => if n ≤ i + 64 then none else some (i + 64) | none => none }

/-! ### Replies, link events and timers -/

/-- The first boundary of 100 ms after a gap, with the rail's logged total (R290, R292). -/
def State.gapEnd (s : State) (r : Nat) : Option (Nat × Int) :=
  ((s.rails.get r).chargeLog.filter fun x => decide (s.est.gapTo ≤ x.1 * 100000000)).getLast?

/-- The partner's totals of a gap have come: the rail's charge is booked exactly, less what this module has counted itself up to
the later boundary, or by estimate from the checkpoint to the first sweep counted (R290, R292). -/
def State.totalsIn (s : State) (r : Nat) (totals : Option (Int × Int)) : State :=
  match s.est.gapRails.find? fun x => x.1 == r, s.est.gapFrom with
  | some (_, i0, base), some t =>
    let s := s.modEst fun e => { e with gapRails := e.gapRails.filter fun x => x.1 != r }
    let own := match s.gapEnd r with | some x => x.2 - base | none => 0
    let counted := s.est.history.length - 1
    let core := s.est.gapCore
    let gap := if core.isSome then (s.est.gapTo - t) / 1000000 else (s.time.lastEpoch - t) / 1000000 - counted
    let s := match totals with
      | some (v1, v2) => (s.bookGap r (v2 - v1 - own) core).gapMark r 0 false
      | none => s.bookEstimate r gap i0 (s.rails.get r).current core
    if s.est.gapRails.isEmpty then s.modEst fun e => { e with gapFrom := none, gapAsked := false } else s
  | _, _ => s

/-- `TWIN_REPLY` (R475). -/
def execTwinReply (r : TwinReply) (s : State) : Host.Outcome State Fault Refusal :=
  run (fun s =>
    if !s.twinUp then s
    else match r with
    | .straps a b c => s.takeStraps a b c
    | .enumerate n l =>
      if (s.links.get n).waitPartner then (s.modLink n fun x => { x with listB := some l }).reconcileLists n else s
    | .offset t2 t3 t4 => match s.twin.offsetT1 with
      -- without the stamp of the request the exchange is void (R525)
      | none => s
      | some t1 => ((s.modTwin fun t => { t with offsetT1 := none }).modSaf fun x => { x with
          pairOffset := divNear ((t2 : Int) - t1 + t3 - t4) 2 }).deferTests
    | .chargeTotal r t => s.totalsIn r t
    | .stage n =>
      if s.upd.partnerStage = 1 then
        (s.modUpd fun u => { u with partnerStage := if n = 0 then 2 else 3 }).day 0x004D (if n = 0 then 2 else 3)
      else s) s

/-- `TWIN_LINK_UP` (R65, R493). -/
def execTwinLinkUp (s : State) : Host.Outcome State Fault Refusal :=
  run (fun s =>
    if !s.coreUp then s else
    let s := s.modTwin fun t => { t with linkUp := true, sync := if t.sync = 5 then 5 else min t.sync 1, settingsAsked := false }
    ((s.endFault (src 7 10) itemTwin).emit (.twin 0 false [s.stringNo, s.pos, variantCode s.ident])).deferTests) s

/-- `PARTNER_SILENT` (R479): no fragment 0 for 3 sweep cycles. -/
def execPartnerSilent (s : State) : Host.Outcome State Fault Refusal :=
  run (fun s => s.modTwin fun t => { t with silentCycles := max t.silentCycles 3 }) s

/-- `TWIN_LINK_DOWN_TIMEOUT` (R477): `TWIN.LINK_STATE` has stayed 0 (`down`), or 1 on a standby, for 1 s. -/
def execTwinLinkDownTimeout (down : Bool) (s : State) : Host.Outcome State Fault Refusal :=
  run (fun s =>
    let s := s.when down fun s => s.modTwin fun t => { t with linkUp := false }
    let c := if down then true else s.standsBy && decide (s.twinState = 1)
    s.when (s.paired && s.fitted && c) fun s => s.raise (src 7 10) itemTwin 2) s

/-- For 2 s no fragment 0, no standing message of the partner, and no ruling or order frame has come (R490). -/
def State.orphaned (s : State) : Bool :=
  let old := fun (t : Option Nat) => match t with | some t => decide (t + 2000000000 ≤ s.time.ns) | none => true
  decide (2000 ≤ s.twin.silentCycles) && old s.twin.standingAt && old s.twin.managerAt

/-- `ORPHAN_TIMEOUT` (R490): for 2 s neither the partner nor a manager has been heard. -/
def execOrphanTimeout (s : State) : Host.Outcome State Fault Refusal :=
  run (fun s =>
    if !s.standsBy || s.twin.orphanStop || !s.orphaned then s
    else
      let s := s.raise (src 7 12) noItem 3
      if s.onString then
        let s := (s.modTwin fun t => { t with orphanStop := true }).modBus fun b => { b with can := b.can.modify 0 fun c => { c with orphan := true } }
        s.startStop (src 7 12)
      else s) s

/-- `RECONCILE_ROUND_DUE` (R491). -/
def execReconcileRoundDue (s : State) : Host.Outcome State Fault Refusal :=
  run (fun s => s.when (s.active && s.twin.linkUp) fun s => s.modTwin fun t => { t with roundNext := some 0 }) s

/-- `STANDING_MESSAGE_DUE` (R45, R478). -/
def execStandingMessageDue (s : State) : Host.Outcome State Fault Refusal :=
  run (fun s =>
    if !s.netUp then s
    else
      let s := s.modSec fun x => { x with seqStanding := wrapU 16 (x.seqStanding + 1) }
      s.sendSection 5 s.sec.seqStanding
        [(1, s.twin.role.num), (1, s.modes.mode.num), (1, s.worst.getD 0xFF), (1, s.trs.state), (2, s.assess), (1, s.twin.sync),
         (1, s.linksMissing), (1, match s.twin.partner with | some p => p.role | none => 0xFF), (1, 0), (2, s.twin.silentCycles),
         (4, s.twin.rulingEpoch), (2, s.twin.rulingSeq), (2, s.upd.running.mirrorFormat), (2, s.upd.running.number), (2, 0),
         (4, s.settingsCrc), (4, s.setCrc)]) s

/-- `PARTNER_STANDING_MESSAGE` (R477, R478): 32 bytes, with ISSUE at offset 20. -/
def execPartnerStandingMessage (f : SectionFrame) (payload : List Byte) (s : State) : Host.Outcome State Fault Refusal :=
  run (fun s => s.sectionTake 5 f payload fun s =>
    if payload.length ≠ 32 then s.modSec fun x => { x with discards := satU 32 (x.discards + 1) } else
    let issue := (payload.getD 20 0).toNat + 256 * (payload.getD 21 0).toNat
    ((s.modTwin fun t => { t with standingAt := some s.time.ns }).modUpd fun u => { u with partnerIssue := issue }).endFault (src 7 12) noItem) s

end Sys2Proof.Machine
end

