-- ==== Sys2Proof/Machine/Time.lean ====
section
/-! DEFINITION. Plant time and uplinks (chapter 16): PTP on the two ports, the servo, receipt queues, PRP and addresses. -/

namespace Sys2Proof.Machine

open Sys2Proof

/-- Uplink `i` as an item. -/
def itemUplink (i : Nat) : Nat := item 10 i 1

/-- PTP port `i`. -/
def State.port (s : State) (i : Nat) : PtpPort := s.time.ports.get i

/-- Change PTP port `i`. -/
def State.modPort (s : State) (i : Nat) (f : PtpPort → PtpPort) : State :=
  s.modTime fun t => { t with ports := t.ports.modify i f }

/-- PTP runs: the main domain is up, the Network core works, and the Treasury is not in Hold-up (R518). -/
def State.ptpUp (s : State) : Bool :=
  s.netUp && decide (s.trs.state ≠ 2)

/-- A PTP message is taken from its port: its link is up, its domain is the module's (R511). -/
def State.ptpTake (s : State) (h : PtpHead) (k : State → State) : State :=
  s.when (s.ptpUp && decide (h.port < 2) && bitOf s.net.links h.port && decide (h.domain = s.nat P.ptpDomain)) k

/-! ### Best masters (R512, R519) -/

/-- The clockIdentity of the module, from its MAC address as an EUI-64 (PRESUMED, log 23). -/
def Identity.clock (x : Identity) : Nat := x.macBase / 2 ^ 24 * 2 ^ 40 + 0xFFFE * 2 ^ 24 + x.macBase % 2 ^ 24

/-- The vector the module announces as a grandmaster candidate (R519); accuracy and variance unknown (PRESUMED, log 23). -/
def State.ownVector (s : State) : List Nat :=
  [s.nat P.ptpPriority1, 248, 0xFE, 0xFFFF, s.nat P.ptpPriority2, s.ident.clock, 0]

/-- The first vector is better: lower in its first differing place. -/
def betterClock : List Nat → List Nat → Bool
  | a :: l, b :: m => decide (a < b) || (decide (a = b) && betterClock l m)
  | _, _ => false

/-- The grandmaster that a port's best master names. -/
def PtpPort.gm (p : PtpPort) : Nat := p.vector.getD 5 0

/-- The time base enters holdover, at the mean rate of the last 60 s where there are as many (R517, R518). -/
def State.holdover (s : State) : State :=
  s.modTime fun t =>
    let mean := if 60 ≤ t.rates.length then divNear (t.rates.foldl (· + ·) 0) t.rates.length else t.rate
    { t with followed := 0xFF, rate := mean, state := if t.state = 1 then 2 else t.state, holdoverNs := 0 }

/-- A port without a better master is in MASTER when the module is a candidate; the module is grandmaster while no port has a
better one (R519, R520). -/
def State.masters (s : State) : State :=
  let cand := decide (s.val P.ptpRole = 1)
  let s := s.forAll [0, 1] fun i s => s.modPort i fun p => { p with
    master := cand && bitOf s.net.links i && (!p.announced || betterClock s.ownVector p.vector) }
  let alone := cand && [0, 1].all fun i => let p := s.port i; !p.announced || p.master
  if alone then s.modTime fun t => { t with state := 3, followed := 0xFF }
  else s.modTime fun t => { t with state := if t.state = 3 then 2 else t.state }

/-- Whether port `i` is synchronised (R513). -/
def State.portSynced (s : State) (i : Nat) : Bool :=
  let p := s.port i
  let usable := match p.peerDelay with | some d => decide (d ≤ s.nat P.ptpPdelayLimit) | none => false
  let other := 1 - i
  let agrees := decide (s.time.followed ≠ other) || (match p.offset, (s.port other).offset with
    | some a, some b => decide ((a - b).natAbs ≤ s.nat P.ptpPortDiff) && decide (p.gm = (s.port other).gm)
    | _, _ => true)
  bitOf s.net.links i && p.announced && !p.master && usable && decide (4 ≤ p.syncs) && p.near && agrees

/-- Look at a port again: it is synchronised or not, and a followed port that is not ends in holdover (R514, R517). -/
def State.lookPort (s : State) (i : Nat) : State :=
  let y := s.portSynced i
  let s := s.modPort i fun p => { p with synced := y }
  s.when (!y && decide (s.time.followed = i)) State.holdover

/-- RT.20 of each port and RT.21 (R527). -/
def State.timeFaults (s : State) : State :=
  let s := s.forAll [0, 1] fun i s =>
    let p := s.port i
    s.condition (src 7 20) (itemUplink i) 1 (!(p.synced || (p.master && decide (s.val P.ptpRole = 1))))
  s.condition (src 7 21) noItem 1 (decide (s.time.state = 2))

/-- A port starts again: no offset, no run of Sync messages. -/
def PtpPort.restart (p : PtpPort) : PtpPort := { p with syncs := 0, offset := none, near := false, sync := none, synced := false }

/-- `PTP_ANNOUNCE` (R512): the best master of the port, its grandmaster, TAI − UTC and leap seconds. -/
def execPtpAnnounce (h : PtpHead) (a : Announce) (s : State) : Host.Outcome State Fault Refusal :=
  run (fun s => s.ptpTake h fun s =>
    let p := s.port h.port
    let same := decide (p.best = h.source)
    if p.announced && !same && !betterClock a.vector p.vector then s
    else
      let s := s.modPort h.port fun p =>
        { (if same then p else p.restart) with best := h.source, vector := a.vector, announced := true }
      -- the grandmaster of the followed port changes (R517)
      let s := s.when (decide (s.time.followed = h.port) && decide ((s.port h.port).gm ≠ s.time.gm)) State.holdover
      let s := s.when (decide (s.time.followed = h.port)) fun s => s.modTime fun t => { t with
        utcOffset := a.utc.getD t.utcOffset, leap := if a.leap = 0 then none else some a.leap }
      (s.masters.lookPort h.port).timeFaults) s

/-- `PTP_ANNOUNCE_TIMEOUT` (R513). -/
def execPtpAnnounceTimeout (i : Nat) (s : State) : Host.Outcome State Fault Refusal :=
  if 2 ≤ i then .fault .illFormed
  else run (fun s =>
    let s := s.modPort i fun p => { p.restart with announced := false, best := 0, vector := [] }
    ((s.lookPort i).masters).timeFaults) s

/-! ### Offsets and the servo (R513 to R517) -/

/-- A rate adjustment: the manual gives no law of the servo, so the estimate of the TCXO's rate and the new rate are free values
within their limits (log 24). -/
def State.adjustRate (s : State) : State :=
  let most : Int := 20000000
  let within := fun (s : State) (m : Int) => (s.free 32 : Int) % (2 * m + 1) - m
  let t := within s most
  let s := s.nextFree
  let slew : Int := s.val P.ptpSlewLimit * 100
  let r := clampI (-most) most (t + within s slew)
  s.nextFree.modTime fun x => { x with tcxo := t, rate := r }

/-- The correction of the followed port's offset (R515): a step at a coming epoch in M1, M3, M4 and M7, else a rate adjustment;
before a step the shuttles stop (R516). -/
def State.servo (s : State) (off : Int) : State :=
  let m := s.modes.mode
  let may := decide (m = .m1) || decide (m = .m3) || decide (m = .m4) || decide (m = .m7)
  if may && decide (s.nat P.ptpStepThreshold < off.natAbs) then
    let s := s.modTime fun t => { t with step := some off }
    if s.active then s.forAll (s.usedLinks.filter s.swept) fun n s => s.stopAll n else s
  else s.adjustRate

/-- Follow port `i` (R514, R517). -/
def State.follow (s : State) (i : Nat) : State :=
  s.modTime fun t => { t with
    followed := i, gm := (t.ports.get i).gm, state := 1, qualify := none, holdoverNs := 0
    takenAt := if t.followed = 0xFF then some s.secs else none }

/-- The offsets of a new grandmaster stay within PTP.SYNC_TOL of one another, or the run starts again (R517). -/
def State.qualifies (s : State) (i : Nat) (off : Int) : State :=
  let id := (s.port i).gm
  let fresh := some (id, off, off)
  let q := match s.time.qualify with
    | some (g, lo, hi) =>
      let lo := min lo off
      let hi := max hi off
      if g = id ∧ (hi - lo).natAbs ≤ s.nat P.ptpSyncTol then some (g, lo, hi) else fresh
    | none => fresh
  s.modTime fun t => { t with qualify := q }

/-- The port to follow when none is: the one whose Sync has come, but port 0 where both are synchronised (R514). -/
def State.choice (s : State) (i : Nat) : Nat := if (s.port 0).synced then 0 else i

/-- An offset has been formed on port `i` (R513): the filtered offset of the servo is a free value (log 24). -/
def State.offsetFormed (s : State) (i : Nat) (off : Int) : State :=
  let filtered := ofPat 32 (s.free 32)
  let s := s.nextFree
  let s := s.modPort i fun p => { p with
    offset := some off, syncs := min 4 (p.syncs + 1), near := decide ((off - filtered).natAbs ≤ s.nat P.ptpSyncTol), sync := none }
  let was := (s.port i).synced
  let s := s.lookPort i
  let s := if s.time.followed = 0xFF ∧ (s.port i).synced ∧ s.time.state ≠ 3 then
      let j := s.choice i
      if s.time.gm = 0 ∨ s.time.gm = (s.port j).gm then s.follow j else s.qualifies i off
    -- port 0 becomes synchronised in the second in which port 1 was taken: it is the one to follow (R514, log 206)
    else if i = 0 ∧ s.time.followed = 1 ∧ !was ∧ (s.port 0).synced ∧ s.time.takenAt = some s.secs then s.follow 0
    else s
  (if s.time.followed = i then s.servo off else s).timeFaults

/-- The offset of a Sync: the time base less plant time (R513); without a usable peer delay the message is of no use (R512). -/
def State.syncOffset (s : State) (i rx origin : Nat) (corr : Int) : State :=
  match (s.port i).peerDelay with
  | some d =>
    if d ≤ s.nat P.ptpPdelayLimit then s.offsetFormed i ((rx : Int) - (origin + corr + d))
    else ((s.modPort i PtpPort.restart).lookPort i).timeFaults
  | none => ((s.modPort i PtpPort.restart).lookPort i).timeFaults

/-- `PTP_SYNC` (R511, R513): one-step, or kept for its Follow_Up. -/
def execPtpSync (h : PtpHead) (twoStep : Bool) (rx origin : Nat) (corr : Int) (s : State) : Host.Outcome State Fault Refusal :=
  run (fun s => s.ptpTake h fun s =>
    let p := s.port h.port
    if !p.announced || decide (p.best ≠ h.source) then s
    else if twoStep then s.modPort h.port fun p => { p with sync := some (h.seq, rx, corr) }
    else s.syncOffset h.port rx origin corr) s

/-- `PTP_FOLLOW_UP` (R515). -/
def execPtpFollowUp (h : PtpHead) (origin : Nat) (corr : Int) (s : State) : Host.Outcome State Fault Refusal :=
  run (fun s => s.ptpTake h fun s =>
    let p := s.port h.port
    match p.sync with
    | some (q, rx, c) => if q = h.seq ∧ p.best = h.source then s.syncOffset h.port rx origin (c + corr) else s
    | none => s) s

/-- `GM_QUALIFY_COMPLETE` (R517): the new grandmaster is followed on a synchronised port, and the correction is made. -/
def execGmQualifyComplete (s : State) : Host.Outcome State Fault Refusal :=
  run (fun s =>
    match s.time.qualify with
    | some (g, _, _) =>
      match [0, 1].find? fun i => (s.port i).synced && decide ((s.port i).gm = g) with
      | some i => (((s.follow i).servo ((s.port i).offset.getD 0))).timeFaults
      | none => s
    | none => s) s

/-! ### Peer delay (R512) and transmission (R519) -/

/-- `PTP_PDELAY_REQ` (R512): answered with the reception time; the follow-up waits for its stamp. -/
def execPtpPdelayReq (h : PtpHead) (rx : Nat) (s : State) : Host.Outcome State Fault Refusal :=
  run (fun s => s.ptpTake h fun s => (s.emit (.ptp h.port 3 h.seq [rx])).awaitStamp h.port 2 h.seq) s

/-- `PTP_PDELAY_REQ_DUE` (R512). -/
def execPtpPdelayReqDue (i : Nat) (s : State) : Host.Outcome State Fault Refusal :=
  if 2 ≤ i then .fault .illFormed
  else run (fun s =>
    if s.ptpUp && bitOf s.net.links i then
      let s := s.modPort i fun p => { p with pdSeq := wrapU 16 (p.pdSeq + 1), pdT1 := none, pdT24 := none }
      (s.emit (.ptp i 2 (s.port i).pdSeq [])).awaitStamp i 1 (s.port i).pdSeq
    else s) s

/-- `PTP_PDELAY_RESP` (R512). -/
def execPtpPdelayResp (h : PtpHead) (t2 rx : Nat) (s : State) : Host.Outcome State Fault Refusal :=
  run (fun s => s.ptpTake h fun s =>
    s.modPort h.port fun p => if p.pdSeq = h.seq then { p with pdT24 := some (t2, rx) } else p) s

/-- `PTP_PDELAY_RESP_FOLLOW_UP` (R512): the peer delay of the port. -/
def execPtpPdelayRespFollowUp (h : PtpHead) (t3 : Nat) (corr : Int) (s : State) : Host.Outcome State Fault Refusal :=
  run (fun s => s.ptpTake h fun s =>
    let p := s.port h.port
    match p.pdT1, p.pdT24 with
    | some t1, some (t2, t4) =>
      if p.pdSeq ≠ h.seq then s
      else
        let d := divNear (((t4 : Int) - t1) - ((t3 : Int) - t2) - corr) 2
        let s := s.modPort h.port fun p => { p with peerDelay := some d.toNat, pdT1 := none, pdT24 := none }
        let s := s.when (decide (s.nat P.ptpPdelayLimit < d.toNat)) fun s => s.modPort h.port fun p => { p with syncs := 0 }
        (s.lookPort h.port).timeFaults
    | _, _ => s) s

/-- `PTP_MASTER_SEND_DUE` (R519): Announce, and Sync whose Follow_Up waits for its stamp. -/
def execPtpMasterSendDue (i : Nat) (s : State) : Host.Outcome State Fault Refusal :=
  if 2 ≤ i then .fault .illFormed
  else run (fun s =>
    if s.ptpUp && (s.port i).master && bitOf s.net.links i then
      let s := s.modPort i fun p => { p with msSeq := wrapU 16 (p.msSeq + 1) }
      let q := (s.port i).msSeq
      let s := s.emit (.ptp i 11 q (s.ownVector.map fun n => (n : Int)))
      (s.emit (.ptp i 0 q [])).awaitStamp i 3 q
    else s) s

/-! ### Receipt queues (R523 to R525) -/

/-- A stamp read for the frame that awaited it. -/
def State.stamped (s : State) (q tag stamp : Nat) : State :=
  let kind := tag / 4096
  let num := tag % 4096
  let s := s.modNet fun n => { n with receipts := n.receipts.modify q fun r => { r with awaiting := r.awaiting.erase tag } }
  if kind = 1 then s.modPort q fun p => if p.pdSeq % 4096 = num then { p with pdT1 := some stamp } else p
  else if kind = 2 then s.emit (.ptp q 10 num [stamp])
  else if kind = 3 then s.emit (.ptp q 8 num [stamp])
  else if kind = 4 then s.modTwin fun t => { t with offsetT1 := some stamp }
  else if kind = 5 then s.emit (.twin 4 true [s.twin.offsetT2, stamp])
  else s

/-- The Network core reads a receipt queue (R524). -/
def State.readReceipts (s : State) (q : Nat) : State :=
  if (s.arch.engines.get 7).inReset then s
  else
    let l := (s.net.receipts.get q).entries
    let s := s.modNet fun n => { n with receipts := n.receipts.modify q fun r => { r with entries := [] } }
    s.forAll l fun e s =>
      if (s.net.receipts.get q).awaiting.contains e.1 then s.stamped q e.1 e.2
      else s.modNet fun n => { n with unmatched := satU 32 (n.unmatched + 1) }

/-- Receipt queue `q` as an item: uplink 0 or 1, or the twin link. -/
def itemQueue (q : Nat) : Nat := if q = 2 then itemTwin else itemUplink q

/-- `RECEIPT_STAMP` (R524, R525): a stamp arrives, and is read at once while a frame waits for one; at a full queue it is dropped. -/
def execReceiptStamp (q tag stamp : Nat) (s : State) : Host.Outcome State Fault Refusal :=
  if 3 ≤ q ∨ 2 ^ 16 ≤ tag then .fault .illFormed
  else run (fun s =>
    let r := s.net.receipts.get q
    if 16 ≤ r.entries.length then
      let s := s.modNet fun n => { n with
        sticky := putBit n.sticky q true, rt22 := putBit n.rt22 q true
        receipts := n.receipts.modify q fun r => { r with drops := satU 32 (r.drops + 1), awaiting := r.awaiting.erase tag } }
      let s := s.when (decide (tag / 4096 = 1) && decide (q < 2)) fun s => s.modPort q fun p => { p with pdT1 := none, pdT24 := none }
      s.raise (src 7 22) (itemQueue q) 0
    else
      let s := s.modNet fun n => { n with receipts := n.receipts.modify q fun r => { r with entries := r.entries ++ [(tag, stamp)] } }
      if r.awaiting.isEmpty then s else s.readReceipts q) s

/-- The RT.22 conditions of the cycle before end (R527). -/
def State.endDrops (s : State) : State :=
  let l := maskIdx 3 s.net.rt22
  (s.forAll l fun q s => s.endFault (src 7 22) (itemQueue q)).modNet fun n => { n with rt22 := 0 }

/-! ### Native time (R509, R510) -/

/-- `LEAP_SECOND` (R509): at the end of the UTC day. -/
def execLeapSecond (s : State) : Host.Outcome State Fault Refusal :=
  run (fun s => match s.time.leap with
    | some l => s.modTime fun t => { t with utcOffset := clampI (-1000) 1000 (t.utcOffset + l), leap := none }
    | none => s) s

/-- `NIGHT_SAFE_TIME_COPY` (R510). -/
def execNightSafeTimeCopy (s : State) : Host.Outcome State Fault Refusal :=
  run (fun s => s.when (s.power.mainUp && !s.power.mainHeld) fun s => s.modNight fun n => { n with timeCopy := s.time.ns, timeValid := true }) s

/-! ### PRP and addresses (R498 to R504) -/

/-- The module runs more than PTP on the uplinks: its position address is set (R503). -/
def State.addressed (s : State) : Bool := s.netUp && decide (s.val (P.netPosAddr s.pos) ≠ 0)

/-- A received frame under PRP (R499, R501): a foreign VLAN and a second copy are discarded. -/
def State.prp (s : State) (x : UplinkFrame) (k : State → State) : State :=
  if !s.netUp || decide (2 ≤ x.port) || !bitOf s.net.links x.port || decide (x.vlan ≠ 0) then s
  else match x.rct with
    | none => k s
    | some (q, lan) =>
      let s := s.when (decide (lan ≠ 0xA + x.port)) fun s => s.modNet fun n => { n with
        wrongLan := updAt n.wrongLan x.port fun c => satU 32 (c + 1) }
      let live := s.net.seen.filter fun e => decide (s.time.ns ≤ e.2.2.2 + s.nat P.netPrpForget * 1000000)
      if live.any fun e => decide (e.1 = x.mac) && decide (e.2.1 = q) then
        s.modNet fun n => { n with seen := live, discards := updAt n.discards x.port fun c => satU 32 (c + 1) }
      else k (s.modNet fun n => { n with seen := (x.mac, q, x.port, s.time.ns) :: live })

/-- `PRP_SUPERVISION_DUE` (R500). -/
def execPrpSupervisionDue (s : State) : Host.Outcome State Fault Refusal :=
  run (fun s => s.when s.addressed fun s => s.emit .supervision) s

/-- `PRP_SUPERVISION_FRAME` (R502). -/
def execPrpSupervisionFrame (x : UplinkFrame) (s : State) : Host.Outcome State Fault Refusal :=
  run (fun s => s.prp x fun s => s.modNet fun n => { n with heard := putBit n.heard x.port true }) s

/-- `PRP_SUPERVISION_TIMEOUT` (R502). -/
def execPrpSupervisionTimeout (i : Nat) (s : State) : Host.Outcome State Fault Refusal :=
  if 2 ≤ i then .fault .illFormed else run (fun s => s.modNet fun n => { n with heard := putBit n.heard i false }) s

/-- `NET.PORT_STATE[i]` (R502). -/
def State.portState (s : State) (i : Nat) : Nat :=
  if !bitOf s.net.links i then 0 else if bitOf s.net.heard i then 2 else 1

/-- `PORT_LINK_CHANGE` (R498, R502): port 0 or 1, or 2 for the service port; an -F variant enables a compliant SFP module alone. -/
def execPortLinkChange (i : Nat) (up compliant : Bool) (s : State) : Host.Outcome State Fault Refusal :=
  if 3 ≤ i then .fault .illFormed
  else run (fun s =>
    let sfp := !s.ident.fibre || decide (i = 2) || compliant
    let link := up && sfp
    let s := s.modNet fun n => { n with
      links := putBit n.links i link, sfp := if i < 2 then putBit n.sfp i sfp else n.sfp
      heard := if link then n.heard else putBit n.heard i false }
    if i < 2 then
      let s := s.when (!link) fun s => s.modPort i fun p => { p.restart with announced := false, best := 0, vector := [], peerDelay := none }
      ((s.lookPort i).masters).timeFaults
    else s) s

/-- The module answers on an IPv4 address of the uplinks (R503, R504). -/
def State.answersOn (s : State) (addr : Nat) : Bool :=
  s.addressed && (decide (addr = s.nat (P.netPosAddr s.pos)) || (s.net.roleHeld && s.active && decide (addr = s.nat P.netRoleAddr)))

/-- `ARP_REQUEST` (R503, R504). -/
def execArpRequest (x : UplinkFrame) (addr : Nat) (s : State) : Host.Outcome State Fault Refusal :=
  run (fun s => s.prp x fun s => s.when (s.answersOn addr) fun s => s.emit (.arp 3 addr false)) s

/-- `ICMP_ECHO_REQUEST` (R503). -/
def execIcmpEchoRequest (x : UplinkFrame) (addr sender : Nat) (s : State) : Host.Outcome State Fault Refusal :=
  run (fun s => s.prp x fun s => s.when (s.answersOn addr && s.reaches sender) fun s => s.emit (.echo x.port sender)) s

/-- `GRATUITOUS_ARP_REPEAT` (R504): 100 ms and 1 s after a take. -/
def execGratuitousArpRepeat (s : State) : Host.Outcome State Fault Refusal :=
  run (fun s => s.when (s.net.roleHeld && s.active && decide (0 < s.net.arpLeft)) fun s =>
    (s.emit (.arp 3 (s.nat P.netRoleAddr) true)).modNet fun n => { n with arpLeft := n.arpLeft - 1 }) s

end Sys2Proof.Machine
end

