-- ==== Sys2Proof/Machine/ParamRead.lean ====
section
/-! DEFINITION. Reading (chapters 04, 05): the value of every read-only parameter, PARAM_READ, BRICK_READ with its snapshots,
TIME_READ and PROGRAM_STATUS. -/

namespace Sys2Proof.Machine

open Sys2Proof

/-! ### Values of the read-only parameters -/

/-- An unsigned register value. -/
def natOf (n : Nat) : Int := n

/-- A temperature that may be invalid, as an int16. -/
def tempOr (o : Option Int) : Int := o.getD (-32768)

/-- The ASCII characters of a char8 (R163). -/
def char8 (s : String) : Nat := leNat (s.toList.map fun c => BitVec.ofNat 8 c.toNat)

/-- `ID.PART[i]`: the part number of the variant (R2, R173). -/
def Identity.part (id : Identity) (i : Nat) : Nat :=
  let (a, b) := match id.variant with
    | .s128A => ("JLR-S128", "A") | .s128C => ("JLR-S128", "C") | .s128D => ("JLR-S128", "D") | .s064B => ("JLR-S064", "B")
  if i = 0 then char8 a else char8 (b ++ (if id.fibre then "-F" else ""))

/-- `CAP.CORE_STEP_MHZ` of a divider (R32). -/
def coreStepOf (div : Nat) : Nat := if div = 5 then 400 else if div = 6 then 333 else 286

/-- Words 0x0000 to 0x00FF: identity and capability block (R48, R173). -/
def State.roIdent (s : State) (i : Nat) : Int :=
  let id := s.ident
  let r := s.upd.running
  if 0x40 ≤ i then natOf (ofIdx ((List.range 64).filter fun b => defined (64 * (i - 0x40) + b)))
  else match i with
  | 0x00 | 0x01 => natOf (id.part i)
  | 0x02 => id.serial | 0x03 => id.buildLevel | 0x04 => id.made | 0x05 => r.number | 0x06 => s.upd.runningSlot
  | 0x07 => r.mirrorFormat | 0x08 => id.romLevel | 0x09 => r.dictLevel | 0x0A => s.stringNo | 0x0B => s.pos | 0x0C => id.macBase
  | 0x10 => capUnits id | 0x11 => linkCount id.variant | 0x12 => steerLoops id.variant | 0x13 => canCount id.variant
  | 0x14 => natOf (coreStepOf s.arch.coreDiv) | 0x15 => 8 | 0x16 => 20 | 0x17 => 8 | 0x18 => 8 | 0x19 => 24 | 0x1A => 6650 | 0x1B => 512
  | _ => 64

/-- Modes, Treasury and monitors, 0x0100 to 0x01FF (R92, R613). -/
def State.roModes (s : State) (i : Nat) : Int :=
  let m := s.modes
  let t := s.trs
  if 0x147 ≤ i ∧ i ≤ 0x14E then natOf (t.engines.get (i - 0x146)).energy
  else if 0x14F ≤ i ∧ i ≤ 0x156 then natOf (t.engines.get (i - 0x14E)).allowance
  else if 0x157 ≤ i ∧ i ≤ 0x15E then natOf (t.engines.get (i - 0x156)).heat
  else if 0x180 ≤ i ∧ i ≤ 0x18B then natOf (t.monitors.get (i - 0x180)).value
  else match i with
  | 0x100 => natOf m.mode.num | 0x101 => m.previous
  | 0x102 => match m.startKind with | .coldPowerUp => 0 | .coldRestart => 1 | .warmRestart => 2 | .wake => 3
  | 0x103 => m.startCount | 0x104 => m.lockoutCause | 0x126 => s.night.lastWake | 0x127 => s.night.dormantSeconds
  | 0x140 => t.state | 0x144 => t.thriftCause | 0x146 => t.period | 0x168 => clampI (-2 ^ 31) (2 ^ 31 - 1) t.heatHeadroom
  | 0x169 => t.modulePower | 0x16A => t.deferrals | 0x16B => t.refusals | 0x16C => t.holdupEvents
  | _ => natOf (ofIdx ((List.range 12).filter fun k => (t.monitors.get k).out))

/-- `UPD.STATE` (R644). -/
def State.updState (s : State) : Nat :=
  let u := s.upd
  if u.trial then 4 else if u.partnerStage = 1 then 5
  else if u.holder.isSome then (if u.received = 0 then 1 else 2) else if u.staged.isSome then 3 else 0

/-- `UPD.TRIAL_LEFT` in seconds (R636). -/
def State.trialLeft (s : State) : Nat := match s.upd.trial, s.upd.trialFrom with
  | true, some t => (t + s.nat P.updTrialWindow * 60000000000 - s.time.ns) / 1000000000
  | true, none => s.nat P.updTrialWindow * 60
  | false, _ => 0

/-- Ageing, update and Vault, 0x0200 to 0x02FF (R614, R644). -/
def State.roAgeing (s : State) (i : Nat) : Int :=
  let a := s.age
  let u := s.upd
  let v := s.vault
  if 0x210 ≤ i ∧ i ≤ 0x213 then a.slowdown.getD (i - 0x210) 0
  else match i with
  | 0x200 => a.plan.generation | 0x203 => a.plan.time | 0x204 => a.plan.cause | 0x205 => a.plan.coreStep
  | 0x206 => a.refreshDays | 0x207 => s.holdupWriteMax | 0x214 => natOf a.flashErrors | 0x215 => a.cap | 0x216 => a.energy
  | 0x217 => a.tcxo | 0x218 => a.tcxoDrift
  | 0x240 => natOf s.updState | 0x242 => natOf (u.holder.getD 0) | 0x243 => u.received | 0x245 => natOf s.trialLeft
  | 0x246 => u.control.lastResult | 0x247 => natOf (u.control.slotState.getD 0 0) | 0x248 => natOf (u.control.slotState.getD 1 0)
  | 0x249 => natOf (u.control.slotIssue.getD 0 0) | 0x24A => natOf (u.control.slotIssue.getD 1 0) | 0x24B => u.stagedResult
  | 0x24C => u.partnerStage | 0x24D => u.floor | 0x24E => u.control.pinnedSettings
  | 0x24F => natOf (u.anchors.filter (·.isSome)).length
  | 0x260 => match v.writing with | some w => w.region | none => 0xFF
  | 0x261 => natOf (ofIdx (((List.range 10).filter fun o => bitOf v.queued (o + 1)).map fun o => orderRegion (o + 1)))
  | 0x262 => clampI (-2 ^ 31) (2 ^ 31 - 1) s.energyMargin.floor
  | 0x263 => v.refusals | 0x264 => v.abandoned | 0x265 => v.lastRefresh
  | _ => v.pagesWritten

/-- Time, uplinks, wickets and CAN, 0x0300 to 0x03FF (R159, R526, R544). -/
def State.roNet (s : State) (i : Nat) : Int :=
  let t := s.time
  let n := s.net
  let w := s.wk
  if 0x3C0 ≤ i ∧ i < 0x3E0 then
    let b := (i - 0x3C0) / 16
    let c := s.can b
    match i % 16 with
    | 10 => natOf (s.canState b) | 11 => c.tec + 2 ^ 16 * c.recErr | 12 => c.txDrops | 13 => c.busOffCount | _ => c.overwrites
  else match i with
  | 0x310 => t.state | 0x311 => t.followed
  | 0x312 | 0x313 => (match (t.ports.get (i - 0x312)).offset with | some o => clampI (1 - 2 ^ 31) (2 ^ 31 - 1) o | none => -2 ^ 31)
  | 0x314 | 0x315 => natOf ((t.ports.get (i - 0x314)).peerDelay.getD 0xFFFFFFFF)
  | 0x316 => t.rate | 0x317 => if t.followed = 0xFF then 0 else t.gm | 0x318 => natOf (satU 32 (t.holdoverNs / 1000000000))
  | 0x319 => t.steps | 0x31A => t.utcOffset
  | 0x345 | 0x346 => natOf (s.portState (i - 0x345)) | 0x349 | 0x34A => natOf (n.wrongLan.getD (i - 0x349) 0)
  | 0x34B | 0x34C => natOf (n.discards.getD (i - 0x34B) 0) | 0x34D => natOf (b2n n.roleHeld)
  | 0x361 | 0x362 | 0x363 => natOf (n.receipts.get (i - 0x361)).drops | 0x364 => n.unmatched
  | 0x390 => w.frameDiscards | 0x391 => w.crcDiscards | 0x392 => w.lengthRejects | 0x393 => w.aborted
  | _ => natOf (w.slots.get (i - 0x394)).slipLost

/-- The twin, the section and the auxiliary bus, 0x0400 to 0x04FF (R385, R497, R544). -/
def State.roTwin (s : State) (i : Nat) : Int :=
  let t := s.twin
  if 0x4D0 ≤ i then (match s.processValue (i - 0x4D0) with | some v => natOf v.toNat | none => 0x7FC00000)
  else if 0x490 ≤ i then
    let a := s.bus.aux.get ((i - 0x490) / 4)
    if i % 4 = 2 then a.state else a.losses
  else match i with
  | 0x440 => natOf t.role.num | 0x441 => t.sync | 0x442 => match t.partner with | some p => p.role | none => 0xFF
  | 0x443 => t.partnerFormat | 0x444 => natOf s.twinState | 0x445 => natOf s.assess | 0x446 => t.mirrorMissed | 0x447 => t.mirrorLate
  | 0x448 => t.switchovers | 0x449 => t.lastGap | 0x44A => t.lastSwitchTime | 0x44D => t.outliers | 0x44E => natOf (b2n t.programLag)
  | 0x44F => t.rulings | 0x450 => t.refused | 0x452 => t.lastSilence
  | 0x480 => s.sec.epoch | 0x481 => t.ruling | 0x482 => t.rulingPos | 0x483 => t.rulingSeq | 0x48E => s.sec.discards
  | _ => s.sec.stale

/-- The safety functions, 0x0500 to 0x05FF (R179, R447, R448). -/
def State.roSafety (s : State) (i : Nat) : Int :=
  let x := s.saf
  match i with
  | 0x500 => natOf s.setCrc | 0x501 => s.par.setGeneration | 0x502 => s.par.partnerSetCrc | 0x503 => natOf s.safState
  | 0x504 => x.coil | 0x505 => x.pRead | 0x506 => x.hRead | 0x512 => x.pulseAborts | 0x513 => x.pulseCount
  | 0x514 => clampI (-2 ^ 31) (2 ^ 31 - 1) x.pairOffset | 0x531 => natOf s.inputState
  | _ => natOf (x.hallSealed.getD (i - 0x548) 0x42200000#32).toNat

/-- Thermal supervision, 0x0700 to 0x07FF (R407). -/
def State.roThermal (s : State) (i : Nat) : Int :=
  let t := s.therm
  if 0x740 ≤ i then tempOr (t.ths.get ((i - 0x740) / 6)).value
  else match i with
  | 0x70C => s.age.guard | 0x710 => natOf s.thState | 0x711 => t.limit | 0x712 => t.limiting | 0x713 => t.hottest
  | 0x714 => tempOr t.hottestTemp | 0x715 => t.shutdownCause
  | _ => if 0x718 ≤ i ∧ i ≤ 0x71B then (t.dies.get (i - 0x718)).value else (t.dies.get (4 + (i - 0x71C))).value

/-- The lines of `LNK[n].OPEN_WIRE` (R241). -/
def State.openWires (s : State) (n : Nat) : Nat :=
  (s.mon n 0).flagged ||| (s.mon n 1).flagged * 2 ^ 12

/-- The slots of a link (R174). -/
def State.roLink (s : State) (i : Nat) : Int :=
  let n := (i - 0x800) / 16
  let l := s.links.get n
  match i % 16 with
  | 7 => l.state | 8 => l.crcErrors | 9 => l.missedReplies | 10 => l.enumCount | 11 => natOf (s.openWires n)
  | 12 => natOf (b2n (l.tone || (List.range (s.monCount n)).any fun p => decide ((s.mon n p).sampleStatus / 16 % 8 ≠ 0)))
  | _ => s.replyLatest n

/-- A share in 0.01 %. -/
def shareWord (x : Rat) : Int := clampI 0 10000 (roundAway (x * 10000))

/-- The slots of a rail (R176, R278, R359, R360). -/
def State.roRail (s : State) (i : Nat) : Int :=
  let r := (i - 0x1000) / 128
  let f := i % 128
  let x := s.rails.get r
  let t := s.trims.get r
  let st := s.steer
  if 0x30 ≤ f ∧ f ≤ 0x3B then natOf (t.faultCount.getD (f - 0x30) 0)
  else match f with
  | 0x02 => shareWord (st.shares.getD r 0) | 0x03 => shareWord (st.targets.getD r 0) | 0x04 => natOf (s.steerState r)
  | 0x05 => clampI (-2 ^ 31) (2 ^ 31 - 1) (roundAway (f32Val (s.loops.get r).error * 1000)) | 0x06 => 2 * t.insertionCmd
  | 0x08 => if s.railsInUse.contains r then shareWord (st.measured.getD r 0) else 0xFFFF
  | 0x09 => t.fallbackCount | 0x0A => t.fallbackCause | 0x0B => natOf (satU 32 (t.steerMs / 1000))
  | 0x10 => natOf (s.linksOf r).length
  | 0x20 => t.state | 0x21 => t.faults | 0x22 => 2 * t.insertion | 0x23 => 20 * t.current | 0x24 => t.temperature | 0x25 => t.port
  | 0x26 => t.crcErrors | 0x27 => t.missed | 0x2B => t.holdCount | 0x2C => tempOr t.maxTemp | 0x2D => natOf (satU 32 (t.runMs / 1000))
  | 0x2E => t.lastFaultTime | 0x2F => t.lastFaults
  | 0x43 => x.countSource | 0x44 => x.chargeTotal | 0x48 => x.current | 0x49 => x.voltage
  | 0x60 => State.availWord x.avail | 0x61 => x.position | 0x62 => State.availWord x.headroom | 0x63 => x.restTimer | 0x64 => x.direction
  | _ => natOf ((s.bricksOf r).filter fun b => bitOf (s.bricks.get b).flags 1).length

/-- Estimation, surveys and tuning, 0x1400 to 0x14FF (R280, R325, R361). -/
def State.roEstimate (s : State) (i : Nat) : Int :=
  let e := s.est
  let v := s.survey
  let t := s.steer
  match i with
  | 0x1440 => e.position | 0x1441 => State.availWord e.avail | 0x1442 => State.availWord e.headroom | 0x1443 => e.limiting
  | 0x1444 => natOf s.weakestBrick | 0x1445 => e.warn | 0x1446 => e.learnedGen
  | 0x1447 => natOf (s.usedBricks.filter fun b => bitOf (s.bricks.get b).flags 1).length
  | 0x1471 => v.number | 0x1472 => v.rail | 0x1473 => v.state
  | 0x14C3 => t.tuneState | 0x14C4 => t.captureNumber | 0x14C5 => t.sampleCount | 0x14C6 => t.endCode | 0x14C7 => t.loop
  | _ => if i < 0x14A8 then natOf (v.lastResult.getD (i - 0x14A0) 0xFF) else if i < 0x14B0 then natOf (v.lastNumber.getD (i - 0x14A8) 0)
    else natOf (v.lastTime.getD (i - 0x14B0) 0)

/-- The slots of a loop (R177). -/
def State.roLoop (s : State) (i : Nat) : Int :=
  let l := s.loops.get ((i - 0x1800) / 32)
  match i % 32 with
  | 7 => l.flags | 8 => natOf l.output.toNat | 9 => natOf l.error.toNat | 10 => l.satCount | _ => l.ticks

/-- The profile and the records, 0x1A00 to 0x1BFF (R385, R593). -/
def State.roProfile (s : State) (i : Nat) : Int :=
  let p := s.prof
  let r := s.recs
  match i with
  | 0x1A21 => p.gear | 0x1A23 => satI32 p.setpoint | 0x1A24 => satI32 p.target | 0x1A25 => p.pendingValue
  | 0x1A26 => natOf (f32OfRat p.v).toNat | 0x1A27 => natOf (f32OfRat p.a).toNat | 0x1A28 => p.grantFactor | 0x1A29 => p.disLimit
  | 0x1A2A => p.chgLimit | 0x1A2B => p.overwrites
  | 0x1B01 => r.next | 0x1B03 => natOf r.day.length | 0x1B04 => r.closeGen | 0x1B05 => r.lastClose | 0x1B06 => r.lastKind
  | 0x1B07 => natOf (b2n r.pending) | _ => r.restored

/-- The fault latches and the list of present faults, 0x1C00 to 0x1CFF (R464 to R466). -/
def State.roFaults (s : State) (i : Nat) : Int :=
  let x := s.flt
  let latch := fun (c : Nat) (f : Latch → Nat) => natOf (match x.latches.get c with | some l => f l | none => 0)
  if i < 0x1C08 then latch (i - 0x1C00) fun l => l.inst.word l.cleared
  else if 0x1C40 ≤ i then natOf (x.presentAt (i - 0x1C40))
  else if 0x1C30 ≤ i then natOf (satU 16 (x.present.filter fun j => decide (j.grade = i - 0x1C30)).length)
  else if 0x1C10 ≤ i ∧ i < 0x1C18 then latch (i - 0x1C10) (·.inst.item)
  else if 0x1C18 ≤ i ∧ i < 0x1C20 then latch (i - 0x1C18) (·.time / 1000000000)
  else if 0x1C20 ≤ i ∧ i < 0x1C28 then latch (i - 0x1C20) (·.time % 1000000000)
  else match i with
  | 0x1C08 => x.overflow | 0x1C09 => natOf (s.worst.getD 0xFF) | 0x1C0A => natOf (satU 16 x.present.length)
  | 0x1C28 => x.signalErrors | 0x1C29 => x.escalations | _ => x.listOverflow

/-- The program, 0x1D00 to 0x1DFF (R571). -/
def State.roProgram (s : State) (i : Nat) : Int :=
  let p := s.prg
  let crc := fun (o : Option ProgramImage) => natOf ((o.map (·.crc)).getD 0)
  if 0x1D40 ≤ i then (match s.programValue (i - 0x1D40) with | some v => natOf v.toNat | none => 0x7FC00000)
  else match i with
  | 0x1D01 => p.state | 0x1D03 => p.overruns | 0x1D04 => p.cycles | 0x1D05 => p.execMax | 0x1D06 => crc s.upd.present
  | 0x1D07 => crc s.upd.stagedProgram | 0x1D09 => p.undelivered | 0x1D0A => p.exchanges | 0x1D0B => p.stopCause | _ => p.canRefused

/-- The value of a read-only parameter that a table of the manual names. -/
def State.roValue (s : State) (i : Nat) : Int :=
  if i < 0x100 then s.roIdent i else if i < 0x200 then s.roModes i else if i < 0x300 then s.roAgeing i
  else if i < 0x400 then s.roNet i else if i < 0x500 then s.roTwin i else if i < 0x600 then s.roSafety i
  else if i < 0x800 then s.roThermal i else if i < 0x1000 then s.roLink i else if i < 0x1400 then s.roRail i
  else if i < 0x1500 then s.roEstimate i else if i < 0x1A00 then s.roLoop i else if i < 0x1C00 then s.roProfile i
  else if i < 0x1D00 then s.roFaults i else s.roProgram i

/-! ### PARAM_READ (R156, R163, R168, R169) -/

/-- The type codes of R163. -/
def typeCodes : List Nat := [0x01, 0x02, 0x03, 0x04, 0x11, 0x12, 0x13, 0x14, 0x21, 0x22, 0x31]

/-- The type code of a defined index; one that no table names has a type of R163 that the manual does not give (log 10). -/
def typeOf (i : Nat) : Nat := match wRow i, rRow i with
  | some r, _ => r.ty
  | none, some r => r.ty
  | none, none => typeCodes.getD (Config.otherType i % 11) 0x01

/-- The value of a defined parameter that the manual does not describe: any of its type's width, with the type's extension (R163,
log 10). -/
def otherVal (i : Nat) : Int :=
  let ty := typeOf i
  let n := Config.otherValue i
  if tySigned ty then ofPat (tyBits ty) (n % 2 ^ tyBits ty)
  else if ty = 0x31 then ((n &&& 0x7F7F7F7F7F7F7F7F : Nat) : Int)
  else ((n % 2 ^ tyBits ty : Nat) : Int)

/-- The value that an index reads: of a commission-only parameter the working copy's (R169). -/
def State.readValue (s : State) (i : Nat) : Int :=
  match wRow i with
  | some r => if r.acc = .co then (match s.par.work.get i with | some v => v | none => s.val i) else s.val i
  | none => if (rRow i).isSome then s.roValue i else otherVal i

/-- One entry of the reply: index, outcome, type, value (R153, R156). -/
def State.readEntry (s : State) (i : Nat) : List (Nat × Nat) :=
  if !defined i then [(2, i), (1, 0x0C), (1, 0), (8, 0)]
  else if (absentUnit s.ident i).isSome then [(2, i), (1, 0x04), (1, typeOf i), (8, 0)]
  else [(2, i), (1, 0), (1, typeOf i), (8, patI 64 (s.readValue i))]

def cmdParamRead : Cmd := { code := 0x0101, kind := .r, cls := 2 }
def cmdBrickRead : Cmd := { code := 0x0301, kind := .r, cls := 2 }
def cmdProgramStatus : Cmd := { code := 0x0702, kind := .r, cls := 2 }
def cmdTimeRead : Cmd := { code := 0x0801, kind := .r, cls := 2 }

/-- The reply of PARAM_READ: every entry from the same state (R168). -/
def State.readReply (s : State) (l : List Nat) : Reply := done ([(2, l.length), (2, 0)] ++ l.flatMap s.readEntry)

/-- PARAM_READ carried out: its entries are read at the next sweep boundary, and answered there (R168). -/
def bodyParamRead (f : Frame) (l : List Nat) (s : State) : Answer :=
  (none, s.modWk fun w => { w with writes := w.writes ++ [{ frame := f, code := 0x0101, reads := l }] })

/-- `PARAM_READ` (R153, R156): the count and the indices of the payload. -/
def execParamRead (f : Frame) (count : Nat) (l : List Nat) (s : State) : Host.Outcome State Fault Refusal :=
  run (fun s => s.wicket f cmdParamRead (.paramRead f count l) (countedLen f 0 4 2 80 count) (bodyParamRead f l)) s

/-! ### BRICK_READ (R186 to R190) -/

/-- Bytes of each field of a brick row (R186). -/
def rowBytes : List Nat := [2, 2, 4, 4, 2, 2, 4, 4, 4, 2, 2, 2, 2, 2, 2, 4, 2, 2, 2, 2, 2, 2, 2, 2]

/-- The fields of a present brick's row (R186), as patterns. -/
def Brick.row (b : Brick) : List Nat :=
  [b.voltage, patI 16 (tempOr b.temperature), patI 32 (satI 32 (b.q / 100000)), b.c, b.position, b.rawPosition,
   patI 32 b.shuttleCurrent, patI 32 (satI 32 (b.shuttleCharge / 100000)), patI 32 (satI 32 b.target), b.seriesRes, b.rcARes, b.rcATau,
   b.rcBRes, b.rcBTau, b.ocvLast, b.anchorTime, b.fullAnchors, b.emptyAnchors, b.learns, b.vMinDay, b.vMaxDay, b.sampleOffset,
   b.status, patI 16 b.vOffset]

/-- Each field of an absent brick's row at its invalid value (R186, R187). -/
def absentRow : List Nat :=
  [0xFFFF, 0x8000, 0x80000000, 0xFFFFFFFF, 0xFFFF, 0xFFFF, 0x80000000, 0x80000000, 0x80000000, 0xFFFF, 0xFFFF, 0xFFFF, 0xFFFF, 0xFFFF,
   0xFFFF, 0xFFFFFFFF, 0xFFFF, 0xFFFF, 0xFFFF, 0xFFFF, 0xFFFF, 0xFFFF, 0x0100, 0x8000]

/-- The selected fields of brick `b` of a table of rows (R188). -/
def State.rowOf (s : State) (rows : Table Brick) (b mask : Nat) : List (Nat × Nat) :=
  let v := if s.brickUsed b then (rows.get b).row else absentRow
  (List.range 24).filterMap fun k => if bitOf mask k then some (rowBytes.getD k 2, v.getD k 0) else none

/-- A field mask of BRICK_READ that the first check of R188 takes. -/
def maskOk (mask : Nat) : Bool := decide (mask % 2 ^ 24 ≠ 0) && decide (mask / 2 ^ 24 % 2 ^ 7 = 0)

/-- What refuses the payload of BRICK_READ at step 7 of R129: its length, and the counts of R188, which come after the check of the
mask. -/
def brickReadLen (f : Frame) (first count mask : Nat) : Option Reply :=
  let sum := ((List.range 24).filter fun k => bitOf mask k).foldl (fun n k => n + rowBytes.getD k 2) 0
  match fixedLen f 8 with
  | some r => some r
  | none =>
    if !maskOk mask then none
    else if 3071 < first then some (lengthInvalid first (3072 - first) 0)
    else if count = 0 ∨ 3072 - first < count then some (lengthInvalid count (3072 - first) 2)
    else if 1016 < count * sum then some (lengthInvalid count (1016 / sum) 2)
    else none

/-- BRICK_READ carried out: the check of the mask, then the rows of the newest whole cycle or the snapshot's (R188 to R190). -/
def bodyBrickRead (f : Frame) (first count mask : Nat) (s : State) : Answer :=
  if !maskOk mask then (some (fieldRange 4 none32 none32), s)
  else
    let keep := bitOf mask 31
    let snap := (s.slot f.host).snapshot
    let (k, rows) := match keep, snap with
      | true, some x => x
      | _, _ => (s.arch.readSweep, s.readRows)
    let s := s.modSlot f.host fun h => { h with snapshot := if keep then some (k, rows) else none }
    (some (done ([(4, k), (2, first), (2, count)] ++ (List.range count).flatMap fun j => s.rowOf rows (first + j) mask)), s)

/-- `BRICK_READ` (R188). -/
def execBrickRead (f : Frame) (first count mask : Nat) (s : State) : Host.Outcome State Fault Refusal :=
  run (fun s => s.wicket f cmdBrickRead (.brickRead f first count mask) (brickReadLen f first count mask) (bodyBrickRead f first count mask)) s

/-- `SNAPSHOT_RELEASE_TIMER` (R190): 10 s after the last request that read the snapshot of a host slot. -/
def execSnapshotReleaseTimer (i : Nat) (s : State) : Host.Outcome State Fault Refusal :=
  if 4 ≤ i then .fault .illFormed else run (fun s => s.modSlot i fun h => { h with snapshot := none }) s

/-! ### PROGRAM_STATUS and TIME_READ (R153, R521) -/

/-- The reply of PROGRAM_STATUS (R153, R571). -/
def bodyProgramStatus (s : State) : Answer :=
  (some (done [(1, s.prg.state), (1, 0), (2, satU 16 s.prg.overruns), (4, s.prg.cycles)]), s)

/-- `PROGRAM_STATUS` (R153). -/
def execProgramStatus (f : Frame) (s : State) : Host.Outcome State Fault Refusal :=
  run (fun s => s.wicket f cmdProgramStatus (.programStatus f) (fixedLen f 0) bodyProgramStatus) s

/-- The reply of TIME_READ: the native time, the short stamp of the same instant, `PTP.STATE` 1 (R153, R520, R521). -/
def bodyTimeRead (s : State) : Answer :=
  (some (done [(6, s.secs), (4, s.time.ns % 1000000000), (4, s.time.ns % 2 ^ 32), (1, b2n (decide (s.time.state = 1))), (1, 0)]), s)

/-- `TIME_READ` (R153). -/
def execTimeRead (f : Frame) (s : State) : Host.Outcome State Fault Refusal :=
  run (fun s => s.wicket f cmdTimeRead (.timeRead f) (fixedLen f 0) bodyTimeRead) s

end Sys2Proof.Machine
end

