-- ==== Sys2Proof/Machine/Program.lean ====
section
/-! DEFINITION. The cyclic program (chapter 18): its cycle, the input and output images, PROGRAM_CONTROL, holds, starts and the
online exchange. What the code computes is not the module's: it enters as the output image of an ended cycle. -/

namespace Sys2Proof.Machine

open Sys2Proof

/-! ### Images (R545, R546) -/

/-- The image that a start takes: the staged one when one is held, else the present one (R557). -/
def State.startImage (s : State) : Option ProgramImage := s.upd.stagedProgram.or s.upd.present

/-- The image lies within the limits of R545. -/
def ProgramImage.within (p : ProgramImage) : Bool :=
  decide (p.codeLen ≤ 4194304) && decide (p.instLen ≤ 1048576) && decide (p.retLen ≤ 65536)

/-- Every resource that the image declares is claimed by the program (R558 condition 5). -/
def State.claims (s : State) (p : ProgramImage) : Bool :=
  let slots := s.nat (P.canProgramSlots 0) % 4 + 4 * (s.nat (P.canProgramSlots 1) % 4)
  decide (p.pwm &&& s.nat P.prgPwmClaim = p.pwm) && decide (p.slots &&& slots = p.slots) && decide (p.loops % 256 = 0)
    && decide (p.loops < 65536)

/-- Data carried to a new image: a variable of the same name and type keeps its value, any other is initial (R564). -/
def carryData (old new : List (Nat × Nat × Nat)) : List (Nat × Nat × Nat) :=
  new.map fun x => match old.find? fun y => y.1 == x.1 && y.2.1 == x.2.1 with
    | some y => y
    | none => x

/-- The staged image becomes the present one, and the old one is discarded (R563 step 3); the settings are sealed anew (R546),
where a generation has been sealed before (R167). -/
def State.takeStaged (s : State) : State := match s.upd.stagedProgram with
  | none => s
  | some p =>
    let old := s.upd.presentSlot
    let s := s.modUpd fun u => { u with present := some p, stagedProgram := none, presentSlot := 1 - old }
    let s := s.modVault fun v => { v with records := v.records.set (64 * 7 + old) none }
    if s.settings.isSome then s.queueVault 4 else s

/-- Breakpoints are cleared at every exchange and every start (R560). -/
def State.clearBreakpoints (s : State) : State := s.forAll [0, 1, 2, 3] fun i s => s.force (P.prgBreakpoint i) 0xFFFFFFFF

/-! ### Starts (R557, R562) -/

/-- The program starts, warm or cold, with the image of R557. -/
def State.startProgram (s : State) (cold : Bool) : State := match s.startImage with
  | none => s
  | some p =>
    let s := s.takeStaged.clearBreakpoints
    let keep := !cold && decide (s.prg.instCrc = p.crc)
    let s := s.modPrg fun g => { g with
      inst := if keep then g.inst else p.inst, retained := if cold then p.retained else carryData g.retained p.retained
      instCrc := p.crc, execMax := 0, executing := false, overrun := false, skip := false, exchange := 0 }
    -- each change of state sends a slip
    (s.when (decide (s.prg.state ≠ 1)) fun s => s.setProgram 1).endFault (src 5 31) noItem

/-- A stop by request (R557, R561). -/
def State.stopHost (s : State) : State :=
  (s.setProgram 0).modPrg fun g => { g with
    stopCause := 0, pending := 0, exchange := 0, executing := false, overrun := false, skip := false }

/-- The image to be started is held, within the limits and claims its resources (R558 conditions 3 to 5); the first unmet. -/
def State.startUnmet (s : State) : Option Nat := match s.startImage with
  | none => some 3
  | some p => if !p.within then some 4 else if !s.claims p then some 5 else none

/-- After a module restart with `PRG.AUTO_START` = 1 the program starts once the module is active in M3 or M4 (R562). -/
def State.autoStart (s : State) : State :=
  if s.prg.autoStart ≠ 0 ∧ s.active ∧ (s.modes.mode = .m3 ∨ s.modes.mode = .m4) then
    s.modPrg fun g => { g with pending := if s.startUnmet.isNone then g.autoStart else g.pending, autoStart := 0 }
  else s

/-! ### PROGRAM_CONTROL (R557, R558) -/

def cmdProgramControl : Cmd := { code := 0x0701, kind := .x, cls := 1 }

/-- The first unmet of the conditions 1 to 5 of R558. -/
def State.controlUnmet (s : State) (action : Nat) : Option Nat :=
  let m := s.modes.mode
  let mode := decide (m = .m3) || decide (m = .m4) || decide (m = .m5) || (decide (m = .m6) && (decide (action = 0) || decide (action = 3)))
    || (decide (m = .m7) && decide (action = 0))
  let permitted := decide (action = 0) || (if action = 3 then decide (s.prg.state = 2) else decide (s.prg.state ≠ 2))
  if !mode then some 1
  else if !permitted then some 2
  else if action = 2 ∨ (action = 1 ∧ (s.prg.state = 0 ∨ s.upd.stagedProgram.isSome)) then s.startUnmet
  else none

/-- What an action does once its conditions hold (R557). -/
def State.control (s : State) (action : Nat) : State :=
  let later := fun (n : Nat) => s.modPrg fun g => { g with pending := n }
  match action with
  | 0 => if s.prg.state = 1 then later 3 else if s.prg.state = 2 then s.stopHost else s
  | 1 => if s.prg.state = 0 then later 1
    else if s.upd.stagedProgram.isSome then s.modPrg fun g => { g with exchange := 1 } else s
  | 2 => later 2
  | _ => s.setProgram 1

/-- PROGRAM_CONTROL carried out. -/
def bodyProgramControl (action : Nat) (s : State) : Answer :=
  if 3 < action then (some (fieldRange 0 0 3), s)
  else match s.controlUnmet action with
  | some c => (some (s.notInMode c), s)
  | none => if s.prg.exchange ≠ 0 then (some (busy 5 0x1D01), s) else (some done, s.control action)

/-- `PROGRAM_CONTROL` (R557). -/
def execProgramControl (f : Frame) (action : Nat) (s : State) : Host.Outcome State Fault Refusal :=
  run (fun s => s.wicket f cmdProgramControl (.programControl f action) (fixedLen f 1) (bodyProgramControl action)
    (also := decide (s.modes.mode = .m7) && decide (action = 0))) s

/-! ### The input image (R551, R552) -/

/-- The parameters of the input image (R551). -/
def imageIndices : List Nat :=
  [0x0100, 0x0440, 0x0140, 0x1C09, 0x0503, 0x0531, 0x0310, 0x1440, 0x1441, 0x1442, 0x1445, 0x1A23, 0x1A29, 0x1A2A, 0x1A28]
    ++ ((List.range 8).flatMap fun r => [0x48, 0x49, 0x02, 0x04, 0x61, 0x60].map fun k => 0x1000 + 128 * r + k)
    ++ [0x0710, 0x0718, 0x0719, 0x071A, 0x071B, 0x0713, 0x0714, 0x0711] ++ (List.range 32).map fun i => 0x0745 + 6 * i

/-- The stations whose heartbeat is present (mask). -/
def State.presentMask (s : State) : Nat := ofIdx ((List.range 16).filter fun i => (s.bus.aux.get i).present)

/-- Take the input image at a cycle start (R551); the answers to the previous write are given once. -/
def State.takeImage (s : State) : State :=
  let values := (List.range 32).map s.processValue
  let image : ProgramInput := {
    sweep := s.arch.readSweep, tai := s.time.lastEpoch, short := s.time.lastEpoch % 2 ^ 32
    params := imageIndices.map fun i => (i, if (absentUnit s.ident i).isSome then 0 else s.roValue i)
    rows := s.readRows, values := values.map fun o => match o with | some v => v.toNat | none => 0x7FC00000
    valid := ofIdx ((List.range 32).filter fun i => (s.processValue i).isSome)
    stations := (List.range 16).map fun i => (s.bus.aux.get i).state, present := s.presentMask
    rx := (s.can 0).rx.map (fun x => (0, x)) ++ (s.can 1).rx.map (fun x => (1, x))
    guard := s.prg.guardAnswers, can := s.prg.canAnswers, sdo := s.prg.sdoAnswers, reads := s.prg.readAnswers
    undelivered := s.prg.undelivered }
  let s := s.forAll [0, 1] fun b s => s.modCan b fun c => { c with rx := [] }
  s.modPrg fun g => { g with image := image, canAnswers := [], sdoAnswers := [], readAnswers := [] }

/-! ### The cycle (R547 to R550, R563) -/

/-- The exchange at a cycle start: the new image with the data carried from the old one (R563, R564). -/
def State.exchange (s : State) : State := match s.upd.stagedProgram with
  | none => s.modPrg fun g => { g with exchange := 0 }
  | some p =>
    let s := s.takeStaged.clearBreakpoints
    let s := s.modPrg fun g => { g with
      inst := carryData g.inst p.inst, retained := carryData g.retained p.retained, instCrc := p.crc, exchange := 0
      exchanges := satU 32 (g.exchanges + 1), execMax := 0 }
    s.when s.active fun s => s.setProgram 1

/-- The changes that wait for a cycle start (R557, R563). -/
def State.cycleChange (s : State) : State :=
  let p := s.prg.pending
  let s := s.modPrg fun g => { g with pending := 0 }
  if p = 3 then (if s.prg.state ≠ 0 then s.stopHost else s)
  else if p ≠ 0 then s.startProgram (decide (p = 2))
  else if s.prg.exchange = 2 ∧ s.prg.state = 1 then s.exchange
  else s

/-- A cycle start on the active module: a start that an overrun skips does nothing (R549), and one that finds a cycle still
executing starts none. -/
def State.cycleStart (s : State) : State :=
  if s.prg.skip then s.modPrg fun g => { g with skip := false }
  else if s.prg.executing ∧ s.prg.state = 1 then s
  else
    let s := s.cycleChange
    if s.prg.state = 1 then
      s.takeImage.modPrg fun g => { g with
        executing := true, overrun := false, cycles := wrapU 32 (g.cycles + 1) }
    else if s.prg.state = 2 then s.takeImage
    else s

/-- `PROGRAM_CYCLE_START` (R547): at a sweep epoch whose counter is a multiple of the cycle in force. A standby takes the new image
of an exchange at the same start (R564). -/
def execProgramCycleStart (s : State) : Host.Outcome State Fault Refusal :=
  run (fun s =>
    let up := (s.modes.mode.runs || decide (s.modes.mode = .m7)) && !(s.arch.engines.get 6).inReset && !s.power.mainHeld && s.power.mainUp
    if !up ∨ s.prg.period = 0 ∨ s.time.sweep % s.prg.period ≠ 0 then s
    else
      let s := if s.active then s.cycleStart else if s.prg.exchange = 2 then s.exchange else s
      s.modPrg fun g => { g with period := s.nat P.prgCycle }) s

/-- `EXCHANGE_PREPARED` (R563): the data of the new image are built from the old, and the exchange follows at the next cycle start;
on a standby it tells that the active module's preparation is complete. -/
def execExchangePrepared (s : State) : Host.Outcome State Fault Refusal :=
  run (fun s => if s.upd.stagedProgram.isSome ∧ (s.prg.exchange = 1 ∨ s.twin.role = .standby) then
      s.modPrg fun g => { g with exchange := 2 } else s) s

/-! ### The output write (R553, R565, R567 to R569) -/

/-- A PWM duty in 0.1 %: rounded, 100 % for a value that is not finite; what one outside 0 % to 100 % drives is not stated. -/
def State.dutyOf (s : State) (v : Nat) : Nat :=
  let x : U32 := BitVec.ofNat 32 v
  if !f32Finite x then 1000
  else
    let q := roundAway (f32Val x * 10)
    if 0 ≤ q ∧ q ≤ 1000 then q.toNat else s.free 32 % 1001

/-- PWM outputs that the program claims. -/
def State.writeDuties (s : State) (l : List (Nat × Nat)) : State :=
  s.forAll (l.filter fun x => decide (x.1 < 8) && bitOf (s.nat P.prgPwmClaim) x.1) fun x s =>
    let d := s.dutyOf x.2
    ((s.modPrg fun g => { g with duties := updAt g.duties x.1 fun _ => d }).drivePwm x.1 d).nextFree

/-- Feedback variables; one that is not finite is invalid. -/
def State.writeFeedback (s : State) (l : List (Nat × Nat)) : State :=
  s.forAll l fun x s => s.modPrg fun g => { g with
    feedback := updAt g.feedback x.1 fun _ => if f32Finite (BitVec.ofNat 32 x.2) then some (x.2 % 2 ^ 32) else none }

/-- The stations lost since the snapshot, and those returned, in `PRG.UNDELIVERED`; the identifiers to send again (R565). -/
def State.undeliver (s : State) : List Nat × State :=
  let now := s.presentMask
  let lost := s.stations.filter fun i => bitOf s.prg.image.present i && !bitOf now i
  let back := s.stations.filter fun i => bitOf s.prg.undelivered i && bitOf now i
  let ids := ((s.mappings true).filter fun i => back.contains (s.pdoStation i)).map s.pdoId
  let s := s.modPrg fun g => { g with
    undelivered := back.foldl (fun m i => putBit m i false) (lost.foldl (fun m i => putBit m i true) g.undelivered) }
  (ids, s)

/-- The process values of the write and their frames (R542, R565). -/
def State.writeValues (s : State) (l : List (Nat × Nat)) : State :=
  let tx := s.mappings true
  let s := s.forAll (l.filter fun x => tx.contains x.1) fun x s =>
    s.modPdo x.1 fun p => { p with value := x.2 % 2 ^ 32, time := s.time.ns, valid := true, changed := p.changed || decide (p.value ≠ x.2 % 2 ^ 32) }
  let (again, s) := s.undeliver
  s.forAll (tx.map s.pdoId).eraseDups fun id s =>
    let due := again.contains id || tx.any fun i => decide (s.pdoId i = id) && (s.bus.pdo.get i).changed
    if due && !s.pdoWithheld id then s.sendPdo id else s

/-- Send one frame of the program, `n` frames of its bus having gone to the FIFO in this write; its answer (R568). -/
def State.writeFrame (s : State) (n b : Nat) (slot : Option Nat) (x : CanFrame) : Nat × State :=
  match slot with
  | some j =>
    if !bitOf (s.nat (P.canProgramSlots b)) j then (3, s)
    else match s.canSlotWrite b j x with
      | (true, t) => (0, t)
      | (false, t) => (2, t)
  | none =>
    if 16 ≤ n then (4, s)
    else
      let normal := decide (s.canMode b = 2)
      match s.canFifo b x with
      | (true, t) => (0, t)
      | (false, t) => (if normal then 1 else 2, t)

/-- The CAN frames of the write, in order (R568): one frame per slot. -/
def State.writeFrames (s : State) (l : List (Nat × Option Nat × CanFrame)) : State :=
  let s := s.modPrg fun g => { g with canAnswers := [] }
  let step := fun (acc : List (Nat × Option Nat) × State) (x : Nat × Option Nat × CanFrame) =>
    let (seen, s) := acc
    if 2 ≤ x.1 ∨ (x.2.1.isSome ∧ seen.contains (x.1, x.2.1)) then acc
    else
      let n := (seen.filter fun y => y == (x.1, none)).length
      let (code, s) := s.writeFrame n x.1 x.2.1 x.2.2
      (seen ++ [(x.1, x.2.1)], s.modPrg fun g => { g with
        canAnswers := g.canAnswers ++ [(x.1, code)], canRefused := if code = 0 then g.canRefused else satU 32 (g.canRefused + 1) })
  (l.foldl step ([], s)).2

/-- The SDO requests of the write, one per bus (R541, R569): refused while a transfer runs (code 1) or while the station's heartbeat
is lost (code 2). -/
def State.writeSdos (s : State) (l : List (Nat × Sdo)) : State :=
  s.forAll [0, 1] fun b s => match l.find? fun x => x.1 == b with
    | none => s
    | some (_, x) =>
      let refuse := fun (code : Nat) => s.modPrg fun g => { g with sdoAnswers := g.sdoAnswers ++ [(b, code, [])] }
      if (s.sdo b).isSome then refuse 1
      else if !(s.bus.aux.get x.station).present then refuse 2
      else s.sdoStart b x

/-- The Guard requests: a bit that rises places its request, a bit that falls drops its answer; connect and disconnect of one rail in
the same write are both refused with reason 4 (R567). -/
def State.writeGuard (s : State) (bits : Nat) : State :=
  let rise := (List.range 24).filter fun i => bitOf bits i && !bitOf s.prg.guardBits i && (decide (i < 2) || decide (8 ≤ i))
  let both := rise.filter fun i => decide (8 ≤ i) && rise.contains (if i < 16 then i + 8 else i - 8)
  s.modPrg fun g => { g with
    guardBits := bits
    guardAnswers := (g.guardAnswers.filter fun x => bitOf bits x.1 && !both.contains x.1) ++ both.map fun i => (i, 2, 4)
    guardPlaced := (g.guardPlaced.filter fun i => bitOf bits i) ++ rise.filter fun i => !both.contains i }

/-- The output write (R553). -/
def State.writeOutputs (s : State) (o : ProgramOutput) : State :=
  let declared := match s.upd.present with | some p => p.loops | none => 0
  let s := ((s.writeDuties o.duties).writeFeedback o.feedback).modPrg fun g => { g with
    refs := (g.refs.filter fun x => !o.refs.any fun y => y.1 == x.1) ++ o.refs.filter fun x => decide (8 ≤ x.1) && bitOf declared x.1 }
  let s := ((s.writeValues o.values).writeFrames o.frames).writeSdos o.sdos
  (s.writeGuard o.guard).modPrg fun g => { g with reads := o.reads.take 8 }

/-- `PROGRAM_EXECUTION_END` (R548, R549): the output write, and the retained data committed. -/
def execProgramExecutionEnd (o : ProgramOutput) (s : State) : Host.Outcome State Fault Refusal :=
  run (fun s =>
    if !s.prg.executing ∨ s.prg.state ≠ 1 ∨ !s.active then s
    else
      let late := s.prg.overrun
      let s := s.writeOutputs o
      let s := s.modPrg fun g => { g with
        executing := false, overrun := false, inst := o.inst, retained := o.retained, execMax := max g.execMax (satU 32 o.execUs)
        cleanRun := if late then 0 else min 100 (g.cleanRun + 1) }
      s.when (decide (s.prg.cleanRun = 100)) fun s => s.endFault (src 5 30) noItem) s

/-- `PROGRAM_DEADLINE_OVERRUN` (R549). -/
def execProgramDeadlineOverrun (s : State) : Host.Outcome State Fault Refusal :=
  run (fun s =>
    if !s.prg.executing ∨ s.prg.state ≠ 1 ∨ s.prg.overrun then s
    else (s.modPrg fun g => { g with
      overrun := true, skip := true, overruns := satU 32 (g.overruns + 1), cleanRun := 0 }).raise (src 5 30) noItem 1) s

/-- `PROGRAM_BREAKPOINT_HIT` (R559): execution reaches breakpoint `i`, and the program holds; in M5 with `MODE.HOLD_ENABLE` = 1 that is a
cause of M6, which the next sweep boundary takes (R94). -/
def execProgramBreakpointHit (i : Nat) (s : State) : Host.Outcome State Fault Refusal :=
  if 4 ≤ i then .fault .illFormed
  else run (fun s =>
    if !s.prg.executing ∨ s.prg.state ≠ 1 ∨ s.nat (P.prgBreakpoint i) = 0xFFFFFFFF then s
    else
      let s := s.setProgram 2
      s.when (decide (s.modes.mode = .m5) && s.flag P.modeHoldEnable) fun s => s.modModes fun m => { m with holdCause := true }) s

/-- `PROGRAM_RUNTIME_ERROR` (R570): the program stops at the point of the error, whose code offset goes into the Daybook. -/
def execProgramRuntimeError (offset : Nat) (s : State) : Host.Outcome State Fault Refusal :=
  run (fun s =>
    if !s.prg.executing ∨ s.prg.state ≠ 1 then s
    else ((s.day 0x000B (offset % 2 ^ 32)).raise (src 5 31) noItem 2).stopProgram 2) s

/-- At a sweep boundary: the loop references of the last write come into force, and the parameter reads are answered (R553). -/
def State.programBoundary (s : State) : State :=
  let refs := s.prg.refs
  let s := (s.modPrg fun g => { g with refs := [] }).forAll refs fun x s => s.force (P.loopReference x.1) (x.2 % 2 ^ 32 : Nat)
  let l := s.prg.reads
  s.modPrg fun g => { g with
    reads := []
    readAnswers := g.readAnswers ++ l.map fun i => (i, if !defined i ∨ (absentUnit s.ident i).isSome then 0 else s.readValue i) }

end Sys2Proof.Machine
end

