-- ==== Sys2Proof/Machine/Records.lean ====
section
/-! DEFINITION. The Daybook export, the accumulation of the Ledger, the close of books and the Ledger export (chapter 19). -/

namespace Sys2Proof.Machine

open Sys2Proof

def cmdDaybookExport : Cmd := { code := 0x0601, kind := .e, cls := 4 }
def cmdLedgerExport : Cmd := { code := 0x0602, kind := .e, cls := 4 }

/-! ### DAYBOOK_EXPORT (R575, R581, R582) -/

/-- The 16 bytes of an entry (R575), as fields. -/
def DayEntry.fields (e : DayEntry) : List (Nat × Nat) := [(8, e.time), (2, e.code), (2, e.rep), (4, e.arg)]

/-- DAYBOOK_EXPORT carried out (R582): numbers are differences from `REC.DAYBOOK_NEXT`. -/
def bodyDaybookExport (first count : Nat) (s : State) : Answer :=
  let r := s.recs
  let held := r.day.length
  let back := (r.next + 2 ^ 32 - first % 2 ^ 32) % 2 ^ 32
  if back = 0 ∨ 2 ^ 31 ≤ back then (some (done [(4, first), (2, 0), (2, 0)]), s)
  else
    let n := min back held
    let l := (r.day.take n).reverse.take count
    let reply := done ([(4, (r.next + 2 ^ 32 - n) % 2 ^ 32), (2, l.length), (2, 0)] ++ l.flatMap DayEntry.fields)
    (some { reply with flags := if l.length < n then 4 else 0 }, s)

/-- `DAYBOOK_EXPORT` (R582). -/
def execDaybookExport (f : Frame) (first count : Nat) (s : State) : Host.Outcome State Fault Refusal :=
  run (fun s => s.wicket f cmdDaybookExport (.daybookExport f first count) (countField f 6 4 63 count) (bodyDaybookExport first count)) s

/-! ### Ledger records (R584, R585) -/

/-- `n` fields of `size` bytes from offset `off`. -/
def fieldRun (off size n : Nat) : List (Nat × Nat) := (List.range n).map fun i => (off + size * i, size)

/-- Value and time. -/
def timed (off size : Nat) : List (Nat × Nat) := [(off, size), (off + size, 4)]

/-- The fields of a record's body: offset and size (R585). -/
def ledFields : Nat → List (Nat × Nat)
  | 0 => fieldRun 12 4 128
  | 1 => fieldRun 12 4 16 ++ timed 76 2 ++ timed 82 2 ++ timed 88 2 ++ timed 94 2 ++ [(100, 4), (104, 4), (108, 4), (112, 2), (114, 2), (116, 4)]
  | 2 => fieldRun 12 4 32 ++ fieldRun 140 4 8 ++ fieldRun 172 4 4
  | _ => fieldRun 12 4 28 ++ timed 124 2 ++ timed 130 2 ++ timed 136 2 ++ [(142, 2)] ++ fieldRun 144 4 3

/-- Records and records per reply of a region (R584). -/
def ledSize : Nat → Nat × Nat
  | 0 => (6144, 1)
  | 1 => (3072, 8)
  | 2 => (8, 5)
  | _ => (1, 6)

/-- The brick or rail of a record is absent or unused (R584). -/
def State.ledAbsent (s : State) (region rec : Nat) : Bool := match region with
  | 0 => !s.brickUsed (rec / 2)
  | 1 => !s.brickUsed rec
  | 2 => !s.railUsed rec
  | _ => false

/-- A body field of a record; a brick without a survey fit has no series resistance. -/
def LedgerRec.field (r : LedgerRec) (region off size : Nat) : Nat :=
  if region = 1 ∧ (off = 112 ∨ off = 114) ∧ r.words.get 116 = 0 then 0xFFFF else patI (8 * size) (r.words.get off)

/-- A record as it is exported, with its CRC-32 (R584). -/
def State.ledRecord (s : State) (t : Table LedgerRec) (region rec close since : Nat) (gap live : Bool) : List (Nat × Nat) :=
  let r := t.get (ledKey region rec)
  let absent := s.ledAbsent region rec
  let state := b2n absent + 2 * b2n r.restored + 4 * b2n gap + 8 * b2n live
  let head := [(2, if region = 0 then rec / 2 else if region = 3 then 0 else rec), (1, if region = 0 then rec % 2 else 0), (1, state),
    (4, close % 2 ^ 32), (4, if r.since = 0 then since else r.since)]
  let body := (ledFields region).map fun x => (x.2, if absent then 0 else r.field region x.1 x.2)
  let l := head ++ body
  l ++ [(4, crc32 (l.flatMap fun x => leBytes x.1 x.2))]

/-- The newest sealed Ledger generation (R588). -/
def State.sealedLedger (s : State) : Option LedgerGen := match s.newest 8 with
  | some (_, r) => match r.content with | .ledger g => some g | _ => none
  | none => none

/-- The region and the first record of a LEDGER_EXPORT exist (R591 steps 1 and 2). -/
def ledRangeBad (region first : Nat) : Option Reply :=
  if 3 < region % 128 ∨ 256 ≤ region then some (fieldRange 0 none32 none32)
  else if (ledSize (region % 128)).1 ≤ first then some (fieldRange 4 0 ((ledSize (region % 128)).1 - 1))
  else none

/-- What refuses the payload of LEDGER_EXPORT at step 7 of R129: its length, and the count of R591, which comes after its first two
checks. -/
def ledgerExportLen (f : Frame) (region count first : Nat) : Option Reply :=
  match fixedLen f 8 with
  | some r => some r
  | none =>
    if (ledRangeBad region first).isNone ∧ (count = 0 ∨ (ledSize (region % 128)).2 < count) then
      some (lengthInvalid count (ledSize (region % 128)).2 2)
    else none

/-- LEDGER_EXPORT carried out: the checks of its region and first record, then the records (R591). -/
def bodyLedgerExport (region count first : Nat) (s : State) : Answer :=
  let reg := region % 128
  let most := (ledSize reg).1
  match ledRangeBad region first with
  | some r => (some r, s)
  | none =>
    let n := min count (most - first)
    let reply := fun (l : List (Nat × Nat)) (k : Nat) => some (done ([(4, first), (2, k), (2, 0)] ++ l))
    let more := fun (r : Option Reply) => r.map fun r => { r with flags := if first + n < most then 4 else 0 }
    let recs := fun (f : Nat → List (Nat × Nat)) => (List.range n).flatMap fun j => f (first + j)
    if 128 ≤ region then
      (more (reply (recs fun k => s.ledRecord s.recs.liveAt reg k s.sec32 s.recs.since s.recs.gap true) n), s)
    else match s.sealedLedger with
      | none => (reply [] 0, s)
      | some g => (more (reply (recs fun k => s.ledRecord g.records reg k (g.stamp / 1000000000) g.since g.gap false) n), s)

/-- `LEDGER_EXPORT` (R591). -/
def execLedgerExport (f : Frame) (region count first : Nat) (s : State) : Host.Outcome State Fault Refusal :=
  run (fun s => s.wicket f cmdLedgerExport (.ledgerExport f region count first) (ledgerExportLen f region count first)
    (bodyLedgerExport region count first)) s

/-! ### Accumulation (R586) -/

/-- The bin of a value among rising edges. -/
def binOf (edges : List Rat) (x : Rat) : Nat := (edges.filter fun e => decide (e ≤ x)).length

/-- Edges on both sides of 0. -/
def bothSides (l : List Rat) : List Rat := l.reverse.map (fun e => -e) ++ 0 :: l

/-- The current edges of a brick and of a rail (R586). -/
def brickEdges : List Rat := bothSides [1 / 100, 5 / 100, 1 / 10, 1 / 4, 1 / 2, 1, 2]
def railEdges : List Rat := bothSides [1 / 100, 5 / 100, 1 / 10, 1 / 4, 1 / 2, 3 / 4, 1]

/-- The temperature bin of region 0. -/
def tempBin (t : Int) : Nat := if t < -1000 then 0 else min (1 + ((t + 1000) / 500).toNat) 15

/-- The die bin of region 3. -/
def dieBin (t : Int) : Nat := if t < 4000 then 0 else min (1 + ((t - 4000) / 500).toNat) 15

/-- One second of a brick, from its published row (R586): a value that is invalid adds to UNCOUNTED of the brick summary. -/
def State.ledBrick (s : State) (b : Nat) : State :=
  let r := s.rows.get b
  let s := match r.temperature with
    | some t =>
      if r.position = 0xFFFF then s.ledAdd (ledKey 1 b) 108 1
      else
        let k := tempBin t
        s.ledAdd (ledKey 0 (2 * b + k / 8)) (12 + 4 * (16 * (k % 8) + min (r.position / 625) 15)) 1
    | none => s.ledAdd (ledKey 1 b) 108 1
  let l := (s.bricks.get b).hist
  let c := s.nat P.estRatedCapacity
  if l.isEmpty ∨ c = 0 then s.ledAdd (ledKey 1 b) 108 1
  else
    -- charge of the last second in uC, times 3,600 s, over C in 0.1 C
    let x : Rat := ((s.bricks.get b).meanCharge * 3600 : Rat) / (100000 * c)
    s.ledAdd (ledKey 1 b) (12 + 4 * binOf brickEdges x) 1

/-- One second of a rail. -/
def State.ledRail (s : State) (r : Nat) : State :=
  let x := s.rails.get r
  let k := ledKey 2 r
  let s := if x.countSource = 2 ∨ s.rated r = 0 then s.ledAdd k 184 1
    else s.ledAdd k (12 + 4 * binOf railEdges ((x.curMean : Rat) / s.rated r)) 1
  let s := if x.position = 0xFFFF then s.ledAdd k 184 1 else s.ledAdd k (76 + 4 * min (x.position / 625) 15) 1
  s.when (decide (s.steerState r = 6)) fun s => s.ledAdd k 180 1

/-- The hottest die sensor. -/
def State.hottestDie (s : State) : Option Int := ((List.range 4).filterMap fun d =>
    let x := s.therm.dies.get d
    if x.samples.isEmpty then none else some x.value).foldl (fun m t => some (match m with | some a => max a t | none => t)) none

/-- One second of the module. -/
def State.ledModule (s : State) : State :=
  let k := ledKey 3 0
  let s := match s.hottestDie with
    | some t => s.ledAdd k (12 + 4 * dieBin t) 1
    | none => s.ledAdd k 152 1
  (s.ledAdd k (76 + 4 * s.modes.mode.num) 1).ledAdd k (108 + 4 * s.trs.state) 1

/-- `LEDGER_SECOND` (R586): every sweep whose counter is a multiple of 1,000; none in Hold-up (R600). -/
def execLedgerSecond (s : State) : Host.Outcome State Fault Refusal :=
  run (fun s =>
    if !s.accrues ∨ s.trs.state = 2 ∨ s.time.sweep % 1000 ≠ 0 then s
    else
      let s := s.forAll s.usedBricks fun b s => s.ledBrick b
      let s := s.forAll ((List.range 8).filter s.railUsed) fun r s => s.ledRail r
      s.ledModule) s

/-- The extremes of a sweep, from the rows without MISSING or ESTIMATE_ONLY (R586); SUPPLY_MIN is that of the higher of the two supply
inputs. -/
def State.ledExtremes (s : State) : State :=
  if !s.accrues ∨ s.trs.state = 2 then s
  else
    let both := fun (s : State) (k hi lo size : Nat) (v : Int) => (s.ledExtreme k hi (hi + size) v true).ledExtreme k lo (lo + size) v false
    let s := s.forAll s.usedBricks fun b s =>
      let r := s.rows.get b
      if bitOf r.status 6 ∨ bitOf r.status 3 then s
      else
        let s := if r.voltage = 0xFFFF then s else both s (ledKey 1 b) 76 82 2 r.voltage
        match r.temperature with
        | some t => both s (ledKey 1 b) 88 94 2 t
        | none => s
    let s := s.forAll ((List.range 8).filter s.railUsed) fun r s =>
      let x := s.rails.get r
      both (both s (ledKey 2 r) 140 148 4 x.current) (ledKey 2 r) 156 164 4 x.voltage
    let k := ledKey 3 0
    let s := match s.hottestDie with | some t => s.ledExtreme k 124 126 t true | none => s
    let board := fun (d : Nat) (s : State) =>
      let x := s.therm.dies.get d
      if x.samples.isEmpty then s else s.ledExtreme k 130 132 x.value true
    let s := board 5 (board 4 s)
    s.ledExtreme k 136 138 (max (s.trs.monitors.get 0).value (s.trs.monitors.get 1).value / 10 : Nat) false

/-! ### Close of books (R588, R589) -/

/-- The native time of a UTC midnight by its day number, ns. -/
def State.midnight (s : State) (day : Nat) : Nat := (((day * 86400 : Nat) : Int) + s.time.utcOffset).toNat * 1000000000

/-- A close of books falls due: each midnight passed since the last gets its entry, and one generation is written, stamped with the
latest of them (R588, R589). -/
def State.closeBooks (s : State) : State :=
  let day := s.utcSecs / 86400
  let past := if s.recs.dayTaken then s.recs.closedDay else day - 1
  if day ≤ past ∨ !(s.modes.mode.runs || decide (s.modes.mode = .m7)) then s
  else
    let missed := (List.range (day - past - 1)).map fun i => past + 1 + i
    let s := s.forAll missed fun d s => s.dayNew 0x0009 (satU 32 (s.recs.closeGen + 1)) (s.midnight d)
    let m := s.midnight day
    let stamp := if m ≤ s.time.lastEpoch ∧ s.time.lastEpoch < m + 1000000 then s.time.lastEpoch else m
    let waits := s.vault.writing.isSome || decide (s.trs.state = 2)
    -- a Lockout generation that waits stands for the close (R589)
    let due := match s.recs.due with | some (2, t) => some (2, t) | _ => some (1, stamp)
    let s := s.modRecs fun r => { r with closedDay := day, dayTaken := true, pending := waits, due := due }
    let s := s.when (decide (s.trs.state = 2)) fun s => s.day 0x000F (2 + 256)
    let clear := fun (t : Table Brick) => t.mapVals fun b => { b with vMinDay := 0xFFFF, vMaxDay := 0xFFFF }
    ({ s with bricks := clear s.bricks, rows := clear s.rows, readRows := clear s.readRows }).queueVault 7

/-- `CLOSE_OF_BOOKS` (R588): the first epoch at or after 00:00 UTC. -/
def execCloseOfBooks (s : State) : Host.Outcome State Fault Refusal := run State.closeBooks s

end Sys2Proof.Machine
end

