-- ==== Sys2Proof/Machine/Treasury.lean ====
section
/-! DEFINITION. The Treasury's budget periods and power states, the ageing measurements and the margin plan (chapter 20). -/

namespace Sys2Proof.Machine

open Sys2Proof

/-! ### Budget periods (R594 to R598) -/

/-- The busy time of an engine in classes P0 to P4 divides its energy, to the nearest 0.1 mJ (R595). -/
def divideEnergy (energy : Nat) (busy : List Nat) : List Nat :=
  let total := busy.foldl (· + ·) 0
  (List.range 5).map fun c => (divNear ((energy * busy.getD c 0 : Nat) : Int) total).toNat

/-- Four free values, each within what is left, and the rest: a division of `energy` over P0 to P4 that nothing constrains. -/
def State.freeClasses (s : State) (energy : Nat) : List Nat :=
  let part := fun (k left : Nat) => Config.freeValue (s.freeCtr + k) % (left + 1)
  let p0 := part 0 energy
  let p1 := part 1 (energy - p0)
  let p2 := part 2 (energy - p0 - p1)
  let p3 := part 3 (energy - p0 - p1 - p2)
  [p0, p1, p2, p3, energy - p0 - p1 - p2 - p3]

/-- The energy of engine `e` of the period that ends; energy without any busy time is divided freely over P0 to P4. -/
def State.meter (s : State) (e energy : Nat) (busy : List Nat) : State :=
  let idle := decide (busy.foldl (· + ·) 0 = 0)
  let l := if idle then s.freeClasses energy else divideEnergy energy busy
  let s := s.when (idle && decide (energy ≠ 0)) fun s => s.forAll [0, 1, 2, 3] fun _ s => s.nextFree
  s.modTrs fun t => { t with engines := t.engines.modify e fun b => { b with energy := satU 32 energy, classes := l } }

/-- Energy in mJ that no allowance holds back: the shared domain and the classes P0 and P1 (R597). -/
def State.fixedEnergy (s : State) : Rat :=
  let l := (List.range 8).map fun i =>
    let c := (s.trs.engines.get (i + 1)).classes
    c.getD 0 0 + c.getD 1 0
  ((s.trs.shared + l.foldl (· + ·) 0 : Nat) : Rat) / 10

/-- a_total of R597, mJ. -/
def State.totalAllowance (s : State) : Rat :=
  let cap : Rat := ((s.nat P.trsPowerCap * 100 : Nat) : Rat)
  let cap := if s.trs.state = 1 then cap * (s.nat P.trsThriftFraction : Rat) / 10000 else cap
  max 0 (cap - s.fixedEnergy)

/-- h_total of R597, mJ. -/
def State.totalHeat (s : State) : Rat :=
  let limit : Rat := ((s.val P.thDieThrottle - s.age.guard - s.val P.thDieHysteresis : Int) : Rat) / 100
  let hot : Rat := ((s.hottestDie.getD 0 : Int) : Rat) / 100
  let cold : Rat := ((max (s.therm.dies.get 4).value (s.therm.dies.get 5).value : Int) : Rat) / 100
  max 0 (2000 * (limit - hot) + (limit - cold) * 10 / 6 * 100 - s.fixedEnergy)

/-- The allowances of a period (R597), to the nearest mJ. -/
def State.formAllowances (s : State) : State :=
  let weight := fun e => s.nat (P.trsWeight (e - 1))
  let sum := (List.range 8).foldl (fun n i => n + weight (i + 1)) 0
  let part := fun (x : Rat) (e : Nat) => if sum = 0 then 0 else satU 32 (roundAway (x * weight e / sum)).toNat
  let a := s.totalAllowance
  let h := s.totalHeat
  let s := s.forAll (List.range 8) fun i s => s.modTrs fun t => { t with
    engines := t.engines.modify (i + 1) fun b => { b with allowance := part a (i + 1), heat := part h (i + 1) } }
  s.modTrs fun t => { t with heatHeadroom := min (roundAway h).toNat (2 ^ 31 - 1) }

/-- Every engine starts a period with its allowance whole. -/
def State.freshAllowances (s : State) : State :=
  (s.forAll (List.range 8) fun i s => s.modTrs fun t => { t with
    engines := t.engines.modify (i + 1) fun b => { b with spent := false } }).formAllowances

/-- `BUDGET_PERIOD_START` (R594, R597): at an epoch whose counter is a multiple of 100. -/
def execBudgetPeriodStart (m : Metering) (s : State) : Host.Outcome State Fault Refusal :=
  run (fun s =>
    if s.time.sweep % 100 ≠ 0 ∨ !s.power.mainUp ∨ s.power.mainHeld then s
    else
      let e := fun i => m.engines.getD i (0, [])
      let s := s.forAll (List.range 8) fun i s => s.meter (i + 1) (e i).1 (e i).2
      let total := m.shared + (List.range 8).foldl (fun n i => n + (e i).1) 0
      let s := s.modTrs fun t => { t with
        shared := m.shared, modulePower := min (divNear total 100).toNat 1000, period := wrapU 32 (t.period + 1) }
      s.freshAllowances) s

/-- `ALLOWANCE_SPENT` (R598): the P2 to P4 energy of engine `e` has reached the smaller of its allowances. -/
def execAllowanceSpent (e : Nat) (s : State) : Host.Outcome State Fault Refusal :=
  if e = 0 ∨ 8 < e then .fault .illFormed
  else run (fun s => s.modTrs fun t => { t with engines := t.engines.modify e fun b => { b with spent := true } }) s

/-! ### Power states (R599) -/

/-- The causes of Thrift (R599, `TRS.THRIFT_CAUSE`). -/
def State.thriftCauses (s : State) : Nat :=
  ofIdx ((List.range 3).filter fun i => match i with
    | 0 => (List.range 4).any fun d => (s.therm.dies.get d).throttle
    | 1 => s.trs.supplyLow
    | _ => s.flag P.trsForceThrift)

/-- The Treasury takes its power state in the order of R599; on a return to Full or Thrift the allowances are formed afresh. -/
def State.powerState (s : State) : State :=
  let c := s.thriftCauses
  let s := s.modTrs fun t => { t with thriftCause := c, stateSet := true }
  if s.power.onBank || (!s.power.supA && !s.power.supB) then (if s.trs.state = 2 then s else s.enterHoldUp)
  else
    let back := decide (2 ≤ s.trs.state)
    let s := s.setPower (if c = 0 then 0 else 1)
    s.when back State.freshAllowances

/-- `THRIFT_SUPPLY_TIMER` (R599): the higher supply input has stood below `TRS.THRIFT_SUPPLY` for 1 s (`low`), or above it by
0.5 V for 10 s. -/
def execThriftSupplyTimer (low : Bool) (s : State) : Host.Outcome State Fault Refusal :=
  run (fun s =>
    let higher := max (s.trs.monitors.get 0).value (s.trs.monitors.get 1).value
    let level := s.nat P.trsThriftSupply
    if (if low then decide (10 * level ≤ higher) else decide (higher ≤ 10 * (level + 50))) then s else
    let s := s.modTrs fun t => { t with supplyLow := low }
    s.when (decide (s.trs.state ≤ 1) && s.trs.stateSet) State.powerState) s

/-! ### The margin plan (R609 to R612) -/

/-- Ageing measurements and re-plans run: M3 to M7, Treasury in Full, and the P3 work of the Wicket core not held (R598, R607). -/
def State.ageingRuns (s : State) : Bool :=
  (s.modes.mode.runs || decide (s.modes.mode = .m7)) && decide (s.trs.state = 0) && !(s.trs.engines.get 1).spent

/-- A measurement that falls due now, or waits for the conditions of R607. -/
def State.measure (s : State) (bit : Nat) (may : Bool) (f : State → State) : State :=
  if s.ageingRuns && may then f (s.modAge fun a => { a with waiting := putBit a.waiting bit false })
  else s.modAge fun a => { a with waiting := putBit a.waiting bit true }

/-- `RING_OSCILLATOR_MEASURE` (R606, R607): the mean corrected counts of the four banks. -/
def execRingOscillatorMeasure (counts : List Nat) (s : State) : Host.Outcome State Fault Refusal :=
  if counts.length ≠ 4 then .fault .illFormed
  else run (fun s => s.measure 0 true fun s =>
    let slow := (List.range 4).map fun b =>
      let f0 := s.age.ro0.getD b 0
      clampI (-32768) 32767 (divNear (((f0 : Int) - counts.getD b 0) * 10000) f0)
    (s.modAge fun a => { a with slowdown := slow }).measured 2) s

/-- The region that holds a 1 MiB sample of the Vault (R616, log 49): the memory map in MiB. -/
def sampleRegion (m : Nat) : Nat :=
  if m = 0 then 0 else if m = 1 then 4 else if m ≤ 3 then 5 else if m ≤ 19 then 6 else if m ≤ 31 then 7 else if m ≤ 39 then 8 else 9

/-- `FLASH_MARGIN_TEST` (R607): bit differences of the next sample; ST.06 above 64. -/
def execFlashMarginTest (errors : Nat) (s : State) : Host.Outcome State Fault Refusal :=
  run (fun s => s.measure 1 true fun s =>
    let m := s.age.flashNext
    let s := s.modAge fun a => { a with flash := (satU 32 errors :: a.flash).take 8, flashNext := (a.flashNext + 1) % 64 }
    let s := s.when (decide (64 < errors)) fun s => s.raise (src 6 6) (itemRegion (sampleRegion m)) 1 (single := true)
    s.measured 3) s

/-- `HOLDUP_BANK_TEST_START` (R608): boost conversion pauses and the internal load draws 0.25 A. -/
def execHoldupBankTestStart (s : State) : Host.Outcome State Fault Refusal :=
  run (fun s =>
    let may := s.power.supA && s.power.supB && s.vault.writing.isNone && decide (s.modes.startedAt + 60000000000 ≤ s.time.ns)
      && decide (45000 ≤ s.power.bankMilliVolt)
    s.measure 2 may fun s => s.modAge fun a => { a with bankTest := true }) s

/-- `HOLDUP_BANK_TEST_END` (R608): the bank has fallen from 45 V to 44 V in `us` microseconds; C = 0.25 A × Δt ÷ 1 V, in
0.01 mF. -/
def execHoldupBankTestEnd (us : Nat) (s : State) : Host.Outcome State Fault Refusal :=
  run (fun s =>
    if s.age.bankTest then
      let s := s.modAge fun a => { a with bankTest := false }
      let s := s.modPower fun p => { p with bankMilliVolt := 44000 }
      s.bankMeasured (satU 16 (divNear us 40).toNat)
    else s) s

/-- `TCXO_DAILY` (R607): the mean rate of the day, when the time base was synchronised for 20 h of it. -/
def execTcxoDaily (s : State) : Host.Outcome State Fault Refusal :=
  run (fun s => s.measure 3 true fun s =>
    let a := s.age
    let s := s.when (decide (72000 ≤ a.daySync)) fun s =>
      let mean := satI 32 (divNear a.daySum a.daySecs)
      s.modAge fun a => { a with tcxo := mean, tcxoDrift := satI 32 (mean - a.tcxoMade) }
    s.modAge fun a => { a with daySum := 0, daySecs := 0, daySync := 0 }) s

/-- `REPLAN_PERIOD_EXPIRY` (R610). -/
def execReplanPeriodExpiry (s : State) : Host.Outcome State Fault Refusal := run (fun s => s.planTrigger 5) s

/-- The plan of a re-plan with its measurement record (R609, R626): the core step never rises, the die guard never falls. -/
def State.newPlan (s : State) : Plan :=
  let p := s.planInForce
  let q := s.planRules
  let a := s.age
  { q with
    generation := a.plan.generation + 1, cause := a.trigger, time := s.secs
    coreStep := min q.coreStep p.coreStep, dieGuard := max q.dieGuard p.dieGuard
    slowdown := a.slowdown, flashErrors := a.flashErrors, holdupCap := a.cap, holdupEnergy := a.energy
    tcxo := a.tcxo, tcxoDrift := a.tcxoDrift }

/-- `REPLAN` (R610, R611): a waiting re-plan computes its decisions and queues the plan. -/
def execReplan (s : State) : Host.Outcome State Fault Refusal :=
  run (fun s =>
    if s.age.trigger ≠ 0 ∧ s.age.running.isNone ∧ s.ageingRuns ∧ s.survey.state = 0 ∧ s.steer.tuneState ≠ 1
        ∧ s.vault.writing.isNone then
      let p := s.newPlan
      (s.modAge fun a => { a with running := some p, trigger := 0 }).queueVault 6
    else s) s

end Sys2Proof.Machine
end

