-- ==== Sys2Proof/Machine/Publish.lean ====
section
/-! DEFINITION. The rows that a Tally core publishes, the Guard core's check of them, and late sweeps (R42 to R44, R422). -/

namespace Sys2Proof.Machine

open Sys2Proof

/-- BALANCE_TARGET of a row: what remains of a pair target or of the automatic target (R252, R258). -/
def State.shownTarget (s : State) (b : Nat) : Int :=
  match s.est.pairs.find? fun t => decide (t.brick = b) with
  | some t => sgn t.target * divNear ((t.target.natAbs : Int) * 100000 - t.booked) 100000
  | none => s.balanceTarget b

/-- The row of a brick as its Tally core publishes it (R186). Where the P2 work of the sweep did not run, it carries its own
balance and the positions and flags of the row before (R600, R601). -/
def State.newRow (s : State) (b : Nat) : Brick :=
  let x := s.bricks.get b
  let old := s.rows.get b
  let x := { x with target := s.shownTarget b, shuttleCurrent := clampI (-(2 ^ 31 - 1)) (2 ^ 31 - 1) x.shuttleNow
                    status := putBit x.status 5 false }
  if s.p2Runs (3 + b / 24 % 2) then x
  else { x with heldPos := some (old.position, old.rawPosition), flags := old.flags, status := putBit x.status 2 (bitOf old.status 2) }

/-- The lowest and highest voltage since the close of books (R186), from rows without MISSING and ESTIMATE_ONLY. -/
def Brick.dayRange (x : Brick) : Brick :=
  if bitOf x.status 6 || bitOf x.status 3 || decide (x.voltage = 0xFFFF) then x
  else { x with
    vMinDay := if x.vMinDay = 0xFFFF then x.voltage else min x.vMinDay x.voltage
    vMaxDay := if x.vMaxDay = 0xFFFF then x.voltage else max x.vMaxDay x.voltage }

/-- The bricks of a Tally core: those of even links for core 0, of odd links for core 1 (R42). -/
def State.coreBricks (s : State) (core : Nat) : List Nat := s.usedBricks.filter fun b => decide (b / 24 % 2 = core)

/-- A demand of the Guard core on its rows; one that stands already opens again only what is closed (R410). -/
def State.rowDemand (s : State) (source item : Nat) : State :=
  if s.saf.coil = 0 ∧ s.saf.hClosed = 0 ∧ s.saf.close.isNone then s.raise source item 4 else s.demand source item 4

/-- One limit in a sweep: demanded when it is broken in this sweep and the one before (R422). `key` remembers the sweep. -/
def State.rowLimit (s : State) (source item key : Nat) (out : Bool) : State :=
  let before := s.saf.rowOut.contains key
  let s := s.modSaf fun x => { x with rowOut := if out then (if before then x.rowOut else x.rowOut ++ [key]) else x.rowOut.filter (· ≠ key) }
  if out then (if before then s.rowDemand source item else s) else s.endFault source item

/-- The limits of a published row (SI.60, SI.61). -/
def State.guardRow (s : State) (b : Nat) : State :=
  let x := s.rows.get b
  if bitOf x.status 6 || bitOf x.status 3 || decide (x.voltage = 0xFFFF) then
    s.modSaf fun y => { y with rowOut := y.rowOut.filter fun k => decide (k ≠ 4 * b) && decide (k ≠ 4 * b + 1) }
  else
    let s := s.rowLimit (src 3 60) (itemBrick b) (4 * b) (decide (s.nat P.brkOvLimit < x.voltage))
    s.rowLimit (src 3 61) (itemBrick b) (4 * b + 1) (decide (x.voltage < s.nat P.brkUvLimit))

/-- The windows of the spans of a monitor whose reply has come (R249, SI.62); a span without U changes nothing. -/
def State.guardWindows (s : State) (n p : Nat) : State :=
  let m := s.mon n p
  if !m.replied then s
  else
    -- a span that is gone is outside no window
    let gone := (halfBricks n p).filter fun b => !m.spans.any fun u => decide (24 * n + 12 * p + u.1 = b)
    let s := s.modSaf fun y => { y with rowOut := y.rowOut.filter fun k => !gone.any fun b => decide (k = 4 * b + 2) }
    let s := s.forAll gone fun b s => s.endFault (src 3 62) (itemBrick b)
    s.forAll m.spans fun u s =>
    let b := 24 * n + 12 * p + u.1
    match u.2.2 with
    | some v =>
      let lo := (u.2.1 * s.nat P.brkUvLimit + s.nat P.brkPairMargin : Nat)
      let hi : Int := (u.2.1 * s.nat P.brkOvLimit : Nat) - s.val P.brkPairMargin
      s.rowLimit (src 3 62) (itemBrick b) (4 * b + 2) (!(decide ((lo : Int) ≤ v) && decide (v ≤ hi)))
    | none => s

/-- The Guard core's check of the rows of a Tally core (R42, R422). -/
def State.guardRows (s : State) (core : Nat) : State :=
  if s.arch.guardStopped || (s.arch.engines.get 8).inReset then s
  else
    let s := s.forAll (s.coreBricks core) fun b s => s.guardRow b
    let s := s.forAll (s.usedLinks.filter fun n => decide (n % 2 = core)) fun n s =>
      s.forAll (List.range (s.monCount n)) fun p s => s.guardWindows n p
    s.forAll (s.usedLinks.filter fun n => decide (n % 2 = core)) fun n s => s.toneDemand n

/-- Tally core `c` runs: in every mode with sweeps, M1 among them (R42). -/
def State.tallies (s : State) (c : Nat) : Bool :=
  s.counts c && decide (s.modes.mode ≠ .m0) && decide (s.modes.mode ≠ .m2) && s.power.mainUp && !s.power.mainHeld

/-- Tally core `c` has published in the present cycle. -/
def State.fresh (s : State) (c : Nat) : Bool := if c = 0 then s.arch.fresh0 else s.arch.fresh1

/-- The rows of a cycle make a table of one sweep once both Tally cores have done with it, by publishing or, as a core in reset or a
late one does, by leaving their last rows to stand with STALE or LATE (R43, R187, R189; log 186). -/
def State.closeTable (s : State) (other : Nat) : State :=
  if s.fresh other || !s.counts other then
    { s with readRows := s.rows, arch := { s.arch with readSweep := s.time.sweep } }
  else s

/-- `TALLY_PUBLISH` (R42): Tally core `c` completes the cycle and publishes the rows of its bricks. -/
def execTallyPublish (c : Nat) (s : State) : Host.Outcome State Fault Refusal :=
  if 1 < c then .fault .illFormed
  else run (fun s =>
    if !s.tallies c || s.fresh c then s
    else
      let s := s.tallySweep c
      let s := s.forAll (s.coreBricks c) fun b s =>
        let s := s.modBrick b Brick.dayRange
        let row := s.newRow b
        { s with rows := s.rows.set b row }
      let s := s.modArch fun a =>
        if c = 0 then { a with published0 := s.time.sweep, fresh0 := true } else { a with published1 := s.time.sweep, fresh1 := true }
      let s := s.closeTable (1 - c)
      (s.endFault (src 5 8) (itemEngine (3 + c))).guardRows c) s

/-- `TALLY_LATE` (R43): at +1,000 µs Tally core `c` has not published; the rows of the cycle before stand. R43 gives the late-sweep
counter no width: DESIGN CHOICE, a saturating u32 (log 5). -/
def execTallyLate (c : Nat) (s : State) : Host.Outcome State Fault Refusal :=
  if 1 < c then .fault .illFormed
  else run (fun s =>
    if !s.tallies c || s.fresh c then s
    else
      let s := s.tallySweep c
      let s := s.forAll (s.coreBricks c) fun b s => s.modRow b fun x => { x with status := putBit x.status 5 true }
      let s := s.when (s.fresh (1 - c)) fun s => s.closeTable (1 - c)
      let s := s.modArch fun a => if c = 0 then { a with late0 := satU 32 (a.late0 + 1) } else { a with late1 := satU 32 (a.late1 + 1) }
      s.raise (src 5 8) (itemEngine (3 + c)) 1) s

end Sys2Proof.Machine
end

