-- ==== Sys2Proof/Machine/Sessions.lean ====
section
/-! DEFINITION. Sessions, wickets and slips: the commands of kind A and their timers (chapter 04). -/

namespace Sys2Proof.Machine

open Sys2Proof

/-! ### Catalogue rows (R153) -/

def cmdSessionOpen : Cmd := { code := 0x0001, kind := .a, cls := 1 }
def cmdSessionClose : Cmd := { code := 0x0002, kind := .a, cls := 1 }
def cmdWicketOpen : Cmd := { code := 0x0003, kind := .a, cls := 1 }
def cmdWicketClose : Cmd := { code := 0x0004, kind := .a, cls := 1 }
def cmdNoop : Cmd := { code := 0x0005, kind := .a, cls := 1 }
def cmdCancel : Cmd := { code := 0x0006, kind := .a, cls := 1 }
def cmdSlipFetch : Cmd := { code := 0x0010, kind := .a, cls := 2 }
def cmdSlipAck : Cmd := { code := 0x0011, kind := .a, cls := 2 }

/-! ### SESSION_OPEN (R132 to R135, R630, R641) -/

/-- The slot for an address: its own, else an unbound one, else one unused for 24 h with no session (R132). -/
def State.slotFor (s : State) (addr : Nat) : Option Nat :=
  let l := List.range 4
  match l.find? fun i => (s.slot i).addr == some addr with
  | some i => some i
  | none => match l.find? fun i => (s.slot i).addr == none with
    | some i => some i
    | none => l.find? fun i => (s.slot i).session.isNone && decide ((s.slot i).lastUse + 86400000000000 ≤ s.time.ns)

/-- The slot whose session holds control, if any (R133). -/
def State.controlHeld (s : State) : Option Nat :=
  (List.range 4).find? fun i => match (s.slot i).session with | some x => x.control | none => false

/-- Sessions open on the service port (R630). -/
def State.serviceSessions (s : State) : Nat :=
  ((List.range 4).filter fun i => match (s.slot i).session with | some x => x.service | none => false).length

/-- The TLS session under a service port frame can exist: the client certificate chains to a held anchor; with none held
any does, in M3 alone; in M2 any does (R630, R641). -/
def State.tlsOk (s : State) (f : Frame) : Bool :=
  f.via != 2 || f.trusted || decide (s.modes.mode = .m2) ||
    (s.upd.anchors.all Option.isNone && decide (s.modes.mode = .m3))

/-- A token that no open session bears, from a free value on (the manual does not say how a token is drawn, log 14). -/
def State.newToken (s : State) : Nat :=
  let used := (List.range 4).filterMap fun i => (s.slot i).session.map (·.token)
  let c := (List.range 6).map fun k => (s.free 32 + k) % 2 ^ 32
  (c.find? fun x => x != 0 && !used.contains x).getD 1

/-- Whether a control session may be opened from an address (R134; M2 is R641). -/
def State.controlAllowed (s : State) (addr : Nat) : Bool :=
  let l := (List.range 8).map fun i => s.nat (P.wktControlAllow i)
  decide (s.modes.mode = .m2) || (if l.all (· == 0) then decide (s.modes.mode = .m3) else addr != 0 && l.contains addr)

/-- SESSION_OPEN carried out. -/
def bodySessionOpen (f : Frame) (kind timeout : Nat) (s : State) : Answer :=
  if 1 < kind then (some (fieldRange 0 0 1), s)
  else if timeout ≠ 0 ∧ (timeout < 2 ∨ 300 < timeout) then (some (fieldRange 2 2 300), s)
  else match s.slotFor f.src with
    | none => (some (refusal 0x0F 4), s)
    | some i =>
      -- a session still open from this address closes when the new one opens (log 184)
      let others := s.modSlot i fun h => { h with session := none }
      if f.via = 2 ∧ 2 ≤ others.serviceSessions then (some (refusal 0x0F 4), s)
      else if kind = 1 ∧ !s.controlAllowed f.src then (some (refusal 0x0D 7 0x0001), s)
      else match (if kind = 1 then s.controlHeld else none) with
        | some j => (some (busy 3 j), s)
        | none =>
          let s := s.closeSession i 2
          let t := s.newToken
          let s := s.nextFree
          let x : Session := {
            token := t, control := decide (kind = 1), service := decide (f.via = 2), trusted := f.trusted, lastFrame := s.time.ns
            timeout := if timeout = 0 then s.nat P.wktSessionTimeout else timeout }
          let s := s.modSlot i fun h => { h with addr := some f.src, port := f.port, lastUse := s.time.ns, session := some x }
          let s := s.day 0x0006 (i + 256 * kind)
          let h := s.slot i
          (some (done [(4, t), (1, i), (1, kind), (1, s.modes.mode.num), (1, s.trs.state), (4, h.oldest), (4, h.nextSeq),
            (4, capUnits s.ident), (2, s.upd.running.number), (2, s.upd.running.mirrorFormat)]), s)

/-- `SESSION_OPEN` (R132): a frame with HOST and WICKET 0xFF and session 0. -/
def execSessionOpen (f : Frame) (kind timeout : Nat) (s : State) : Host.Outcome State Fault Refusal :=
  run (fun s => s.receive f cmdSessionOpen fun s =>
    if !s.tlsOk f then s
    else if f.session ≠ 0 ∨ f.host ≠ 0xFF ∨ f.wicket ≠ 0xFF then s.answer f 0x0001 (refusal 0x0F 1)
    else if s.modes.mode = .m2 ∧ kind ≠ 1 then s.answer f 0x0001 (refusal 0x0E 0 0x0001)
    else if f.priority < 1 ∨ 4 < f.priority then s.answer f 0x0001 (refusal 0x0D 4 0x0001)
    else match fixedLen f 4 with
      | some r => s.answer f 0x0001 r
      | none => s.queueOrServe f cmdSessionOpen (.sessionOpen f kind timeout) false (bodySessionOpen f kind timeout)) s

/-! ### The other commands of kind A -/

/-- SESSION_CLOSE carried out: the reply goes first (R135). -/
def bodySessionClose (f : Frame) (s : State) : Answer := (none, (s.complete f cmdSessionClose done).closeSession f.host 2)

/-- `SESSION_CLOSE` (R135). -/
def execSessionClose (f : Frame) (s : State) : Host.Outcome State Fault Refusal :=
  run (fun s => s.wicket f cmdSessionClose (.sessionClose f) (fixedLen f 0) (bodySessionClose f) (inM2 := true)) s

/-- WICKET_OPEN carried out: the last completed SEQ is the value given, and the open's own reply stands for it (R131, log 15). -/
def bodyWicketOpen (f : Frame) (seq : Nat) (s : State) : Answer :=
  let r := s.stamp 1 done
  let s := s.emit (.wicketReply f 0x0003 r)
  (none, s.modWicket f fun _ => { isOpen := true, lastSeq := seq, lastCode := 0x0003, stored := some r })

/-- `WICKET_OPEN` (R131). -/
def execWicketOpen (f : Frame) (seq : Nat) (s : State) : Host.Outcome State Fault Refusal :=
  run (fun s => s.wicket f cmdWicketOpen (.wicketOpen f seq) (fixedLen f 2) (bodyWicketOpen f seq)
    (opens := true) (inM2 := true)) s

/-- WICKET_CLOSE carried out. -/
def bodyWicketClose (f : Frame) (s : State) : Answer :=
  (none, (s.complete f cmdWicketClose done).modWicket f fun _ => {})

/-- `WICKET_CLOSE` (R131). -/
def execWicketClose (f : Frame) (s : State) : Host.Outcome State Fault Refusal :=
  run (fun s => s.wicket f cmdWicketClose (.wicketClose f) (fixedLen f 0) (bodyWicketClose f) (inM2 := true)) s

/-- NOOP carried out (R153). -/
def bodyNoop (f : Frame) (s : State) : Answer :=
  (some (done [(1, s.modes.mode.num), (1, s.trs.state), (2, 0), (4, (s.slot f.host).nextSeq)]), s)

/-- `NOOP` (R153). -/
def execNoop (f : Frame) (s : State) : Host.Outcome State Fault Refusal :=
  run (fun s => s.wicket f cmdNoop (.noop f) (fixedLen f 0) (bodyNoop f) (inM2 := true)) s

/-- CANCEL carried out: the deferred request named completes with REFUSED_BUSY, DETAIL 6 (R153); one that names none does
nothing. -/
def bodyCancel (f : Frame) (wicket seq : Nat) (s : State) : Answer :=
  match s.wk.deferred.find? fun d => d.frame.session == f.session && d.frame.wicket == wicket && d.frame.seq == seq with
  | some d => (some done, (s.undefer d.frame).complete d.frame d.cmd (busy 6))
  | none => (some done, s)

/-- `CANCEL` (R141). -/
def execCancel (f : Frame) (wicket seq : Nat) (s : State) : Host.Outcome State Fault Refusal :=
  run (fun s => s.wicket f cmdCancel (.cancel f wicket seq) (fixedLen f 4) (bodyCancel f wicket seq)) s

/-- SLIP_FETCH carried out (R151): from the first SEQ named, or from the oldest held. -/
def bodySlipFetch (f : Frame) (first count : Nat) (s : State) : Answer :=
  let h := s.slot f.host
  let l := (h.queue.filter fun x => decide (h.age x.seq + 1 ≤ (h.age first + 1) % 2 ^ 32)).take count
  (some (done ([(4, h.oldest), (2, l.length), (2, 0)] ++ l.flatMap Slip.fields)), s)

/-- `SLIP_FETCH` (R151). -/
def execSlipFetch (f : Frame) (first count : Nat) (s : State) : Host.Outcome State Fault Refusal :=
  run (fun s => s.wicket f cmdSlipFetch (.slipFetch f first count) (countField f 6 4 31 count) (bodySlipFetch f first count)) s

/-- The slips up to a SEQ leave the queue; with the SLIPS_LOST slip its count starts again (R147, R150). -/
def HostSlot.ack (h : HostSlot) (seq : Nat) : HostSlot :=
  let gone := fun (x : Slip) => decide (h.age seq ≤ h.age x.seq)
  let h' := { h with slips := h.slips.filter fun x => !gone x }
  match h.lostSlip with
  | some l => if gone l then { h' with lostSlip := none, lostCount := 0 } else h'
  | none => h'

/-- SLIP_ACK carried out. -/
def bodySlipAck (f : Frame) (seq : Nat) (s : State) : Answer := (some done, s.modSlot f.host fun h => h.ack seq)

/-- `SLIP_ACK` (R147). -/
def execSlipAck (f : Frame) (seq : Nat) (s : State) : Host.Outcome State Fault Refusal :=
  run (fun s => s.wicket f cmdSlipAck (.slipAck f seq) (fixedLen f 4) (bodySlipAck f seq)) s

/-! ### Timers -/

/-- `SESSION_TIMEOUT` (R135): no valid frame for the timeout of the session on slot `i`. -/
def execSessionTimeout (i : Nat) (s : State) : Host.Outcome State Fault Refusal := run (fun s => s.closeSession i 3) s

/-- `SLIP_BATCH_DUE` (R147): each slot with an open session is sent one frame of its unsent slips. -/
def execSlipBatchDue (s : State) : Host.Outcome State Fault Refusal :=
  run (fun s => s.forAll (List.range 4) fun i s => s.sendBatch i) s

/-- `DEFER_LIMIT_EXPIRY` (R142): the P3 or P4 request deferred on a wicket of host slot `i` completes with REFUSED_BUDGET. -/
def execDeferLimitExpiry (i wicket : Nat) (s : State) : Host.Outcome State Fault Refusal :=
  run (fun s => match s.wk.deferred.find? fun d => d.frame.host == i && d.frame.wicket == wicket && decide (3 ≤ d.cls) with
    | some d => (s.undefer d.frame).refuseBudget d.frame d.cmd 2
    | none => s) s

end Sys2Proof.Machine
end

