-- ==== Sys2Proof/Machine/Serve.lean ====
section
/-! DEFINITION. Requests that waited, in the deferred queue or in the fabric, as they are carried out (R141, R143). -/

namespace Sys2Proof.Machine

open Sys2Proof

/-- A parameter write that waited: one entry. -/
def State.serveWrite (s : State) (f : Frame) (i ty v : Nat) : State :=
  s.serve f cmdParamWrite false (bodyParamWrite f [{ index := i, ty := ty, value := v }])

/-- Carry out a request that has waited, by the meaning of its command. -/
def State.serveReq (s : State) (req : Instr) : State :=
  let m2 := decide (s.modes.mode = .m2)
  match req with
  | .sessionOpen f kind timeout => s.serve f cmdSessionOpen false (bodySessionOpen f kind timeout)
  | .sessionClose f => s.serve f cmdSessionClose false (bodySessionClose f)
  | .wicketOpen f seq => s.serve f cmdWicketOpen false (bodyWicketOpen f seq)
  | .wicketClose f => s.serve f cmdWicketClose false (bodyWicketClose f)
  | .noop f => s.serve f cmdNoop false (bodyNoop f)
  | .cancel f wicket seq => s.serve f cmdCancel false (bodyCancel f wicket seq)
  | .slipFetch f first count => s.serve f cmdSlipFetch false (bodySlipFetch f first count)
  | .slipAck f seq => s.serve f cmdSlipAck false (bodySlipAck f seq)
  | .paramRead f _ l => s.serve f cmdParamRead false (bodyParamRead f l)
  | .paramWrite f _ l => s.serve f cmdParamWrite false (bodyParamWrite f l)
  | .sweepPhaseWrite f n ty v => s.serveWrite f (P.lnkSweepPhase n) ty v
  | .loopEnableWrite f k sections ty v => s.serveWrite f (if sections then P.loopSections k else P.loopEnable k) ty v
  | .receiptStickyWrite f ty v => s.serveWrite f 0x0360 ty v
  | .replanRequestWrite f ty v => s.serveWrite f P.ageReplanRequest ty v
  | .breakpointWrite f i ty v => s.serveWrite f (P.prgBreakpoint i) ty v
  | .settingsCommit f => s.serve f cmdSettingsCommit false bodySettingsCommit
  | .settingsDiscard f => s.serve f cmdSettingsDiscard false bodySettingsDiscard
  | .sealedSetWrite f crc _ l => s.serve f cmdSealedSetWrite false (bodySealedSetWrite crc l)
  | .sealedSetConfirm f crc => s.serve f cmdSealedSetConfirm false (bodySealedSetConfirm f crc)
  | .modeRequest f target => s.serve f cmdModeRequest (decide (target = 0)) (bodyModeRequest target)
  | .restart f kind => s.serve f cmdRestart false (bodyRestart f kind)
  | .close f => s.serve f cmdClose false bodyClose
  | .stop f => s.serve f cmdStop false bodyStop
  | .trip f => s.serve f cmdTrip false (bodyTrip f)
  | .faultAck f source => s.serve f cmdFaultAck false (bodyFaultAck f source)
  | .brickRead f first count mask => s.serve f cmdBrickRead false (bodyBrickRead f first count mask)
  | .balanceTest f b t => s.serve f cmdBalanceTest false (bodyBalanceTest b t)
  | .surveyStart f r => s.serve f cmdSurveyStart false (bodySurveyStart r)
  | .surveyAbort f r => s.serve f cmdSurveyAbort false (bodySurveyAbort r)
  | .surveyResult f r first count => s.serve f cmdSurveyResult false (bodySurveyResult r first count)
  | .loopFlagsClear f mask => s.serve f cmdLoopFlagsClear false (bodyLoopFlagsClear mask)
  | .loopTest f k point kind a b => s.serve f cmdLoopTest false (bodyLoopTest k point kind a b)
  | .captureRead f number first count => s.serve f cmdCaptureRead false (bodyCaptureRead number first count)
  | .programControl f action =>
    s.serve f cmdProgramControl (decide (s.modes.mode = .m7) && decide (action = 0)) (bodyProgramControl action)
  | .programStatus f => s.serve f cmdProgramStatus false bodyProgramStatus
  | .timeRead f => s.serve f cmdTimeRead false bodyTimeRead
  | .daybookExport f first count => s.serve f cmdDaybookExport false (bodyDaybookExport first count)
  | .ledgerExport f region count first => s.serve f cmdLedgerExport false (bodyLedgerExport region count first)
  | .leaseAcquire f kind length digest => s.serve f cmdLeaseAcquire m2 (bodyLeaseAcquire f kind length digest)
  | .leaseRelease f => s.serve f cmdLeaseRelease false (bodyLeaseRelease f)
  | .imageChunk f offset length data => s.serve f cmdImageChunk m2 (bodyImageChunk f offset length data)
  | .imageFinish f check => s.serve f cmdImageFinish m2 (bodyImageFinish f check)
  | .issueTrial f target number => s.serve f cmdIssueTrial false (bodyIssueTrial f target number)
  | .issueConfirm f target => s.serve f cmdIssueConfirm false (bodyIssueConfirm f target)
  | .issueReject f target => s.serve f cmdIssueReject false (bodyIssueReject f target)
  | .anchorWrite f idx action length data parses =>
    s.serve f cmdAnchorWrite false (bodyAnchorWrite f idx action length data parses)
  | _ => s

/-- Carry out a request that has waited: not before a restart or commit that is on its way (R157), and by an engine in reset only once
it is back (R143). -/
def State.serveWaiting (s : State) (d : Deferred) : State :=
  if s.blocked then s.complete d.frame d.cmd (busy 4)
  else if (s.arch.engines.get d.engine).inReset then
    s.modWk fun w => { w with fabric := w.fabric ++ [s.waiting d.frame d.cmd d.req] }
  else s.serveReq d.req

/-- A deferred request may run: its class is not held by the power state, nor by its engine's allowance (R140). -/
def State.mayRun (s : State) (d : Deferred) : Bool :=
  decide (s.trs.state ≠ 2) && !(decide (s.trs.state = 1) && decide (3 ≤ d.cls))
    && !(decide (2 ≤ d.cls) && (s.trs.engines.get d.engine).spent)

/-- `DEFERRED_REQUEST_SERVE` (R141): the foremost request of the deferred queue whose class may run is carried out; one whose
engine is in reset goes on to wait in the fabric (R143). -/
def execDeferredRequestServe (s : State) : Host.Outcome State Fault Refusal :=
  run (fun s =>
    if !s.power.mainUp || s.power.mainHeld then s
    else match s.wk.deferred.find? s.mayRun with
    | some d =>
      let s := s.undefer d.frame
      -- behind an earlier request of its class that waits for the boundary it takes its place there (R136)
      if !s.blocked && s.boundaryBefore d.frame d.cmd then
        s.modWk fun w => { w with writes := w.writes ++ [{ frame := d.frame, code := d.code, later := some d }] }
      else s.serveWaiting d
    | none => s) s

/-! ### The sweep boundary (R136, R166, R168) -/

/-- A request that was checked takes effect at the boundary and is answered: a PARAM_WRITE as a whole, which the active module forwards
(R136, R166, R474), a PARAM_READ, whose entries are all read there (R168), or a FAULT_ACK (R459). -/
def State.applyOne (s : State) (w : PendingWrite) : State :=
  match w.ack with
  | some source =>
    let (r, s) := s.applyAck source
    s.complete w.frame cmdFaultAck r
  | none =>
  if w.reads.isEmpty then
    let s := s.forAll w.entries fun e s => s.applyParam e.1 e.2
    let s := s.when (s.active && s.fitted) fun s => s.modTwin fun t => { t with paramOut := t.paramOut ++ w.entries }
    s.complete w.frame cmdParamWrite (done [])
  else s.complete w.frame cmdParamRead (s.readReply w.reads)

/-- One request that waited for the boundary; one that is not checked yet is carried out now, in its turn (R136). -/
def State.applyNext (s : State) (w : PendingWrite) : State :=
  match w.later with
  | none => s.applyOne w
  | some d =>
    let s := s.serveWaiting d
    let l := s.wk.writes
    (s.modWk fun w => { w with writes := [] }).forAll l fun w s => s.applyOne w

/-- The requests that wait for the sweep boundary are carried out in arrival order (R136). -/
def State.applyWrites (s : State) : State :=
  let l := s.wk.writes
  (s.modWk fun w => { w with writes := [] }).forAll l fun w s => s.applyNext w

end Sys2Proof.Machine
end

