-- ==== Sys2Proof/Machine/Start.lean ====
section
/-! DEFINITION. Starts of the main domain (chapter 03): what a warm or a cold start keeps, the Boot steps, the settle count, and the
return of an engine from its own reset. -/

namespace Sys2Proof.Machine

open Sys2Proof

/-! ### Straps (R62, R63) -/

/-- The strap pins at fault in M1 (R63): between the thresholds, of an even parity, or TWPOS both or neither strapped. With a pin
between the thresholds the parity and TWPOS tell nothing, and those pins alone are named (DESIGN CHOICE, log 180). -/
def StrapPins.faults (p : StrapPins) : List Nat :=
  let l := strapPins p
  let count := fun (l : List (Nat × Nat)) => (l.filter fun x => decide (x.2 = 1)).length
  let mid := (l.filter fun x => decide (x.2 = 2)).map (·.1)
  let sid := l.take 6
  let tw := l.drop 6
  if !mid.isEmpty then mid
  else (if count sid % 2 = 0 then sid.map (·.1) else []) ++ if count tw ≠ 1 then tw.map (·.1) else []

/-! ### Vault records (R619) -/

/-- A record that fails its check is no valid record of its region; ST.02 or ST.04 where it was the newest of one that says so. -/
def State.failRecord (s : State) (region slot : Nat) : State :=
  let newest := match s.newest region with | some (k, _) => decide (k = slot) | none => false
  let spare := match s.vrec 9 0 with
    | some r => r.valid && decide (r.origin = 16 * region + slot) && (decide (region = 6) || decide (region = 7))
    | none => false
  if spare then s else
  let s := s.modVault fun v => { v with records := v.records.modify (64 * region + slot) fun r => r.map fun x => { x with valid := false } }
  if newest && decide (region ≤ 2) then (s.raise (src 6 2) (itemRegion region) 1 (single := true)).day 0x0044 region
  else if newest && decide (region = 5) then (s.raise (src 6 4) noItem 2 (single := true)).day 0x0044 region
  else s

/-- The records that this start finds unreadable. -/
def State.failRecords (s : State) (l : List (Nat × Nat)) : State := s.forAll l fun x s => s.failRecord x.1 x.2

/-! ### Issue selection (R629) -/

/-- What the mask ROM decides: the slot to run (none: M2), whether as a trial, the control record, and the slots that failed. -/
structure Selection where
  slot : Option Nat := none
  trial : Bool := false
  control : Control := {}
  failed : List Nat := []
  deriving DecidableEq, Repr

/-- run(s) of R629. -/
def runSlot (ok : Nat → Bool) (c : Control) (failed : List Nat) (k : Nat) : Selection :=
  let o := 1 - k
  if ok k then { slot := some k, control := c, failed := failed }
  else
    let c := { c with slotState := updAt c.slotState k fun _ => 5 }
    let failed := failed ++ [k]
    if ok o then
      if c.slotState.getD o 0 = 3 then { slot := some o, control := { c with confirmed := o }, failed := failed }
      else { slot := some o, trial := true, failed := failed
             control := { c with trialSlot := o, trialState := 2, slotState := updAt c.slotState o fun _ => 4 } }
    else { control := { c with slotState := updAt c.slotState o fun _ => 5 }, failed := failed ++ [o] }

/-- A trial ends at this start with a code (R638), its slot in a state. -/
def Control.ended (c : Control) (code state : Nat) : Control :=
  { c with trialState := 0, trialSlot := 0xFF, lastResult := code, slotState := updAt c.slotState c.trialSlot fun _ => state }

/-- The issue to run (R629), with the control record read, if any, and the issue numbers of the slots. -/
def selectIssue (rec? : Option Control) (ok : Nat → Bool) (number : Nat → Nat) : Selection :=
  match rec? with
  | none =>
    let best := if ok 1 && (!ok 0 || decide (number 0 < number 1)) then 1 else 0
    let failed := [0, 1].filter fun k => !ok k && decide (number k ≠ 0)
    let states := failed.foldl (fun l k => updAt l k fun _ => 5) ([0, 1].map fun k => if ok k then 2 else 0)
    let c : Control := { slotIssue := [number 0, number 1], slotState := states }
    if ok best then { slot := some best, control := { c with confirmed := best, slotState := updAt states best fun _ => 3 }, failed := failed }
    else { control := c, failed := [0, 1] }
  | some c =>
    let t := c.trialSlot
    let main := if c.confirmed < 2 then c.confirmed else 0
    if c.trialState = 1 then
      if ok t then { slot := some t, trial := true, control := { c with trialState := 2 } }
      else runSlot ok (c.ended 5 5) [t] main
    else if c.trialState = 2 then runSlot ok (c.ended 4 2) [] main
    else runSlot ok c [] main

/-- The newest control record of the Vault. -/
def State.controlRecord (s : State) : Option Control := match s.newest 0 with
  | some (_, r) => match r.content with | .control c => some c | _ => none
  | none => none

/-- The number of the issue in a slot, 0 none. -/
def State.slotNumber (s : State) (k : Nat) : Nat := match s.vrec 6 k with
  | some r => match r.content with | .issue i => i.number | _ => 0
  | none => 0

/-- A sealed spare copy of an issue slot stands in region 9: the slot is read from it where it fails (R624). -/
def State.spareOf (s : State) (region slot : Nat) : Bool := match s.vrec 9 0 with
  | some r => r.valid && decide (r.origin = 16 * region + slot)
  | none => false

/-- The selection of this start. -/
def State.selection (s : State) (verified : List Bool) : Selection :=
  selectIssue s.controlRecord (fun k => verified.getD k false || s.spareOf 6 k) s.slotNumber

/-- The paths whose newest weld entry of the Lockout log is of kind 2 (R625). -/
def State.weldPaths (s : State) : Nat :=
  ((List.range 32).map fun i => (s.vault.lockNext + i) % 32).foldl (fun m k => match s.vrec 3 k with
    | some r => if !r.valid then m else match r.content with
      | .lockout e => if e.kind = 2 then putBit m (e.item % 65536) true else if e.kind = 3 then putBit m (e.item % 65536) false else m
      | _ => m
    | none => m) 0

/-- Settings and safety sets sealed during a trial that has fallen back are discarded (R638): the pinned ones are the newest. -/
def State.discardTrial (s : State) (c : Control) : State :=
  s.modVault fun v => { v with records := v.records.filter fun x => match x.2 with
    | some r => !((decide (x.1 / 64 = 5) && decide (c.pinnedSettings < r.generation))
        || (decide (x.1 / 64 = 2) && decide (c.pinnedSafety < r.generation)))
    | none => true }

/-- Take the issue selected: the control record is sealed anew where it changed, ST.05 names each slot that failed. -/
def State.takeIssue (s : State) (x : Selection) : State :=
  let before := s.controlRecord
  let s := s.modUpd fun u => { u with control := x.control, trial := x.trial, trialFrom := none, sealRestart := none }
  let s := s.when before.isNone fun s => s.raise (src 6 2) (itemRegion 0) 1 (single := true)
  let s := s.forAll x.failed fun k s => s.raise (src 6 5) (item 0 0 k) 2 (single := true)
  let s := s.when (decide (before ≠ some x.control)) fun s => s.queueVault 3
  match x.slot with
  | some k => s.modUpd fun u => { u with
      runningSlot := k
      running := match s.vrec 6 k with | some r => (match r.content with | .issue i => i | _ => u.running) | none => u.running }
  | none => s

/-! ### Parameters (R167, R169, R102) -/

/-- The safety set of the newest valid record, with its generation and thresholds. -/
def State.safetyRecord (s : State) : Option (Nat × Table (Option Int) × List Nat) := match s.newest 2 with
  | some (_, r) => match r.content with | .safety g e v => some (g, e, v) | _ => none
  | none => none

/-- The parameters in force after a start: V values from the newest settings, of a warm start the runtime values kept; R values kept
by a warm start; the safety set from its record; every other value at its default. `keep` is a warm start on the same settings. -/
def State.startParams (s : State) (warm keep : Bool) : State :=
  let settings : Table (Option Int) := match s.settings with | some x => x.values | none => []
  let old := s.par.force
  let stays := fun (e : Nat × Option Int) => match wRow e.1 with
    | some r => (r.kept == 1 && warm && r.acc != .sl) || (r.kept == 2 && keep && r.acc == .rw)
    | none => false
  let fromVault := settings.filter fun e => match wRow e.1 with
    | some r => r.acc != .sl && !(keep && r.acc == .rw)
    | none => false
  let t := (old.filter stays).foldl (fun t e => Table.set t e.1 e.2) []
  let t := fromVault.foldl (fun t e => Table.set t e.1 e.2) t
  let t := match s.safetyRecord with
    | some (_, e, _) => e.foldl (fun t x => Table.set t x.1 x.2) t
    | none => t
  let gen := match s.safetyRecord with | some (g, _, _) => g | none => s.par.setGeneration
  let anchors := match s.newest 5 with
    | some (_, r) => (match r.content with | .settings _ a => a | _ => s.upd.anchors)
    | none => s.upd.anchors
  let s := s.modPar fun p => { force := t, burst := p.burst && keep, setGeneration := gen }
  s.modUpd fun u => { u with anchors := anchors, anchorsWork := anchors }

/-- A sealed set in force (R184 step 3, R427): the values, the Hall scales copied, V_th derived and loaded, the generation. -/
def State.confirmSet (s : State) (l : List (Nat × Int)) : State :=
  let s := s.forAll l fun e s => s.force e.1 e.2
  let (v, m) := s.deriveVth s.val
  let hall := (List.range 8).map fun r => s.f32 (P.railHallScale r)
  let s := s.modSaf fun x => { x with vth := v, vthLimited := m, hallSealed := hall, storeGood := true }
  s.endFault (src 3 1) noItem

/-- SI.03 of each rail (R427): its Hall scale differs from the sealed one, or its V_th is limited. -/
def State.hallChecks (s : State) : State :=
  s.forAll (List.range 8) fun r s =>
    s.condition (src 3 3) (item 3 r) 3 (bitOf s.saf.vthLimited r || decide (s.f32 (P.railHallScale r) ≠ s.saf.hallSealed.getD r 0x42200000#32))

/-! ### What a start keeps (R38 to R40, R102) -/

/-- Sessions close, the queues of the wickets empty; slips go on after a warm start (R102, R145). A cold start has emptied the wickets
before its first slip. -/
def State.startWickets (s : State) (warm : Bool) : State :=
  if warm then
    let s := s.forAll (List.range 4) fun i s => s.closeSession i 4
    s.modWk fun w => { w with deferred := [], writes := [], fabric := [], confirming := none, restarting := none }
  else s

/-- Engine epochs, the core step and the counters of chapter 01 (R25, R33, R102). -/
def State.startArch (s : State) (warm : Bool) : State :=
  let plan := if s.age.planned then s.age.plan.coreStep else 400
  s.modArch fun a => { a with
    engines := (List.range 9).foldl (fun (t : Table Engine) e => if e = 0 then t else
      if warm then t.modify e fun g => { epoch := wrapU 16 (g.epoch + 1), drops := g.drops, discards := g.discards }
      else t.set e {}) a.engines
    coreDiv := if plan = 400 then 5 else if plan = 333 then 6 else 7
    regionGood := 0x3F, guardStopped := false, published0 := 0, published1 := 0, readSweep := 0, fresh0 := false, fresh1 := false
    late0 := if warm then a.late0 else 0, late1 := if warm then a.late1 else 0
    eccCorrected := if warm then a.eccCorrected else 0 }

/-- The retained fields of the packs, rails, loops, trim links and surveys (Kept R and V); the working memory is cleared. -/
def State.startTables (s : State) (warm : Bool) : State :=
  let links := s.links.mapVals fun l => { enumCount := l.enumCount, learnedId0 := l.learnedId0, learnedId1 := l.learnedId1
                                          crcErrors := if warm then l.crcErrors else 0
                                          missedReplies := if warm then l.missedReplies else 0
                                          -- the currents that the shuttles were last known to run, for R257 across the gap (log 196)
                                          mons := if warm then l.mons.mapVals fun m => { applied := m.applied, appliedPrev := m.applied
                                                                                         shuttleCount := m.shuttleCount } else [] : Link }
  let rails := if warm then s.rails.mapVals fun x => {
      restTimer := x.restTimer, restTaken := x.restTaken, direction := x.direction
      -- a count source other than the shunt stays until the shunt has shown transitions for 60 s (R266)
      shuntValid := x.shuntValid, hallValid := x.hallValid, countSource := x.countSource : Rail } else []
  let loops := if warm then s.loops.mapVals fun l => { flags := l.flags, satCount := l.satCount : Loop } else []
  let trims := s.trims.mapVals fun t => { holdCount := t.holdCount, maxTemp := t.maxTemp, runMs := t.runMs
                                          lastFaultTime := t.lastFaultTime, lastFaults := t.lastFaults, faultCount := t.faultCount
                                          fallbackCount := t.fallbackCount, fallbackCause := t.fallbackCause, steerMs := t.steerMs
                                          crcErrors := if warm then t.crcErrors else 0
                                          missed := if warm then t.missed else 0 : Trim }
  let v := s.survey
  let survey : Survey := { number := v.number, lastResult := v.lastResult, lastNumber := v.lastNumber, lastTime := v.lastTime }
  { s with links := links, rails := rails, loops := loops, trims := trims, survey := survey, rows := [], steer := {} }

/-- The rows after a start, before the first publication: the fields kept as they are restored (R186), no position yet. -/
def State.startRows (s : State) : State :=
  let t := s.usedBricks.foldl (fun t b => Table.set t b { s.bricks.get b with heldPos := some (0xFFFF, 0xFFFF) }) []
  { s with rows := t, readRows := t }

/-- Counters of the profile, the section and the pair. -/
def State.startTwin (s : State) (warm : Bool) : State :=
  let t := s.twin
  let kept : Twin := { switchovers := t.switchovers, lastGap := t.lastGap, lastSwitchTime := t.lastSwitchTime, lastSilence := t.lastSilence }
  let twin : Twin := if warm then { kept with
      rulings := t.rulings, refused := t.refused, ruling := t.ruling, rulingPos := t.rulingPos, rulingSeq := t.rulingSeq
      rulingEpoch := t.rulingEpoch, mirrorMissed := t.mirrorMissed, mirrorLate := t.mirrorLate } else kept
  let prof : Profile := if warm then { overwrites := s.prof.overwrites } else {}
  let sec : Sectionm := if warm then { epoch := s.sec.epoch, discards := s.sec.discards, stale := s.sec.stale } else {}
  { s with twin := twin, prof := prof, sec := sec }

/-- The uplinks, the CAN buses, the temperatures and the Guard core's own state. -/
def State.startBuses (s : State) (warm : Bool) : State :=
  let n := s.net
  let net : Net := if warm then { wrongLan := n.wrongLan, discards := n.discards, unmatched := n.unmatched
                                  receipts := n.receipts.mapVals fun r => { drops := r.drops : Receipt } } else {}
  let can := if warm then s.bus.can.mapVals fun c => { txDrops := c.txDrops, busOffCount := c.busOffCount, overwrites := c.overwrites : Can } else []
  let aux := s.bus.aux.mapVals fun a => { losses := a.losses : Aux }
  let therm : Thermal := { shutdownCause := s.therm.shutdownCause }
  let s := { s with net := net, bus := { can := can, aux := aux }, therm := therm }
  s.modSaf fun x => { x with
    coil := 0, keep := 0, pRead := 0, chopping := 0, close := none, opening := none, pulse := none, permit := none
    disagree := [], guardIn := [], sf4Guard := 0, rowOut := [], leftOpen := 0, pairOffset := 0, deferred := false
    pulseAborts := if warm then x.pulseAborts else 0, pulseCount := if warm then x.pulseCount else 0 }

/-- The program's data (R562); `region` is the retained data region kept. -/
def State.startProgramData (s : State) (warm region : Bool) : State :=
  let p := s.prg
  let was := decide (p.state ≠ 0)
  let cold := !warm || !region
  let initial := match s.upd.present with | some i => i.retained | none => []
  let prg : Program := {
    retained := if cold then initial else p.retained, exchanges := p.exchanges
    overruns := if warm then p.overruns else 0, canRefused := if warm then p.canRefused else 0
    stopCause := if warm then p.stopCause else 0xFF, period := s.nat P.prgCycle
    autoStart := if was && s.flag P.prgAutoStart then (if cold then 2 else 1) else 0 }
  ({ s with prg := prg }).clearBreakpoints

/-- The Treasury and the margin plan (R102, R610, R612). -/
def State.startTreasury (s : State) (warm : Bool) : State :=
  let t := s.trs
  -- the power state is not kept: the first sweep boundary sets it; the history of the meters is (R599, R102; log 165)
  let trs : Treasury := { holdupEvents := t.holdupEvents, shared := if warm then t.shared else 0
                          engines := if warm then t.engines.mapVals fun b => { classes := b.classes } else []
                          deferrals := if warm then t.deferrals else 0, refusals := if warm then t.refusals else 0 }
  let plan := match s.newest 1 with
    | some (_, r) => (match r.content with | .plan p => some p | _ => none)
    | none => none
  let s := { s with trs := trs }
  s.modAge fun a => { a with
    plan := plan.getD {}, planned := plan.isSome, apply := false, bankTest := false, running := none, waiting := 0
    guard := (plan.getD {}).dieGuard, refreshDays := (plan.getD {}).refreshDays, writeMax := plan.map (·.holdupWriteMax)
    trigger := if plan.isSome then a.trigger else 1 }

/-- The Ledger's live values from the newest sealed generation (R590); `lost` are the records whose CRC-32 fails in it. -/
def State.startLedger (s : State) (lost : List (Nat × Bool)) : State :=
  let gen := fun (o : Option VaultRec) => match o with
    | some r => (match r.content with | .ledger g => some g | _ => none)
    | none => none
  let newest := gen ((s.newest 8).map (·.2))
  let other := match s.newest 8 with
    | some (k, _) => (match s.vrec 8 (1 - k) with | some r => if r.valid then gen (some r) else none | none => none)
    | none => none
  let now := s.sec32
  let s := s.modRecs fun r => match newest with
    | some g => { r with live := g.records, since := g.since, gap := true, restored := 0, due := none, pending := false, adds := [], exts := [] }
    | none => { r with live := [], since := now, gap := false, restored := 0, due := none, pending := false, adds := [], exts := [] }
  let s := if newest.isNone then s
    else s.forAll lost fun x s =>
      let s := s.modRecs fun r => match (if x.2 then other else none) with
        | some g => { r with live := r.live.set x.1 { g.records.get x.1 with restored := true }, restored := r.restored + 1 }
        | none => { r with live := r.live.set x.1 { since := now } }
      s.raise (src 6 7) (itemRegion 8) 1 (single := true)
  s.modRecs fun r => { r with liveAt := r.live }

/-! ### Charge across a start (R288 to R291, R296) -/

/-- Learned values from the newest sealed generation (R296); `lost` are the bricks whose record fails in it. -/
def State.loadLearned (s : State) (lost : List (Nat × Bool)) : State :=
  let gen := fun (o : Option VaultRec) => match o with
    | some r => (match r.content with | .learned g => some g | _ => none)
    | none => none
  match s.newest 4 with
  | none => ({ s with bricks := [] }).forAll s.usedBricks fun b s => s.commission b
  | some (k, r) =>
    match gen (some r) with
    | none => s
    | some g =>
      let s := { s with bricks := g.bricks }
      let s := { s with links := (List.range 128).foldl (fun t n => t.modify n fun l => { l with learnedId0 := 0, learnedId1 := 0 }) s.links }
      let s := s.forAll g.ids fun x s => s.modLink x.1 fun l => { l with learnedId0 := x.2.1, learnedId1 := x.2.2 }
      let s := s.modEst fun e => { e with learnedGen := g.number }
      s.forAll lost fun x s =>
        match (if x.2 then gen (s.vrec 4 (1 - k)) else none) with
        | some h =>
          let b := h.bricks.get x.1
          { s with bricks := s.bricks.set x.1 { b with flags := putBit b.flags 3 true } }
        | none => ((({ s with bricks := s.bricks.set x.1 default }).commission x.1)).raise (src 0 16) (itemBrick x.1) 1 (single := true)

/-- The rails of the variant in use. -/
def State.usedRails (s : State) : List Nat := (List.range 8).filter s.railUsed

/-- A gap that nothing counted (R290): a cold start, or a region without its checkpoint. -/
def State.coldGap (s : State) : State := s.forAll s.usedRails fun r s => s.gapMark r 1 true

/-- A gap since a checkpoint, to be booked once the module counts (R290): the rail charge of the module or of one Tally core, and with
the first reply of each monitor its shuttle charge. -/
def State.openGap (s : State) (c : Checkpoint) (core : Option Nat) : State :=
  let s := s.modEst fun e => { e with
    gapFrom := some c.time, gapCore := core, gapTo := if core.isSome then s.time.ns else 0, gapAsked := false
    gapRails := c.rails.map fun x => (x.1, x.2.2.2, if core.isSome then (s.rails.get x.1).chargeTotal else 0) }
  s.forAll (s.usedLinks.filter fun n => core.isNone || decide (core = some (n % 2))) fun n s =>
    s.forAll (List.range (s.monCount n)) fun p s => s.modMon n p fun m => { m with gapSince := some c.time }

/-- The newest valid checkpoints of both cores, brought into the balances; the gap since then waits to be booked (R290). -/
def State.restoreChecks (s : State) (books : Bool) : State :=
  let l := [0, 1].filterMap s.newestCheck
  let s := s.forAll l fun c s => s.restoreCheck c
  match l with
  | [] => s
  | c :: _ =>
    let s := s.forAll c.rails fun x s => s.modRail x.1 fun y => { y with carry := x.2.2.1 }
    s.when books fun s => s.openGap c none

/-- Night Safe's count booked at a wake, with the rest rules (R116, R291). -/
def State.bookNight (s : State) : State :=
  let asleep := (s.night.wokeAt - s.night.tookAt) / 1000000000
  s.forAll s.usedRails fun r s =>
    let n := s.night.rails.get r
    let q := n.charge * 1000
    let s := s.bookRail r q fun _ => true
    let s := s.when (decide (n.gap ≠ 0)) fun s => s.breakPath r true
    let s := s.forAll (s.bricksOf r) fun b s => s.modBrick b fun x =>
      if s.nat P.estGapLimit * x.cap.toNat < q.natAbs * 10000 then { x with flags := putBit x.flags 3 true } else x
    if decide (n.gap = 0) && s.restBelow r (n.peak : Rat) then
      let s := s.modRail r fun x => { x with restTimer := satU 16 (x.restTimer + asleep) }
      if s.nat P.estRestTime * 60 ≤ (s.rails.get r).restTimer then
        s.modRail r fun x => { x with restHold := true, wakeRest := 1000, wakeWait := 10000 }
      else s
    else s

/-- Balances and learned values of a start (R102, R288 to R296); `good` are the retained regions that passed. -/
def State.startCharge (s : State) (kind : StartKind) (good : Nat) (lost : List (Nat × Bool)) : State :=
  let warm := kind == .warmRestart || kind == .wake
  let checks := warm && bitOf good 1
  let staging := warm && bitOf good 2
  let est : Estimate := { learnedGen := s.est.learnedGen, check0 := if checks then s.est.check0 else [], check1 := if checks then s.est.check1 else [] }
  let s := { s with est := est }
  let s := if staging then { s with bricks := s.bricks.mapVals Brick.learned } else s.loadLearned lost
  if checks && !s.est.check0.isEmpty && !s.est.check1.isEmpty then
    let s := s.restoreChecks (kind == .warmRestart)
    s.when (kind == .wake) State.bookNight
  else
    -- no checkpoint: the balances are those of the last sealed generation (R40, R102)
    let q := match s.newest 4 with
      | some (_, r) => (match r.content with | .learned g => g.bricks | _ => [])
      | none => []
    let s := s.when staging fun s => s.forAll s.usedBricks fun b s => s.modBrick b fun x => { x with q := (q.get b).q }
    let s := s.coldGap
    s.when (kind == .wake) State.bookNight

/-! ### The time base (R510) -/

/-- The newest native time in the headers of sealed generations, ns. -/
def State.vaultTime (s : State) : Option Nat :=
  s.vault.records.foldl (fun m x => match x.2 with
    | some r => if !r.valid then m else match r.content with
      | .learned g => some (max (m.getD 0) g.time)
      | .ledger g => some (max (m.getD 0) g.stamp)
      | _ => m
    | none => m) none

/-- The time base at a start: Night Safe's count, which has run on with it, or the time that the Vault shows. -/
def State.startTime (s : State) : State :=
  let t := s.time
  let known := s.night.timeValid && !s.night.lost
  let base := if known then t.ns else (match s.vaultTime with | some v => v | none => s.ident.made * 1000000000) + 1000000000
  let time : TimeBase := { ns := base, lastTick := base, lastEpoch := base, tcxo := t.tcxo, steps := t.steps, utcOffset := t.utcOffset
                           state := if known && (decide (t.state = 1) || decide (t.state = 2)) then 2 else 0 }
  let s := { s with time := time }
  s.modNight fun n => { n with inCharge := false, heldWake := none, lost := false }

/-! ### The start itself (R96, R100 to R104) -/

/-- Links enter state 1, and the hop check begins where this module transmits (R203, R216, R217). -/
def State.startLinks (s : State) : State :=
  s.forAll s.usedLinks fun n s =>
    let s := s.modLink n fun l => { l with state := 1, originZero := s.time.ns, lastFrame := s.time.ns }
    if s.sends n then s.beginHopCheck n else s

/-- What the module does once as it leaves M1: with one module on the carrier it takes the active role (R470), a shutdown condition
found in M1 is raised (R403), and the active module starts the auxiliary nodes (R539). -/
def State.leaveBoot (s : State) : State :=
  let s := s.when (!s.flag P.twinPaired && !s.active && !s.modes.strapConflict) State.takeRole
  let s := match s.therm.bootShutdown with
    | some (source, item) => (s.modTherm fun t => { t with bootShutdown := none }).raise source item 5
    | none => s
  s.when s.active State.startNodes

/-- The module leaves M1 for the mode that its start, or a strap conflict since, has found (R93): not before the bank is at 44 V (R68),
nor with a strap fault (R63). On a failed self-test the whole entry to M7 is made (R119). -/
def State.leaveM1 (s : State) : State :=
  if s.modes.mode ≠ .m1 ∨ s.power.bankMilliVolt < 44000 ∨ !s.power.straps.faults.isEmpty ∨ s.modes.restartPending.isSome then s
  else
    let out := s.modModes fun m => { m with bootExit := none }
    match s.modes.bootExit with
    | some .m2 =>
      ((out.modModes fun m => { m with mode := .m2 }).slip 0x0002 [(1, 1), (1, 2), (2, 0)]).modControl fun c => { c with
        recovery := s.upd.recoveryCause }
    | some .m7 =>
      let out := out.leaveBoot
      let failed := match s.instOf (src 3 2) noItem with | some i => i.cond | none => false
      if failed then out.lockout (src 3 2) noItem else out.setMode .m7 s.modes.lockoutCause
    | some .m3 =>
      let out := (out.setMode .m3 (if s.modes.strapConflict then src 7 4 else 0)).leaveBoot
      out.when s.upd.trial fun t => t.modUpd fun u => { u with trialFrom := some s.time.ns }
    | _ => s

/-- Faults at a start: the list and latches of a warm one stay, those of a cold one go (R462); each weld finding kept in the Vault is
raised again (R438); PR.02, PR.03 and PR.04 as the restart has them to record (R24, R28, R37, R649). -/
def State.startFaults (s : State) (warm : Bool) (sources : List Nat) : State :=
  let s := if warm then s else { s with flt := {} }
  let s := s.modSaf fun x => { x with weldKept := s.weldPaths }
  let s := s.forAll (maskIdx 20 s.saf.weldKept) fun p s => s.raise (src 3 50) (itemPath p) 4
  s.forAll sources fun c s =>
    s.raise c (if c = src 5 2 then itemEngine s.modes.restartEngine else noItem) 4 (single := true) (atStart := true)

/-- The regions of retained SRAM that failed (R40): ST.01, and the Daybook cleared with its own. -/
def State.startRegions (s : State) (warm : Bool) (good : Nat) : State :=
  let s := if warm && bitOf good 0 then s else s.modRecs fun r => { r with day := [], next := 0, raises := [] }
  s

/-- The length of the run of stable steps from step `i` of the ten, around the clock period. -/
def stableRun (l : List Bool) (i : Nat) : Nat := ((List.range 10).takeWhile fun j => l.getD ((i + j) % 10) false).length

/-- The sample point of a modulator (R81), 0.1 ns: the middle of the longest stretch of 5 ns steps without transitions, the earliest
of several (log 181); none where it is shorter than 10 ns. -/
def samplePoint (l : List Bool) : Option Nat :=
  let best := (List.range 10).foldl (fun b i => if stableRun l b < stableRun l i then i else b) 0
  let n := stableRun l best
  if n < 2 then none else some ((50 * best + 25 * (n - 1)) % 500)

/-- The sample points of M1 (R81); a channel without one is failed, and a rail whose shunt channel has failed counts from its Hall
input (R266). -/
def State.locateMods (s : State) (mods : List (List Bool)) : State :=
  s.forAll (List.range 18) fun m s =>
    let at? := samplePoint (mods.getD m [])
    let s := s.modArch fun a => { a with 
      samplePoints := a.samplePoints.set m (at?.getD 0), modFailed := putBit a.modFailed m at?.isNone }
    let s := s.condition (src 0 23) (item 12 m) 2 at?.isNone
    if 8 ≤ m ∨ (at?.isSome ∧ (s.rails.get m).shuntValid) then s
    else if s.railUsed m then
      let hall := (s.rails.get m).hallValid
      (s.countFrom m false hall).when (!hall) fun s => s.enterFallback m (src 0 14)
    else s.modRail m fun x => { x with shuntValid := false }

/-- Self-tests and the checks that fall in M1 (R67, R70, R81, R96, R462): the Strongroom store, the modulator sample points, the supply
inputs, the straps. -/
def State.startTests (s : State) (x : StartInputs) : State :=
  let s := s.condition (src 3 1) noItem 3 (!x.store)
  let s := s.modSaf fun y => { y with storeGood := x.store }
  let s := s.locateMods x.mods
  let s := s.when s.power.onBank fun s => s.raise (src 4 2) noItem 4
  -- one supply input failed while the other is present (R67)
  let s := s.condition (src 4 1) (itemContact 1) 1 (!s.power.supA && s.power.supB)
  let s := s.condition (src 4 1) (itemContact 3) 1 (!s.power.supB && s.power.supA)
  let bad := x.straps.faults
  s.forAll (strapPins x.straps) fun p s => s.condition (src 7 2) p.1 4 (bad.contains p.1)

/-- The mode that a start finds it has to leave M1 for (R93): M7 on a latch or a failed self-test, M3 for settings that are missing,
invalid or marked; else none, and the module stays in M1 for its Boot steps. A strap fault keeps it in M1 (R63). -/
def State.startMode (s : State) (x : StartInputs) : State :=
  if !x.straps.faults.isEmpty then s
  else if s.modes.latchStrong || s.modes.latchNight || !x.selfTest then
    let s := s.modModes fun m => { m with latchStrong := true, latchNight := true, bootExit := some .m7 }
    if x.selfTest then s.endFault (src 3 2) noItem else s.raise (src 3 2) noItem 5
  else s.when (s.settings.isNone || s.validate.isSome || s.par.markCommission) fun s =>
    s.modModes fun m => { m with bootExit := some .m3 }

/-- A start of the main domain. `checked` is a start at which the regions of retained SRAM were held against their CRC-32s (R40). -/
def State.start (s : State) (kind : StartKind) (x : StartInputs) (checked : Bool) : State :=
  let good := ofIdx ((List.range 6).filter fun r => bitOf s.arch.regionGood r && !bitOf x.bad r)
  let warm := kind == .warmRestart || kind == .wake
  let cause := s.modes.restartCause
  let sources := s.modes.restartSources
  -- the button is sampled as the main domain powers up (R88)
  let button := x.button && s.power.poweringUp
  let old := s.modes.mode.num
  let failed := s.upd.trialEnded
  -- records are read before anything is loaded from them
  let s := s.modPower fun p => { p with
    mainUp := true, mainHeld := false, synthLocked := true, fabricClockGood := true, straps := x.straps
    onBank := !p.supA && !p.supB, cutOff := false, poweringUp := false }
  let s := (s.startRegions warm good).startTime
  let sel := s.selection x.verified
  let recovery := x.straps.faults.isEmpty && (button || sel.slot.isNone)
  let ended := failed.or (match s.controlRecord with
    | some c => if c.trialState ≠ 0 ∧ sel.control.trialState = 0 then
        some (sel.control.lastResult, c.slotIssue.getD c.trialSlot 0) else none
    | none => none)
  let cause := if ended.isSome then 0 else cause
  let number := match kind with | .coldPowerUp => 0 | .coldRestart => 1 | .warmRestart => 2 | .wake => 3
  let s := s.modModes fun m => { m with
    mode := .m1, bootExit := if recovery then some .m2 else none, restartSources := [], previous := if warm then (if kind == .wake then 0 else old) else 1
    startKind := kind, startedAt := s.time.ns, startCount := satU 32 (m.startCount + 1)
    lockoutPending := none, bootFailed := 0, settle := 0, settleMissed := 0, settled := false, sweeping := false
    strapConflict := false, restartPending := none, restartCause := 0, firstSlipDue := false, dormantEntry := false
    dormantSweeps := 0, dormantSealed := false, dormantChecked := false, holdCause := false
    housekeeping := m.housekeeping && kind == .wake }
  let s := if warm then s else { s with wk := {}, flt := {} }
  -- the first slip and the first entry of the start (R103)
  let s := (s.slip 0x0001 [(1, number), (2, cause)]).day 0x0001 (number + 65536 * cause)
  let s := s.when s.modes.latchCleared fun s =>
    (s.slip 0x0009 [(2, s.modes.lockoutCause)]).modModes fun m => { m with latchCleared := false }
  let s := s.when ended.isSome fun s => match ended with
    | some (code, issue) => s.day 0x004F (code + 65536 * issue)
    | none => s
  let s := (s.endLease 3).modVault fun v => { v with
    queued := 0, writing := none, yielded := none, lockouts := [], refused := 0, refreshLeft := []
    refusals := if warm then v.refusals else 0, abandoned := if warm then v.abandoned else 0 }
  let s := s.failRecords x.badRecords
  let back := match ended with | some (c, _) => decide (2 ≤ c) && decide (c ≤ 5) | none => false
  let pins := s.upd.control
  let s := (s.when back fun s => s.discardTrial (match s.controlRecord with | some c => c | none => pins)).takeIssue sel
  let s := s.modUpd fun u => { u with
    trialEnded := none, partnerStage := 0, partnerTrial := false, partnerIssue := 0, chunks := [], received := 0, broken := false
    control := if back then { u.control with pinnedSettings := 0, pinnedSafety := 0 } else u.control }
  let waiting := s.par.confirmedSet
  let s := s.startParams warm (warm && !back)
  -- a trial issue of another dictionary level converts the settings and seals them anew (R637)
  let s := s.when (s.upd.trial && (s.settings.any fun (x : Settings) => decide (x.level ≠ s.upd.running.dictLevel))) fun s => s.queueVault 4
  let s := match waiting with
    | some l => s.confirmSet l
    | none => s
  let s := (s.startTreasury warm).startArch warm
  let s := ((s.startWickets warm).startTables warm).startTwin warm
  let s := ((s.startBuses warm).startProgramData warm (bitOf good 3)).startLedger x.lostLedger
  -- the time in M0 goes into the module record at the wake (R586)
  let s := s.when (kind == .wake) fun s =>
    let n := (s.night.wokeAt - s.night.tookAt) / 1000000000
    (s.ledAdd (ledKey 3 0) 76 n).ledAdd (ledKey 3 0) 120 n
  let s := s.startFaults warm sources
  let s := s.when checked fun s => s.forAll ((List.range 6).filter fun r => !bitOf good r) fun r s =>
    s.raise (src 6 1) (itemRegion r) 1 (single := true)
  let s := (s.startCharge kind good x.lostBricks).startRows
  let s := if warm then s else s.modNight fun n => { n with lastWake := 0, dormantSeconds := 0 }
  if recovery then (s.modUpd fun u => { u with recoveryCause := if sel.slot.isNone then 2 else 1 }).leaveM1
  else
    -- the first start of the main issue after an M2 writes its entry (R642)
    let c := s.upd.control
    let s := s.when (decide (c.recovery ≠ 0)) fun s =>
      let got := if c.trialState ≠ 0 then c.slotIssue.getD c.trialSlot 0 else if c.lastResult = 6 then c.slotIssue.getD c.confirmed 0 else 0
      (s.day 0x0050 (c.recovery + 65536 * got)).modControl fun c => { c with recovery := 0 }
    let s := s.modPar fun p => { p with markCommission := s.upd.trial }
    ((s.startTests x).startMode x).startLinks.leaveM1

/-- A start whose control region of retained SRAM has failed is cold (R100); the failed check is recorded as every other (R40). -/
def State.startAs (s : State) (x : StartInputs) (warm cold : StartKind) (checked : Bool) : State :=
  s.start (if bitOf s.arch.regionGood 4 && !bitOf x.bad 4 then warm else cold) x checked

/-- `MAIN_POWER_GOOD` (R93, R100): a supply input is good with no main domain running. Which one, where neither is known to be good,
is a free choice. -/
def execMainPowerGood (x : StartInputs) (s : State) : Host.Outcome State Fault Refusal :=
  run (fun s =>
    let first := decide (s.modes.mode = .m1) && s.modes.firstSlipDue && s.modes.restartPending.isNone && !s.power.mainHeld
    if s.night.inCharge || (s.power.mainUp && !first) then s
    else
      let pick := decide (s.free 1 = 1)
      let known := s.power.supA || s.power.supB
      let s := if known then s else
        (s.modPower fun p => if pick then { p with supB := true } else { p with supA := true }).nextFree
      let s := (s.modModes fun m => { m with restartCause := 0 }).modPower fun p => { p with poweringUp := true }
      -- with all supplies off before, nothing was retained and there is nothing to check: a cold power-up (R100)
      let kept := decide (s.arch.regionGood ≠ 0)
      s.startAs x .warmRestart (if kept then .coldRestart else .coldPowerUp) kept) s

/-- `WARM_RESTART` (R101, R102): the warm start that a restart or a wake calls for. -/
def execWarmRestart (x : StartInputs) (s : State) : Host.Outcome State Fault Refusal :=
  run (fun s =>
    if s.modes.restartPending ≠ some true ∨ !s.power.mainUp ∨ !s.power.synthLocked ∨ !s.power.fabricClockGood then s
    else
      let s := if s.power.mainHeld then s else s.beginRestart true s.modes.restartCause
      s.startAs x (if s.modes.startKind == .wake then .wake else .warmRestart) .coldRestart true) s

/-- `COLD_RESTART` (R101, R102). -/
def execColdRestart (x : StartInputs) (s : State) : Host.Outcome State Fault Refusal :=
  run (fun s =>
    if s.modes.restartPending ≠ some false ∨ !s.power.mainUp ∨ !s.power.synthLocked ∨ !s.power.fabricClockGood then s
    else
      let s := if s.power.mainHeld then s else s.beginRestart false s.modes.restartCause
      s.start .coldRestart x false) s

/-! ### Boot steps (R96 to R99) -/

/-- The module enters M4 from M1. -/
def State.enterRun (s : State) (cause : Nat) : State :=
  let s := (s.setMode .m4 cause).modModes fun m => { m with bootFails := 0 }
  -- every Boot step has been found complete (R462)
  let s := s.forAll (List.range 11) fun i s => s.endFault (src 5 5) (item 0 0 (i + 1))
  let s := s.leaveBoot
  -- a close of books that fell in M0 or in the restart is made up for (R118, R589)
  let s := s.when s.recs.dayTaken State.closeBooks
  if s.modes.housekeeping then
    -- the work of a housekeeping stay (R118)
    let s := s.writeBack
    let s := s.forAll (s.usedLinks.filter s.testsLines) fun n s => s.modLink n fun l => { l with owLines := List.range 13 }
    let s := s.modSec fun x => { x with seqStatement := wrapU 16 (x.seqStatement + 1) }
    s.sendSection 3 s.sec.seqStatement s.statementBody
  else s

/-- Boot steps 1 to 9 hold, and step 10 has come to an end on every assigned link (R96, R98). -/
def State.booted (s : State) : Bool :=
  decide (s.modes.mode = .m1) && s.modes.bootExit.isNone && decide (s.modes.bootFailed = 0) && s.power.straps.faults.isEmpty && s.power.mainUp && !s.power.mainHeld
    && s.power.synthLocked && s.saf.storeGood && s.settings.isSome && decide (44000 ≤ s.power.bankMilliVolt) && s.passDone
    && s.modes.restartPending.isNone

/-- `BOOT_COMPLETE` (R96): every Boot step is complete. -/
def execBootComplete (s : State) : Host.Outcome State Fault Refusal :=
  run (fun s => if s.booted && s.modes.settled then s.enterRun 0 else s) s

/-- `BOOT_STEP_FAILED` (R99): Boot step `n` has failed; steps 3 and the self-test of 4 have their own ends. -/
def execBootStepFailed (n : Nat) (s : State) : Host.Outcome State Fault Refusal :=
  if n = 0 ∨ 11 < n then .fault .illFormed
  else run (fun s =>
    if s.modes.mode ≠ .m1 ∨ n = 3 ∨ s.modes.bootFailed ≠ 0 ∨ s.power.mainHeld then s
    else
      let s := s.modModes fun m => { m with bootFailed := n, bootFails := m.bootFails + 1 }
      s.raise (src 5 5) (item 0 0 n) 4) s

/-- `BOOT_RETRY_TIMER` (R99): 60 s after the failure, a warm restart, unless `MODE.BOOT_RETRIES` failed starts have passed. -/
def execBootRetryTimer (s : State) : Host.Outcome State Fault Refusal :=
  run (fun s =>
    if s.modes.mode ≠ .m1 ∨ s.modes.bootFailed = 0 then s
    else if s.nat P.modeBootRetries ≤ s.modes.bootFails then s
    else s.beginRestart true 0) s

/-- The condition of LK.04 ends on every link (R97, R461). -/
def State.endSettleFaults (s : State) : State :=
  (s.forAll (List.range 128) fun n s => s.endFault (src 1 4) (itemLink n)).endFault (src 1 4) noItem

/-- `SETTLE_COUNT_COMPLETE` (R97). -/
def execSettleCountComplete (s : State) : Host.Outcome State Fault Refusal :=
  run (fun s =>
    if s.modes.sweeping && decide (s.nat P.modeSettleSweeps ≤ s.modes.settle) then
      (s.modModes fun m => { m with settled := true }).endSettleFaults
    else s) s

/-- `SETTLE_TIMEOUT` (R97): 30 s after the first sweep the module enters M4, with LK.04 for each link that missed a reply since the
first sweep, and for none by name where only the time was short (log 166). -/
def execSettleTimeout (s : State) : Host.Outcome State Fault Refusal :=
  run (fun s =>
    if !s.modes.sweeping ∨ s.modes.settled then s
    else
      let s := s.modModes fun m => { m with settled := true }
      let late := s.usedLinks.filter fun n => bitOf s.modes.settleMissed n
      let s := if late.isEmpty then s.raise (src 1 4) noItem 2 else s.forAll late fun n s => s.raise (src 1 4) (itemLink n) 2
      if s.booted then s.enterRun 0 else s) s

/-! ### The return of an engine (R26, R143, R289) -/

/-- The rail charge and the shuttle charge since a checkpoint of a Tally core, from the modulator history where it reaches back, else by
the partner's totals or an estimate (R289, R290). -/
def State.recoverCore (s : State) (core : Nat) : State :=
  let mine := fun (c : Nat) => decide (c = core)
  match s.newestCheck core with
  | none => s.forAll s.usedRails fun r s => s.gapMark r 1 true
  | some c =>
    let s := s.restoreCheck c
    let span := (s.time.sweep + 2 ^ 32 - c.sweep) % 2 ^ 32
    let l := (s.est.history.filter fun h => decide ((h.1 + 2 ^ 32 - c.sweep) % 2 ^ 32 ≤ span) && decide (h.1 ≠ c.sweep)).reverse
    let s := if span ≤ 10000 then
        -- the totals of the rails have gone on: only the bricks of the core are booked
        s.forAll s.usedRails fun r s =>
          let q := l.foldl (fun a h => a + h.2.getD r 0) 0
          s.forAll ((s.bricksOf r).filter fun b => mine (b / 24 % 2)) fun b s =>
            (s.modBrick b fun x => { x with q := x.q + q }).when s.accrues fun s => s.ledCharge (ledKey 1 b) 100 q
      else if s.est.gapFrom.isNone then s.openGap c (some core)
      -- another gap waits to be booked: this one is estimated at once
      else s.forAll c.rails fun x s =>
        s.bookEstimate x.1 ((s.time.ns - c.time) / 1000000) x.2.2.2 (s.rails.get x.1).current (some core)
    let s := s.when (decide (span ≤ 10000)) fun s => s.bookCounters c
    s.forAll ((s.usedBricks).filter fun b => mine (b / 24 % 2)) fun b s =>
      let i := match s.railOf (b / 24) with | some r => (s.rails.get r).current | none => 0
      -- i_f in pA
      s.modBrick b fun x => { x with iF := i * 1000000000, hist := [], emptyRun := 0 }

/-- The messages that waited for an engine are delivered in arrival order (R26, R143); those that expect another epoch of it are discarded
and counted (R25), and a request so discarded is aborted (log 185). -/
def State.deliver (s : State) (e : Nat) (frames : List FabricMsg) : State :=
  let now := (s.arch.engines.get e).epoch
  let mine := s.wk.fabric.filter fun d => decide (d.engine = e)
  let lost := mine.filter fun d => decide (d.expected ≠ now)
  let old := frames.filter fun m => decide (m.expected ≠ now)
  let s := s.modArch fun a => { a with engines := a.engines.modify e fun g =>
    { g with discards := satU 32 (g.discards + lost.length + old.length) } }
  let s := s.modWk fun w => { w with
    fabric := w.fabric.filter fun d => decide (d.engine ≠ e), aborted := satU 32 (w.aborted + lost.length) }
  let s := s.forAll (frames.filter fun m => decide (m.expected = now)) fun m s => s.takeBuffered m
  let s := s.forAll lost fun d s => s.complete d.frame d.cmd (refusal 0x06 e now 0)
  s.forAll (mine.filter fun d => decide (d.expected = now)) fun d s => s.serveWaiting d

/-- `ENGINE_RESET_RETURN` (R26, R143, R289): the engine runs again, its buffered messages are delivered and the requests that waited
for it are served; a Tally core first recovers its balances. -/
def execEngineResetReturn (e : Nat) (s : State) : Host.Outcome State Fault Refusal :=
  if e = 0 ∨ 8 < e then .fault .illFormed
  else run (fun s =>
    if !(s.arch.engines.get e).inReset ∨ s.power.mainHeld then s
    else
      let kept := (s.arch.engines.get e).buffer
      let s := s.modArch fun a => { a with engines := a.engines.modify e fun g => { g with inReset := false, buffer := [] } }
      let s := if e = 3 then (s.recoverCore 0).modArch fun a => { a with fresh0 := true }
        else if e = 4 then (s.recoverCore 1).modArch fun a => { a with fresh1 := true }
        else s
      -- monitors that have had no frame for 2 s sleep, and their links are woken and identified again (R224, R226)
      let s := s.when (decide (e = 2)) fun s => s.forAll s.usedLinks fun n s =>
        let l := s.links.get n
        if l.lastFrame + 2000000000 ≤ s.time.ns ∧ l.state ≠ 4 then s.modLink n fun l => { l with state := 5 }
        else if 1 ≤ l.state ∧ l.state ≤ 3 then
          -- SAMPLE comes back at the next boundary with the timing that the monitors hold; the hop checks that follow are one pass
          let s := s.modLink n fun l => { l with winAt := 10000, identified := !s.sends n && decide (l.state ≠ 1) }
          if s.sends n then s.beginHopCheck n else s
        else s
      s.deliver e kept) s

end Sys2Proof.Machine
end

