-- ==== Sys2Proof/Machine/Sweep.lean ====
section
/-! DEFINITION. A sweep epoch (R42): the end of the cycle before it, the sweep boundary, and the start of the new cycle. -/

namespace Sys2Proof.Machine

open Sys2Proof

/-! ### The end of a cycle (R42: +900 us to +970 us) -/

/-- The alarm tone of each link whose Tally core has not published in the cycle is judged at its end (R422, R423). -/
def State.lateTones (s : State) : State :=
  if s.arch.guardStopped || (s.arch.engines.get 8).inReset then s
  else s.forAll (s.usedLinks.filter fun n => !s.fresh (n % 2)) fun n s => s.toneDemand n

/-- The Guard core decides what the program has placed in the cycle, a STOP first (R446, R567). -/
def State.guardRequests (s : State) : State :=
  let order := [1, 0] ++ (List.range 8).map (· + 8) ++ (List.range 8).map (· + 16)
  (s.forAll (order.filter s.prg.guardPlaced.contains) fun b s => s.decideGuard b).modPrg fun p => { p with stopSeen := false }

/-- The settle count of R97, with the links that missed a reply; one that its time limit has ended runs on until it is complete. -/
def State.settleStep (s : State) : State :=
  if !s.modes.sweeping || (s.modes.settled && decide (s.nat P.modeSettleSweeps ≤ s.modes.settle)) then s
  else
    let missed := s.missedLinks
    s.modModes fun m => { m with
      settle := if missed.isEmpty then m.settle + 1 else 0, settleMissed := m.settleMissed ||| ofIdx missed }

/-- The charge of a gap is booked once the module counts again (R290): by the partner's totals, asked for at the first 100 ms
boundary after the gap, or by estimate where no partner counts. -/
def State.gapStep (s : State) : State :=
  match s.est.gapFrom with
  | none => s
  | some t =>
    let counts := s.twinUp && decide (s.twinState = 2)
    let mark := (s.est.gapRails.filterMap fun x => s.gapEnd x.1).head?
    let estimate := fun (s : State) => s.forAll s.est.gapRails fun x s => s.totalsIn x.1 none
    if s.est.gapRails.isEmpty then s.modEst fun e => { e with gapFrom := none, gapAsked := false }
    else if s.est.gapAsked then (if counts then s else estimate s)
    else if s.est.history.length < 2 then s
    else if !s.paired then estimate s
    else match mark with
      | none => s
      | some (b, _) =>
        if counts then
          (s.forAll s.est.gapRails fun x s => s.emit (.twin 3 false [x.1, (t + 50000000) / 100000000, b])).modEst fun e => { e with gapAsked := true }
        else estimate s

/-- Means and windows of one second of sweeps (R282, R304). -/
def State.seconds (s : State) : State :=
  let i := s.stringCurrent
  let s := (s.modSec fun x => { x with curSum := x.curSum + i }).modSurvey fun v => { v with meanSum := v.meanSum + i }
  let s := s.secondStep
  if s.est.msInSecond ≠ 0 then s
  else s.loopSecond.modSurvey fun v => { v with means := (divNear v.meanSum 1000 :: v.means).take 10, meanSum := 0 }

/-- What the module does between the rows of a cycle and its end (R42), for the cycle that ends now. -/
def State.endCycle (s : State) (isu : List Int) : State :=
  let s := ((s.bookCycle.countSilence).missedReplies).lateTones
  let s := s.settleStep.gapStep
  let s := (s.seconds.surveySweep isu).guardRequests
  let s := s.when (s.p2Runs 1) State.figures
  (s.profileCycle.shareStep.ledExtremes).mirrorSend

/-! ### The sweep boundary -/

/-- What the module measures at the epoch: rail and bus voltages, read-backs, supply monitors. -/
def State.measureIn (s : State) (x : SweepInputs) : State :=
  let s := s.forAll ((List.range 8).filter s.railUsed) fun r s => s.modRail r fun y => { y with voltage := x.rails.getD r y.voltage }
  let s := s.modSec fun y => { y with
    bus0 := if bitOf s.arch.modFailed 16 then none else x.bus0, bus1 := if bitOf s.arch.modFailed 17 then none else x.bus1 }
  let s := s.modSaf fun y => { y with
    pRead := ofIdx ((List.range 20).filter fun p => pReadsOn (x.pDrop.getD p 24000))
    hRead := ofIdx ((List.range 20).filter fun p =>
      let v := x.hVolt.getD p 24000
      hReadsClosed v || (!hReadsOpen v && bitOf y.hRead p)) }
  let s := s.forAll (List.range (min 12 x.monitors.length)) fun m s => s.modTrs fun t => { t with
    monitors := t.monitors.modify m fun y => { y with value := x.monitors.getD m y.value } }
  s.modPower fun p => { p with bankMilliVolt := x.monitors.getD 3 p.bankMilliVolt, kaMilliVolt := x.monitors.getD 4 p.kaMilliVolt }

/-- A confirmed safety set whose record is sealed comes into force (R184 steps 3 and 4, R210, R427, R495). -/
def State.applySet (s : State) : State :=
  match s.par.confirmedSet with
  | none => s
  | some l =>
    let old := s.registers
    let s := (s.modPar fun p => { p with confirmedSet := none, setGeneration := satU 32 (p.setGeneration + 1) }).confirmSet l
    let s := s.day 0x000D s.par.setGeneration
    let s := s.when (decide (s.registers ≠ old)) fun s =>
      s.forAll (s.usedLinks.filter fun n => s.sends n && s.swept n) fun n s => s.forAll (s.reached n) fun p s => s.writeRegs n p
    match s.wk.confirming with
    | some f =>
      let s := s.when s.fitted fun s => s.pushBulk (.safetySet s.setCrc s.sealedTable)
      (s.modWk fun w => { w with confirming := none }).complete f cmdSealedSetConfirm (done [(1, 1), (1, 1)])
    | none => s

/-- The changes of mode that a boundary finds, in the order of R94; a standby takes its partner's (R95). -/
def State.modeStep (s : State) : State :=
  let s := s.mainsOpen
  let ending := s.prof.stopRamp == some true || s.prof.openWait || s.saf.opening.isSome || s.prof.tripFrame
  let hold := s.modes.holdCause
  let s := s.modModes fun m => { m with holdCause := false }
  if s.standsBy then s
  else if hold && decide (s.modes.mode = .m5) && decide (s.prg.state = 2) then
    let s := s.setMode .m6 0
    -- the stop ramp of R379 with the contactors closed, unless a controlled stop runs already
    if ending then s else s.modProf fun p => { p with stopRamp := some false, target := 0, moving := true, pendingOrder := none }
  else if decide (s.modes.mode = .m6) && decide (s.prg.state ≠ 2) && !ending then
    let s := (s.setMode .m5 0).modProf fun p => { p with stopRamp := none }
    match s.prof.inForce with
    | some o => s.takeOrder o
    | none => s
  else s

/-- What a Dormant entry does with the rail currents of the sweep that ended (R111, R112): the Hall offsets are compared with the
shunt readings of the first 100 ms, and ten times a second the current is held against the wake threshold. -/
def State.entryCurrents (s : State) : State :=
  let n := s.modes.dormantSweeps
  s.modNight fun g => { g with rails := (List.range 8).foldl (fun (t : Table NsRail) r =>
    if !s.railUsed r then t
    else
      let x := s.rails.get r
      t.modify r fun y =>
        let sum := if n ≤ 100 then y.shuntSum + x.current else y.shuntSum
        let run := if g.wakeCurrent < x.current.natAbs then y.overCount + 1 else 0
        { y with
          shuntSum := sum, compared := (if n = 100 then x.hall - divNear sum 100 else y.compared)
          overCount := (if n % 100 = 0 then run else y.overCount) }) g.rails }

/-- A Dormant entry from sweep to sweep: a rail current above the wake threshold ends it (R94, R112); its learned values sealed, the
balance checkpoint is committed; with no seal by 2.5 s it is abandoned (R111). -/
def State.dormantStep (s : State) : State :=
  if !s.modes.dormantEntry then s
  else
    let s := (s.modModes fun m => { m with dormantSweeps := m.dormantSweeps + 1 }).entryCurrents
    let woken := bitOf s.night.wakeMask 0 && (List.range 8).any fun r => decide (s.night.wakeCount ≤ (s.night.rails.get r).overCount)
    if woken then s.abandonDormant 1
    else
      let s := s.when (s.modes.dormantSealed && !s.modes.dormantChecked) fun s =>
        s.writeChecks.modModes fun m => { m with dormantChecked := true }
      if 2500 ≤ s.modes.dormantSweeps ∧ !s.modes.dormantSealed then s.abandonDormant (src 6 3) else s

/-- The decisions of a margin plan sealed before this boundary take effect (R609). -/
def State.applyPlan (s : State) : State :=
  if !s.age.apply then s
  else s.modAge fun a => { a with
    guard := a.plan.dieGuard, refreshDays := a.plan.refreshDays, writeMax := some a.plan.holdupWriteMax, apply := false }

/-- PWM outputs of the program are driven with its last duties once they are no longer forced (R401, R553). -/
def State.drivePrograms (s : State) : State :=
  if !s.active then s
  else s.forAll (maskIdx 8 (s.nat P.prgPwmClaim)) fun k s => s.drivePwm k (s.prg.duties.getD k 0)

/-- The checks of a sweep on what stands at its boundary: read-backs, the close sequence, tests, surveys, scales. -/
def State.checkStep (s : State) : State :=
  let s := (s.compareSwitches.disarmStep.closeSweep).hallChecks
  ((s.testChecks.surveyChecks).converterLost).timeFaults

/-- Frame errors that have become fewer than their limit in 1 s (R358, R389). -/
def State.errorRates (s : State) : State :=
  let s := s.forAll ((List.range 8).filter fun r => !s.trimFails r) fun r s => s.endFault (src 1 21) (itemTrim r)
  s.when (!s.epochsStale) fun s => s.endFault (src 7 32) noItem

/-- One plant second has passed: its rates are taken for the holdover and for the day (R518, R607). -/
def State.plantSecond (s : State) : State :=
  let sync := decide (s.time.state = 1)
  let s := s.when sync fun s => s.modTime fun t => { t with rates := (t.rate :: t.rates).take 60 }
  if bitOf s.age.waiting 3 then s
  else s.modAge fun a => { a with daySum := a.daySum + s.time.tcxo, daySecs := a.daySecs + 1, daySync := a.daySync + b2n sync }

/-- The sweep boundary: all that takes effect between two cycles. -/
def State.boundary (s : State) (x : SweepInputs) : State :=
  let s := (s.measureIn x).applyMirror.leaveM1.delayStep
  let s := (s.applyWrites.applySet).programBoundary
  let s := (s.modeStep.dormantStep).powerState
  let s := (s.applyPlan.thermalSweep x.dies).autoStart
  let s := s.checkStep
  let s := (s.readReceipts 0).readReceipts 1 |>.readReceipts 2
  let s := s.endDrops.errorRates.drivePrograms
  let s := s.when (decide (s.time.ns % 1000000000 = 0)) State.plantSecond
  -- live values are exported as they stand at this boundary (R591)
  (s.clearEnded.newNotices).modRecs fun r => { r with liveAt := r.live }

/-! ### The start of a cycle -/

/-- The epoch that comes: the next whole millisecond, or the end of a cycle that a step has lengthened (R507, R516). -/
def TimeBase.nextEpoch (t : TimeBase) : Nat := match t.gridEnd with
  | some e => e
  | none => if t.began then (max t.ns (t.lastEpoch + 1000000) + 999999) / 1000000 * 1000000 else (t.ns + 999999) / 1000000 * 1000000

/-- Time and the sweep counter at an epoch (R507, R508). The tick at the epoch may have come before it. -/
def State.epochTime (s : State) : State :=
  let t := s.time.nextEpoch
  let first := !s.time.began
  let listens := s.standsBy || s.usedLinks.any fun n => !s.sends n
  let counter := if s.time.sweepSet then wrapU 32 (s.time.sweep + 1) else if listens then wrapU 32 (s.time.sweep + 1)
    else wrapU 32 (t / 1000000)
  let s := s.modTime fun x => { x with
    ns := t, lastEpoch := t, gridEnd := none, sweep := counter, sweepSet := x.sweepSet || !listens, began := true
    cycleLen := (match x.gridEnd with | some e => (e - x.lastEpoch) / 10 | none => 100000)
    holdoverNs := if x.state = 2 then x.holdoverNs + 1000000 else x.holdoverNs, stepHold := x.stepHold - 1 }
  -- counting begins with the first epoch of a start
  let s := s.when first fun s => s.forAll (List.range 8) fun r s => s.modRail r fun y => { y with tickSum := 0 }
  let s := { s with bricks := s.bricks.mapVals fun b => { b with dq := 0, shuttleNow := 0 } }
  let s := (s.modArch fun a => { a with fresh0 := false, fresh1 := false }).modEst fun e => { e with booked := false }
  s.when (decide (s.time.lastTick = t)) State.bookCycle

/-- A step of the time base at this epoch (R516), after its SAMPLE. -/
def State.stepTime (s : State) : State :=
  match s.time.step with
  | none => s
  | some off =>
    let before := s.time.ns
    let now := ((before : Int) - off).toNat
    let ticked := decide (s.time.lastTick = before)
    let s := s.modTime fun t => { t with
      ns := now, lastEpoch := now, lastTick := if ticked then now else now - 50000
      gridEnd := some ((now + 1000000 + 999999) / 1000000 * 1000000), step := none, stepHold := 2, steps := satU 32 (t.steps + 1) }
    (s.dayStep s.time.sweep before).modModes fun m => { m with settle := 0 }

/-- Shares, commands and frames at t = 0 (R42): the shares of the cycle before come into force, SAMPLE and the command windows,
the converter frames; after a step balancing resumes from the second cycle (R516). -/
def State.startCycle (s : State) (resume : Bool) : State :=
  let s := s.modSteer fun t => { t with
    shares := t.nextShares, zeroRun := (t.zeroRun.zip t.nextShares).map fun x => if x.2 = 0 then min 1000 (x.1 + 1) else 0 }
  let s := ((s.sleepers).openWindows.stopNow).modModes fun m => { m with sweeping := m.sweeping || s.passDone || s.usedLinks.any s.swept }
  let s := s.forAll s.usedLinks fun n s => s.surveyFetches n
  let s := s.when (resume && s.active) fun s =>
    s.forAll (s.usedLinks.filter s.swept) fun n s => s.decideLink n
  (s.broadcast.converterFrames s.time.sweep).stepTime

/-- `SWEEP_EPOCH` (R42): the cycle before ends, its boundary passes, and the cycle of the next sweep counter starts. No sweep runs
with the main domain off or held in reset, nor in M0 and M2. -/
def execSweepEpoch (x : SweepInputs) (s : State) : Host.Outcome State Fault Refusal :=
  run (fun s =>
    if !s.power.mainUp || s.power.mainHeld || decide (s.modes.mode = .m0) || decide (s.modes.mode = .m2) then s
    -- the mask ROM runs no sweeps: it waits for the bank (R68)
    else if s.inRom then (s.measureIn x).leaveM1
    else
      let s := s.when s.time.began fun s => s.closeWindows.endCycle x.isu
      -- the boundary lies at the epoch, and the counter of the cycle that ends stands until the next one starts
      let t := s.time.nextEpoch
      let resume := decide (s.time.stepHold = 1)
      let s := ((s.modTime fun y => { y with ns := t }).boundary x).epochTime
      s.startCycle resume) s

end Sys2Proof.Machine
end

