-- ==== Sys2Proof/Machine/Dispatch.lean ====
section
/-! DEFINITION. One arm per command: the call of its meaning. -/

namespace Sys2Proof.Machine

open Sys2Proof

def exec (i : Instr) (s : State) : Host.Outcome State Fault Refusal :=
  match i with
  | .mainPowerGood x => Sys2Proof.Machine.execMainPowerGood x s
  | .supplyInputFailed b => Sys2Proof.Machine.execSupplyInputFailed b s
  | .supplyInputRestored b => Sys2Proof.Machine.execSupplyInputRestored b s
  | .holdUpBankCutoff => Sys2Proof.Machine.execHoldUpBankCutoff s
  | .safeSupLost => Sys2Proof.Machine.execSafeSupLost s
  | .safeSupRestored => Sys2Proof.Machine.execSafeSupRestored s
  | .presenceLoopBroken => Sys2Proof.Machine.execPresenceLoopBroken s
  | .supplyRailOutOfRange m v => Sys2Proof.Machine.execSupplyRailOutOfRange m v s
  | .supplyRailBackInRange m v => Sys2Proof.Machine.execSupplyRailBackInRange m v s
  | .keepSignalTimeout p => Sys2Proof.Machine.execKeepSignalTimeout p s
  | .guardLockstepMismatch => Sys2Proof.Machine.execGuardLockstepMismatch s
  | .engineWatchdogExpiry e => Sys2Proof.Machine.execEngineWatchdogExpiry e s
  | .eccSingleBitError region => Sys2Proof.Machine.execEccSingleBitError region s
  | .eccDoubleBitError w => Sys2Proof.Machine.execEccDoubleBitError w s
  | .fabricClockDeparture => Sys2Proof.Machine.execFabricClockDeparture s
  | .synthLockLost => Sys2Proof.Machine.execSynthLockLost s
  | .synthLockReturn => Sys2Proof.Machine.execSynthLockReturn s
  | .engineResetReturn e => Sys2Proof.Machine.execEngineResetReturn e s
  | .fabricBufferExpiry e => Sys2Proof.Machine.execFabricBufferExpiry e s
  | .warmRestart x => Sys2Proof.Machine.execWarmRestart x s
  | .coldRestart x => Sys2Proof.Machine.execColdRestart x s
  | .bootComplete => Sys2Proof.Machine.execBootComplete s
  | .bootStepFailed n => Sys2Proof.Machine.execBootStepFailed n s
  | .bootRetryTimer => Sys2Proof.Machine.execBootRetryTimer s
  | .settleCountComplete => Sys2Proof.Machine.execSettleCountComplete s
  | .settleTimeout => Sys2Proof.Machine.execSettleTimeout s
  | .strapPoll pins => Sys2Proof.Machine.execStrapPoll pins s
  | .recoveryButtonPress => Sys2Proof.Machine.execRecoveryButtonPress s
  | .powerCycle t => Sys2Proof.Machine.execPowerCycle t s
  | .sweepEpoch x => Sys2Proof.Machine.execSweepEpoch x s
  | .loopTick x => Sys2Proof.Machine.execLoopTick x s
  | .tallyPublish c => Sys2Proof.Machine.execTallyPublish c s
  | .tallyLate c => Sys2Proof.Machine.execTallyLate c s
  | .statementDue => Sys2Proof.Machine.execStatementDue s
  | .standingMessageDue => Sys2Proof.Machine.execStandingMessageDue s
  | .dormantIdleExpiry => Sys2Proof.Machine.execDormantIdleExpiry s
  | .dormantHandover => Sys2Proof.Machine.execDormantHandover s
  | .nightSafeSample x => Sys2Proof.Machine.execNightSafeSample x s
  | .nightSafeCount hall => Sys2Proof.Machine.execNightSafeCount hall s
  | .housekeepingTimer => Sys2Proof.Machine.execHousekeepingTimer s
  | .housekeepingStayExpiry => Sys2Proof.Machine.execHousekeepingStayExpiry s
  | .holdTimeout => Sys2Proof.Machine.execHoldTimeout s
  | .sessionOpen f kind timeout => Sys2Proof.Machine.execSessionOpen f kind timeout s
  | .sessionClose f => Sys2Proof.Machine.execSessionClose f s
  | .wicketOpen f seq => Sys2Proof.Machine.execWicketOpen f seq s
  | .wicketClose f => Sys2Proof.Machine.execWicketClose f s
  | .noop f => Sys2Proof.Machine.execNoop f s
  | .cancel f wicket seq => Sys2Proof.Machine.execCancel f wicket seq s
  | .slipFetch f first count => Sys2Proof.Machine.execSlipFetch f first count s
  | .slipAck f seq => Sys2Proof.Machine.execSlipAck f seq s
  | .paramRead f count l => Sys2Proof.Machine.execParamRead f count l s
  | .paramWrite f count l => Sys2Proof.Machine.execParamWrite f count l s
  | .sweepPhaseWrite f n ty v => Sys2Proof.Machine.execSweepPhaseWrite f n ty v s
  | .loopEnableWrite f k sections ty v => Sys2Proof.Machine.execLoopEnableWrite f k sections ty v s
  | .receiptStickyWrite f ty v => Sys2Proof.Machine.execReceiptStickyWrite f ty v s
  | .replanRequestWrite f ty v => Sys2Proof.Machine.execReplanRequestWrite f ty v s
  | .breakpointWrite f n ty v => Sys2Proof.Machine.execBreakpointWrite f n ty v s
  | .settingsBurstTimer => Sys2Proof.Machine.execSettingsBurstTimer s
  | .settingsCommit f => Sys2Proof.Machine.execSettingsCommit f s
  | .settingsDiscard f => Sys2Proof.Machine.execSettingsDiscard f s
  | .sealedSetWrite f crc count l => Sys2Proof.Machine.execSealedSetWrite f crc count l s
  | .sealedSetConfirm f crc => Sys2Proof.Machine.execSealedSetConfirm f crc s
  | .sealedSetPendingExpiry => Sys2Proof.Machine.execSealedSetPendingExpiry s
  | .modeRequest f target => Sys2Proof.Machine.execModeRequest f target s
  | .restart f kind => Sys2Proof.Machine.execRestart f kind s
  | .pendingRestartBegin => Sys2Proof.Machine.execPendingRestartBegin s
  | .close f => Sys2Proof.Machine.execClose f s
  | .stop f => Sys2Proof.Machine.execStop f s
  | .trip f => Sys2Proof.Machine.execTrip f s
  | .faultAck f source => Sys2Proof.Machine.execFaultAck f source s
  | .brickRead f first count mask => Sys2Proof.Machine.execBrickRead f first count mask s
  | .snapshotReleaseTimer n => Sys2Proof.Machine.execSnapshotReleaseTimer n s
  | .balanceTest f b t => Sys2Proof.Machine.execBalanceTest f b t s
  | .surveyStart f r => Sys2Proof.Machine.execSurveyStart f r s
  | .surveyAbort f r => Sys2Proof.Machine.execSurveyAbort f r s
  | .surveyResult f r first count => Sys2Proof.Machine.execSurveyResult f r first count s
  | .loopFlagsClear f mask => Sys2Proof.Machine.execLoopFlagsClear f mask s
  | .loopTest fr k point kind a f => Sys2Proof.Machine.execLoopTest fr k point kind a f s
  | .captureRead f number first count => Sys2Proof.Machine.execCaptureRead f number first count s
  | .daybookExport f first count => Sys2Proof.Machine.execDaybookExport f first count s
  | .ledgerExport f region count first => Sys2Proof.Machine.execLedgerExport f region count first s
  | .programControl f action => Sys2Proof.Machine.execProgramControl f action s
  | .programStatus f => Sys2Proof.Machine.execProgramStatus f s
  | .timeRead f => Sys2Proof.Machine.execTimeRead f s
  | .leaseAcquire f kind length digest => Sys2Proof.Machine.execLeaseAcquire f kind length digest s
  | .leaseRelease f => Sys2Proof.Machine.execLeaseRelease f s
  | .imageChunk f offset length data => Sys2Proof.Machine.execImageChunk f offset length data s
  | .imageFinish f check => Sys2Proof.Machine.execImageFinish f check s
  | .issueTrial f target number => Sys2Proof.Machine.execIssueTrial f target number s
  | .issueConfirm f target => Sys2Proof.Machine.execIssueConfirm f target s
  | .issueReject f target => Sys2Proof.Machine.execIssueReject f target s
  | .anchorWrite f idx action length data parses => Sys2Proof.Machine.execAnchorWrite f idx action length data parses s
  | .deferredRequestServe => Sys2Proof.Machine.execDeferredRequestServe s
  | .deferLimitExpiry n wicket => Sys2Proof.Machine.execDeferLimitExpiry n wicket s
  | .sessionTimeout n => Sys2Proof.Machine.execSessionTimeout n s
  | .slipBatchDue => Sys2Proof.Machine.execSlipBatchDue s
  | .sampleReply r => Sys2Proof.Machine.execSampleReply r s
  | .stackCheckCountReached n p => Sys2Proof.Machine.execStackCheckCountReached n p s
  | .identifyReply n hop x f => Sys2Proof.Machine.execIdentifyReply n hop x f s
  | .echoReply n hop x rtt => Sys2Proof.Machine.execEchoReply n hop x rtt s
  | .setTimingReply n hop x delay slot => Sys2Proof.Machine.execSetTimingReply n hop x delay slot s
  | .enumerateReply n hop x f => Sys2Proof.Machine.execEnumerateReply n hop x f s
  | .enumerationWindowEnd n => Sys2Proof.Machine.execEnumerationWindowEnd n s
  | .balanceReply n hop x back status => Sys2Proof.Machine.execBalanceReply n hop x back status s
  | .openWireReply n hop x line state => Sys2Proof.Machine.execOpenWireReply n hop x line state s
  | .readConfigReply n hop x first regs => Sys2Proof.Machine.execReadConfigReply n hop x first regs s
  | .writeConfigReply n hop x first regs => Sys2Proof.Machine.execWriteConfigReply n hop x first regs s
  | .alarmClearReply n hop x status => Sys2Proof.Machine.execAlarmClearReply n hop x status s
  | .surveyFetchReply n hop x block sweep samples => Sys2Proof.Machine.execSurveyFetchReply n hop x block sweep samples s
  | .linkReplyTimeout n => Sys2Proof.Machine.execLinkReplyTimeout n s
  | .foreignCommandHeard c => Sys2Proof.Machine.execForeignCommandHeard c s
  | .listenerSilenceTimeout n => Sys2Proof.Machine.execListenerSilenceTimeout n s
  | .linkSilenceTimeout n => Sys2Proof.Machine.execLinkSilenceTimeout n s
  | .wakeIdentifyTimeout n => Sys2Proof.Machine.execWakeIdentifyTimeout n s
  | .owdRemeasureTimer n => Sys2Proof.Machine.execOwdRemeasureTimer n s
  | .registerReadbackTimer n p => Sys2Proof.Machine.execRegisterReadbackTimer n p s
  | .alarmTonePresent n => Sys2Proof.Machine.execAlarmTonePresent n s
  | .alarmToneAbsent n => Sys2Proof.Machine.execAlarmToneAbsent n s
  | .toneDisagreeTimeout n => Sys2Proof.Machine.execToneDisagreeTimeout n s
  | .openWireRoundDue n => Sys2Proof.Machine.execOpenWireRoundDue n s
  | .balanceTargetRecompute => Sys2Proof.Machine.execBalanceTargetRecompute s
  | .balanceRefreshDue n p => Sys2Proof.Machine.execBalanceRefreshDue n p s
  | .countSourceLoss r hall => Sys2Proof.Machine.execCountSourceLoss r hall s
  | .countSourceRestore r => Sys2Proof.Machine.execCountSourceRestore r s
  | .hallMismatchTimeout r => Sys2Proof.Machine.execHallMismatchTimeout r s
  | .fullAnchor b => Sys2Proof.Machine.execFullAnchor b s
  | .emptyAnchor b => Sys2Proof.Machine.execEmptyAnchor b s
  | .restHoldReached r => Sys2Proof.Machine.execRestHoldReached r s
  | .restTimeReached r => Sys2Proof.Machine.execRestTimeReached r s
  | .directionSet r charge => Sys2Proof.Machine.execDirectionSet r charge s
  | .driftTimeout b full => Sys2Proof.Machine.execDriftTimeout b full s
  | .warningEvaluation => Sys2Proof.Machine.execWarningEvaluation s
  | .checkpointDue => Sys2Proof.Machine.execCheckpointDue s
  | .learnedPeriodExpiry => Sys2Proof.Machine.execLearnedPeriodExpiry s
  | .writeHoldoffExpiry => Sys2Proof.Machine.execWriteHoldoffExpiry s
  | .surveyWindowOpen => Sys2Proof.Machine.execSurveyWindowOpen s
  | .surveyRetryTimer => Sys2Proof.Machine.execSurveyRetryTimer s
  | .surveyWindowClose => Sys2Proof.Machine.execSurveyWindowClose s
  | .surveyT0 => Sys2Proof.Machine.execSurveyT0 s
  | .surveyT0Timeout => Sys2Proof.Machine.execSurveyT0Timeout s
  | .surveyPeriodEnd => Sys2Proof.Machine.execSurveyPeriodEnd s
  | .surveyRampEnd => Sys2Proof.Machine.execSurveyRampEnd s
  | .surveyFitComplete => Sys2Proof.Machine.execSurveyFitComplete s
  | .trimStatusFrame r x => Sys2Proof.Machine.execTrimStatusFrame r x s
  | .trimStatusTimeout r => Sys2Proof.Machine.execTrimStatusTimeout r s
  | .fallbackExitTimer r => Sys2Proof.Machine.execFallbackExitTimer r s
  | .trimMismatchTimeout r => Sys2Proof.Machine.execTrimMismatchTimeout r s
  | .outputLimitTimeout k => Sys2Proof.Machine.execOutputLimitTimeout k s
  | .trimCurrentMismatchTimeout r => Sys2Proof.Machine.execTrimCurrentMismatchTimeout r s
  | .auxLoopRun => Sys2Proof.Machine.execAuxLoopRun s
  | .loopTestCaptureComplete => Sys2Proof.Machine.execLoopTestCaptureComplete s
  | .sectionOrder f order value ack => Sys2Proof.Machine.execSectionOrder f order value ack s
  | .masterStreamFrame f master position reserved => Sys2Proof.Machine.execMasterStreamFrame f master position reserved s
  | .ruling f ruling active => Sys2Proof.Machine.execRuling f ruling active s
  | .partnerStandingMessage f payload => Sys2Proof.Machine.execPartnerStandingMessage f payload s
  | .orderTimeout => Sys2Proof.Machine.execOrderTimeout s
  | .streamTimeout => Sys2Proof.Machine.execStreamTimeout s
  | .converterStatusFrame crc count convState dis chg => Sys2Proof.Machine.execConverterStatusFrame crc count convState dis chg s
  | .converterStatusTimeout => Sys2Proof.Machine.execConverterStatusTimeout s
  | .noticeRepeatDue number => Sys2Proof.Machine.execNoticeRepeatDue number s
  | .stopRampComplete => Sys2Proof.Machine.execStopRampComplete s
  | .openWaitEnd => Sys2Proof.Machine.execOpenWaitEnd s
  | .controlledOpeningStep => Sys2Proof.Machine.execControlledOpeningStep s
  | .standbyFollowTimeout p => Sys2Proof.Machine.execStandbyFollowTimeout p s
  | .closeSequenceStep => Sys2Proof.Machine.execCloseSequenceStep s
  | .prechargeReached => Sys2Proof.Machine.execPrechargeReached s
  | .prechargeTimeout => Sys2Proof.Machine.execPrechargeTimeout s
  | .economyChopStart p => Sys2Proof.Machine.execEconomyChopStart p s
  | .brickThermalEvaluation => Sys2Proof.Machine.execBrickThermalEvaluation s
  | .fastRateReturnTimer k => Sys2Proof.Machine.execFastRateReturnTimer k s
  | .guardThermalEvaluation => Sys2Proof.Machine.execGuardThermalEvaluation s
  | .thermistorFailedTimeout k => Sys2Proof.Machine.execThermistorFailedTimeout k s
  | .packThermistorGraceExpiry n => Sys2Proof.Machine.execPackThermistorGraceExpiry n s
  | .thsSourceInvalidTimeout n => Sys2Proof.Machine.execThsSourceInvalidTimeout n s
  | .dieCoolVaultResume => Sys2Proof.Machine.execDieCoolVaultResume s
  | .safeInputChange k guard ch1 ch2 => Sys2Proof.Machine.execSafeInputChange k guard ch1 ch2 s
  | .discrepancyTimeout k guard => Sys2Proof.Machine.execDiscrepancyTimeout k guard s
  | .autoResetTimeout k guard => Sys2Proof.Machine.execAutoResetTimeout k guard s
  | .safetyDisagreeTimeout k => Sys2Proof.Machine.execSafetyDisagreeTimeout k s
  | .hallThresholdCrossed r guard before now => Sys2Proof.Machine.execHallThresholdCrossed r guard before now s
  | .tripRequest => Sys2Proof.Machine.execTripRequest s
  | .armRequest mask => Sys2Proof.Machine.execArmRequest mask s
  | .disarmRequest => Sys2Proof.Machine.execDisarmRequest s
  | .pulsePermit p => Sys2Proof.Machine.execPulsePermit p s
  | .offPulseStart j => Sys2Proof.Machine.execOffPulseStart j s
  | .offPulseOffCheck mv => Sys2Proof.Machine.execOffPulseOffCheck mv s
  | .offPulseRestore => Sys2Proof.Machine.execOffPulseRestore s
  | .offPulseOnCheck mv => Sys2Proof.Machine.execOffPulseOnCheck mv s
  | .readbackDisagreeCount p h => Sys2Proof.Machine.execReadbackDisagreeCount p h s
  | .pairOffsetMeasure => Sys2Proof.Machine.execPairOffsetMeasure s
  | .programCloseRequest => Sys2Proof.Machine.execProgramCloseRequest s
  | .programStopRequest => Sys2Proof.Machine.execProgramStopRequest s
  | .railConnect r => Sys2Proof.Machine.execRailConnect r s
  | .railDisconnect r => Sys2Proof.Machine.execRailDisconnect r s
  | .brokenSignal source item => Sys2Proof.Machine.execBrokenSignal source item s
  | .signalIntegrityRestored source item => Sys2Proof.Machine.execSignalIntegrityRestored source item s
  | .mirrorFragment x => Sys2Proof.Machine.execMirrorFragment x s
  | .twinRequestStraps str pos variant => Sys2Proof.Machine.execTwinRequestStraps str pos variant s
  | .twinRequestEnumerate n => Sys2Proof.Machine.execTwinRequestEnumerate n s
  | .twinRequestIdentify l => Sys2Proof.Machine.execTwinRequestIdentify l s
  | .twinRequestOffset rx => Sys2Proof.Machine.execTwinRequestOffset rx s
  | .twinRequestChargeTotal r b1 b2 => Sys2Proof.Machine.execTwinRequestChargeTotal r b1 b2 s
  | .twinRequestImage kind => Sys2Proof.Machine.execTwinRequestImage kind s
  | .twinRequestSettings => Sys2Proof.Machine.execTwinRequestSettings s
  | .twinReply r => Sys2Proof.Machine.execTwinReply r s
  | .twinLinkUp => Sys2Proof.Machine.execTwinLinkUp s
  | .partnerSilent => Sys2Proof.Machine.execPartnerSilent s
  | .twinLinkDownTimeout down => Sys2Proof.Machine.execTwinLinkDownTimeout down s
  | .roleTakeTimeout => Sys2Proof.Machine.execRoleTakeTimeout s
  | .orphanTimeout => Sys2Proof.Machine.execOrphanTimeout s
  | .reconcileRoundDue => Sys2Proof.Machine.execReconcileRoundDue s
  | .ptpSync h twoStep rx origin corr => Sys2Proof.Machine.execPtpSync h twoStep rx origin corr s
  | .ptpFollowUp h origin corr => Sys2Proof.Machine.execPtpFollowUp h origin corr s
  | .ptpAnnounce h a => Sys2Proof.Machine.execPtpAnnounce h a s
  | .ptpAnnounceTimeout n => Sys2Proof.Machine.execPtpAnnounceTimeout n s
  | .ptpPdelayReq h rx => Sys2Proof.Machine.execPtpPdelayReq h rx s
  | .ptpPdelayResp h t2 rx => Sys2Proof.Machine.execPtpPdelayResp h t2 rx s
  | .ptpPdelayRespFollowUp h t3 corr => Sys2Proof.Machine.execPtpPdelayRespFollowUp h t3 corr s
  | .ptpPdelayReqDue n => Sys2Proof.Machine.execPtpPdelayReqDue n s
  | .ptpMasterSendDue n => Sys2Proof.Machine.execPtpMasterSendDue n s
  | .gmQualifyComplete => Sys2Proof.Machine.execGmQualifyComplete s
  | .leapSecond => Sys2Proof.Machine.execLeapSecond s
  | .nightSafeTimeCopy => Sys2Proof.Machine.execNightSafeTimeCopy s
  | .prpSupervisionDue => Sys2Proof.Machine.execPrpSupervisionDue s
  | .prpSupervisionFrame x => Sys2Proof.Machine.execPrpSupervisionFrame x s
  | .portLinkChange n up compliant => Sys2Proof.Machine.execPortLinkChange n up compliant s
  | .arpRequest x addr => Sys2Proof.Machine.execArpRequest x addr s
  | .icmpEchoRequest x addr sender => Sys2Proof.Machine.execIcmpEchoRequest x addr sender s
  | .gratuitousArpRepeat => Sys2Proof.Machine.execGratuitousArpRepeat s
  | .receiptStamp q tag stamp => Sys2Proof.Machine.execReceiptStamp q tag stamp s
  | .canTxComplete x => Sys2Proof.Machine.execCanTxComplete x s
  | .canTxAttemptFailed b lost => Sys2Proof.Machine.execCanTxAttemptFailed b lost s
  | .canBusOff b => Sys2Proof.Machine.execCanBusOff b s
  | .canBusOffRecovery b => Sys2Proof.Machine.execCanBusOffRecovery b s
  | .auxBootup node => Sys2Proof.Machine.execAuxBootup node s
  | .auxHeartbeat node nmt => Sys2Proof.Machine.execAuxHeartbeat node nmt s
  | .auxHeartbeatLoss st => Sys2Proof.Machine.execAuxHeartbeatLoss st s
  | .heartbeatProduceDue => Sys2Proof.Machine.execHeartbeatProduceDue s
  | .sdoResponse b node d => Sys2Proof.Machine.execSdoResponse b node d s
  | .sdoTimeout b => Sys2Proof.Machine.execSdoTimeout b s
  | .rxPdo id data => Sys2Proof.Machine.execRxPdo id data s
  | .txPdoRefreshDue id => Sys2Proof.Machine.execTxPdoRefreshDue id s
  | .programCanReceive b x => Sys2Proof.Machine.execProgramCanReceive b x s
  | .programCycleStart => Sys2Proof.Machine.execProgramCycleStart s
  | .programExecutionEnd o => Sys2Proof.Machine.execProgramExecutionEnd o s
  | .programDeadlineOverrun => Sys2Proof.Machine.execProgramDeadlineOverrun s
  | .programBreakpointHit n => Sys2Proof.Machine.execProgramBreakpointHit n s
  | .programRuntimeError offset => Sys2Proof.Machine.execProgramRuntimeError offset s
  | .exchangePrepared => Sys2Proof.Machine.execExchangePrepared s
  | .ledgerSecond => Sys2Proof.Machine.execLedgerSecond s
  | .closeOfBooks => Sys2Proof.Machine.execCloseOfBooks s
  | .budgetPeriodStart m => Sys2Proof.Machine.execBudgetPeriodStart m s
  | .allowanceSpent e => Sys2Proof.Machine.execAllowanceSpent e s
  | .thriftSupplyTimer low => Sys2Proof.Machine.execThriftSupplyTimer low s
  | .ringOscillatorMeasure counts => Sys2Proof.Machine.execRingOscillatorMeasure counts s
  | .flashMarginTest errors => Sys2Proof.Machine.execFlashMarginTest errors s
  | .holdupBankTestStart => Sys2Proof.Machine.execHoldupBankTestStart s
  | .holdupBankTestEnd us => Sys2Proof.Machine.execHoldupBankTestEnd us s
  | .tcxoDaily => Sys2Proof.Machine.execTcxoDaily s
  | .replanPeriodExpiry => Sys2Proof.Machine.execReplanPeriodExpiry s
  | .replan => Sys2Proof.Machine.execReplan s
  | .vaultWriteStart => Sys2Proof.Machine.execVaultWriteStart s
  | .vaultEraseComplete => Sys2Proof.Machine.execVaultEraseComplete s
  | .vaultPageProgrammed => Sys2Proof.Machine.execVaultPageProgrammed s
  | .vaultReadbackComplete x => Sys2Proof.Machine.execVaultReadbackComplete x s
  | .vaultSealComplete => Sys2Proof.Machine.execVaultSealComplete s
  | .vaultEnergyRetest => Sys2Proof.Machine.execVaultEnergyRetest s
  | .vaultRefusalTimeout => Sys2Proof.Machine.execVaultRefusalTimeout s
  | .vaultRefreshDue => Sys2Proof.Machine.execVaultRefreshDue s
  | .leaseExpiry => Sys2Proof.Machine.execLeaseExpiry s
  | .trialWindowExpiry => Sys2Proof.Machine.execTrialWindowExpiry s
  | .heardCommandFrame n hop opcode x payload => Sys2Proof.Machine.execHeardCommandFrame n hop opcode x payload s
  | .canWakeUpPattern b => Sys2Proof.Machine.execCanWakeUpPattern b s
  | .fabricClockReturn => Sys2Proof.Machine.execFabricClockReturn s
  | .presenceLoopClosed => Sys2Proof.Machine.execPresenceLoopClosed s
  | .bankCharge30vTo40v t => Sys2Proof.Machine.execBankCharge30vTo40v t s
  | .keepAliveLost => Sys2Proof.Machine.execKeepAliveLost s
  | .prpSupervisionTimeout n => Sys2Proof.Machine.execPrpSupervisionTimeout n s

end Sys2Proof.Machine
end

