-- ==== Sys2Proof/WellFormed.lean ====
section
/-! DEFINITION. Which commands are well formed: every operand lies in the range that its frame's field, its pin or its numbering
carries. A well-formed command may still be refused, discarded or ignored by its meaning, as the spec says. -/

namespace Sys2Proof

open Sys2Proof.Machine

/-- A number of an unsigned field of `w` bits. -/
def inU (w n : Nat) : Bool := decide (n < 2 ^ w)

/-- A number of a signed field of `w` bits. -/
def inI (w : Nat) (x : Int) : Bool := decide (-(2 ^ (w - 1)) ≤ x) && decide (x < 2 ^ (w - 1))

/-- One of `k` numbered objects, from 0. -/
def upTo (k n : Nat) : Bool := decide (n < k)

/-- A pack link (R3). -/
def linkNo (n : Nat) : Bool := upTo 128 n

/-- A brick (R3). -/
def brickNo (b : Nat) : Bool := upTo 3072 b

/-- An engine, 1 to 8 (R22). -/
def engineNo (e : Nat) : Bool := decide (1 ≤ e) && decide (e ≤ 8)

/-- A Boot step, 1 to 11 (R96). -/
def stepNo (n : Nat) : Bool := decide (1 ≤ n) && decide (n ≤ 11)

/-- The HOP field of a pack link frame, 3 bits (R197). -/
def hopNo (h : Nat) : Bool := inU 3 h

/-- A node of the auxiliary bus, 1 to 127 (R539). -/
def nodeNo (n : Nat) : Bool := decide (1 ≤ n) && decide (n ≤ 127)

/-- A payload of bytes, at most `k`. -/
def byteList (k : Nat) (l : List Byte) : Bool := decide (l.length ≤ k)

/-- The bytes of a pack link payload (R196). -/
def octets (l : List Nat) : Bool := decide (l.length ≤ 64) && l.all (inU 8)

/-- The registers of a block: 16 bits each. -/
def regList (l : List Nat) : Bool := decide (l.length ≤ 127) && l.all (inU 16)

/-- Samples of 16 bits. -/
def wordList (l : List Nat) : Bool := decide (l.length ≤ 32) && l.all (inU 16)

/-- Applied shuttle currents of a monitor: 12 signed bytes (R254). -/
def ampList (l : List Int) : Bool := decide (l.length ≤ 12) && l.all (inI 8)

/-- The Hall inputs of the rails, 0.1 mV. -/
def hallList (l : List Int) : Bool := decide (l.length ≤ 8) && l.all (inI 32)

/-- Links named by a request. -/
def linkList (l : List Nat) : Bool := decide (l.length ≤ 128) && l.all linkNo

/-- Parameter indices as a PARAM_READ names them. -/
def indexList (l : List Nat) : Bool := decide (l.length ≤ 720) && l.all (inU 16)

/-- The mean counts of the four ring oscillator banks (R606). -/
def fourCounts (l : List Nat) : Bool := decide (l.length = 4) && l.all (inU 32)

/-- An SDO response carries 8 bytes (R541). -/
def sdoData (l : List Byte) : Bool := decide (l.length = 8)

namespace Machine

/-- Strap levels 0, 1 and 2 of the five string pins and the three others (R62). -/
def StrapPins.wf (p : StrapPins) : Bool :=
  decide (p.sid.length = 5) && p.sid.all (upTo 3) && upTo 3 p.sidp && upTo 3 p.twposA && upTo 3 p.twposB

/-- A frame of a CAN FD controller (R528): an identifier of 11 or 29 bits, up to 8 or 64 bytes. -/
def CanFrame.wf (x : CanFrame) : Bool :=
  inU (if x.ext then 29 else 11) x.id && decide (x.data.length ≤ if x.fd then 64 else 8)

/-- A monitor as an enumeration reply names it (R207). -/
def Found.wf (f : Found) : Bool := inU 32 f.identity && inU 8 f.channels && inU 16 f.firmware && inU 8 f.posA && inU 8 f.posB

/-- A link frame's other fields: each within its width (R195, R196). -/
def LineHead.wf (x : LineHead) : Bool :=
  inU 8 x.sync && inU 3 x.hopN && inU 1 x.origin && inU 16 x.tag && inU 8 x.len && inU 16 x.bytes && inU 16 x.crc && inU 16 x.endUs

end Machine

/-- The fields of a frame (R127): each within its width; a datagram that is cut short is shorter than header and CRC-32; on the
service port the frame length tells where the frame ends (R126). -/
def Frame.wf (f : Frame) : Bool :=
  inU 32 f.src && inU 16 f.port && upTo 3 f.via && inU 16 f.dport && inU 16 f.tcpLen && (match f.cut with | some n => upTo 28 n | none => true)
    && inU 16 f.magic && inU 8 f.version && inU 8 f.kind && inU 8 f.host && inU 8 f.wicket && inU 16 f.seq && inU 32 f.session
    && inU 16 f.code && inU 8 f.priority && inU 8 f.outcome && inU 16 f.length && inU 16 f.epoch && inU 16 f.flags && inU 16 f.reserved
    && inU 32 f.crc && decide (f.payload.length < 65508)
    && (decide (f.via ≠ 2) || decide (f.tcpLen = f.cut.getD (28 + f.payload.length)))

/-- The frame carries the command `code` with operands as `spelt`, or a COMMAND that the catalogue does not define: such a frame
arrives as any row but SESSION_OPEN, and is refused (R129 step 5, log 187). -/
def Frame.spells (f : Frame) (code : Nat) (spelt : Bool) : Bool :=
  (decide (f.code = code) && spelt) || (decide (code ≠ 0x0001) && !knownCodes.contains f.code)
    -- what is not a whole request frame is not looked at for operands (R129 steps 1 to 3)
    || f.cut.isSome || !f.head || !f.crcOk

/-- A PARAM_WRITE of one entry (R153). -/
def Frame.writes (f : Frame) (i ty v : Nat) : Bool :=
  f.spells 0x0102 (decide (f.field 0 2 = 1) && decide (f.entries 4 = [{ index := i, ty := ty, res := f.field 7 1, value := v }]))

/-- The operands of a request are those that its payload spells in the layouts of R153, R631 and R633; other commands have no frame. -/
def operandsSpelt : Instr → Bool
  | .sessionOpen f kind timeout => f.spells 0x0001 (decide (f.field 0 1 = kind) && decide (f.field 2 2 = timeout))
  | .sessionClose f => f.spells 0x0002 true
  | .wicketOpen f seq => f.spells 0x0003 (decide (f.field 0 2 = seq))
  | .wicketClose f => f.spells 0x0004 true
  | .noop f => f.spells 0x0005 true
  | .cancel f wicket seq => f.spells 0x0006 (decide (f.field 0 1 = wicket) && decide (f.field 2 2 = seq))
  | .slipFetch f first count => f.spells 0x0010 (decide (f.field 0 4 = first) && decide (f.field 4 2 = count))
  | .slipAck f seq => f.spells 0x0011 (decide (f.field 0 4 = seq))
  | .paramRead f count l => f.spells 0x0101 (decide (f.field 0 2 = count) &&
      decide (l = (List.range ((f.payload.length - 4) / 2)).map fun k => f.field (4 + 2 * k) 2))
  | .paramWrite f count l => f.spells 0x0102 (decide (f.field 0 2 = count) && decide (l = f.entries 4))
  | .sweepPhaseWrite f n ty v => f.writes (P.lnkSweepPhase n) ty v
  | .loopEnableWrite f k sections ty v => f.writes (if sections then P.loopSections k else P.loopEnable k) ty v
  | .receiptStickyWrite f ty v => f.writes 0x0360 ty v
  | .replanRequestWrite f ty v => f.writes P.ageReplanRequest ty v
  | .breakpointWrite f i ty v => f.writes (P.prgBreakpoint i) ty v
  | .settingsCommit f => f.spells 0x0103 true
  | .settingsDiscard f => f.spells 0x0104 true
  | .sealedSetWrite f crc count l =>
    f.spells 0x0105 (decide (f.field 0 4 = crc) && decide (f.field 4 2 = count) && decide (l = f.entries 8))
  | .sealedSetConfirm f crc => f.spells 0x0106 (decide (f.field 0 4 = crc))
  | .modeRequest f target => f.spells 0x0201 (decide (f.field 0 1 = target))
  | .restart f kind => f.spells 0x0202 (decide (f.field 0 1 = kind))
  | .close f => f.spells 0x0203 true
  | .stop f => f.spells 0x0204 true
  | .trip f => f.spells 0x0205 true
  | .faultAck f source => f.spells 0x0206 (decide (f.field 0 2 = source))
  | .brickRead f first count mask =>
    f.spells 0x0301 (decide (f.field 0 2 = first) && decide (f.field 2 2 = count) && decide (f.field 4 4 = mask))
  | .balanceTest f b t => f.spells 0x0302 (decide (f.field 0 2 = b) && decide (ofPat 32 (f.field 4 4) = t))
  | .surveyStart f r => f.spells 0x0401 (decide (f.field 0 1 = r))
  | .surveyAbort f r => f.spells 0x0402 (decide (f.field 0 1 = r))
  | .surveyResult f r first count =>
    f.spells 0x0403 (decide (f.field 0 1 = r) && decide (f.field 2 2 = first) && decide (f.field 4 2 = count))
  | .loopFlagsClear f mask => f.spells 0x0501 (decide (f.field 0 2 = mask))
  | .loopTest f k point kind a b => f.spells 0x0502 (decide (f.field 0 1 = k) && decide (f.field 1 1 = point) && decide (f.field 2 1 = kind)
      && decide (f.field 4 4 = a.toNat) && decide (f.field 8 4 = b.toNat))
  | .captureRead f number first count =>
    f.spells 0x0503 (decide (f.field 0 4 = number) && decide (f.field 4 4 = first) && decide (f.field 8 2 = count))
  | .daybookExport f first count => f.spells 0x0601 (decide (f.field 0 4 = first) && decide (f.field 4 2 = count))
  | .ledgerExport f region count first =>
    f.spells 0x0602 (decide (f.field 0 1 = region) && decide (f.field 2 2 = count) && decide (f.field 4 4 = first))
  | .programControl f action => f.spells 0x0701 (decide (f.field 0 1 = action))
  | .programStatus f => f.spells 0x0702 true
  | .timeRead f => f.spells 0x0801 true
  | .leaseAcquire f kind length digest =>
    f.spells 0x0901 (decide (f.field 0 1 = kind) && decide (f.field 4 4 = length) && decide (f.field 8 48 = digest))
  | .leaseRelease f => f.spells 0x0902 true
  | .imageChunk f offset length data =>
    f.spells 0x0903 (decide (f.field 0 4 = offset) && decide (f.field 4 2 = length) && decide (data = f.payload.drop 8))
  | .imageFinish f _ => f.spells 0x0904 true
  | .issueTrial f target number => f.spells 0x0905 (decide (f.field 0 1 = target) && decide (f.field 2 2 = number))
  | .issueConfirm f target => f.spells 0x0906 (decide (f.field 0 1 = target))
  | .issueReject f target => f.spells 0x0907 (decide (f.field 0 1 = target))
  | .anchorWrite f idx action length data _ => f.spells 0x0908 (decide (f.field 0 1 = idx) && decide (f.field 1 1 = action)
      && decide (f.field 2 2 = length) && decide (data = f.payload.drop 4))
  | _ => true

/-- The 12 bytes of a parameter entry (R153). -/
def ParamEntry.wf (e : ParamEntry) : Bool := inU 16 e.index && inU 8 e.ty && inU 8 e.res && inU 64 e.value

/-- The entries of a request. -/
def entryList (l : List ParamEntry) : Bool := l.all ParamEntry.wf

def EccSite.wf : EccSite → Bool
  | .dram e => engineNo e
  | .engine e => engineNo e
  | .retained r => upTo 6 r

/-- What a program image declares (R545). -/
def ImageCheck.wf (c : ImageCheck) : Bool :=
  inU 32 c.program.crc && inU 32 c.program.codeLen && inU 32 c.program.instLen && inU 32 c.program.retLen && inU 8 c.program.pwm

/-- The payload of a SAMPLE reply (R208). -/
def SampleReply.wf (r : SampleReply) : Bool :=
  linkNo r.link && hopNo r.hop && r.head.wf && decide (r.volt.length ≤ 12) && r.volt.all (inU 16) && inU 16 r.stack
    && decide (r.therm.length ≤ 4) && r.therm.all (inI 16) && decide (r.shuttleQ.length ≤ 12) && r.shuttleQ.all (inI 16)
    && inU 16 r.status

/-- Eight rails of readings. -/
def TickInputs.wf (x : TickInputs) : Bool := hallList x.shunt && hallList x.hall

/-- The fields of a trim stage's status frame (R337). -/
def TrimFrame.wf (x : TrimFrame) : Bool :=
  inU 8 x.sync && inU 8 x.kind && inU 8 x.res && inU 16 x.crc && inU 8 x.seq && inU 8 x.state && inU 8 x.port && inI 16 x.insertion && inI 16 x.current && inI 16 x.temperature && inU 16 x.faults

/-- The samples of Night Safe (R112). -/
def NightInputs.wf (x : NightInputs) : Bool :=
  hallList x.hall && inU 16 x.kaMilliVolt && linkList x.alarms && inU 16 x.inputs

/-- The header of a section frame (R363). -/
def SectionFrame.wf (f : SectionFrame) : Bool :=
  upTo 4 f.via && inU 16 f.port && inU 16 f.magic && inU 8 f.version && inU 8 f.kind && inU 8 f.str && inU 8 f.position && inU 16 f.seq
    && inU 32 f.epoch && inU 48 f.seconds && inU 32 f.nanos && inU 16 f.length && inU 16 f.bytes && inU 32 f.crc

/-- The header of a mirror fragment (R472). -/
def MirrorFrame.wf (x : MirrorFrame) : Bool :=
  inU 16 x.magic && inU 8 x.version && inU 16 x.format && inU 8 x.frag && inU 8 x.frags && decide (x.frag < x.frags) && inU 32 x.sweep
    && inU 8 x.position && inU 16 x.length && inU 32 x.crc && decide (x.bytes.length ≤ 1480)

def TwinReply.wf : TwinReply → Bool
  | .straps str pos variant => upTo 32 str && upTo 2 pos && inU 8 variant
  | .enumerate link found => linkNo link && found.all Found.wf
  | .offset t2 t3 t4 => inU 80 t2 && inU 80 t3 && inU 80 t4
  | .chargeTotal rail _ => upTo 8 rail
  | .stage result => inU 8 result

/-- An uplink frame's port, source and RCT (R499). -/
def UplinkFrame.wf (x : UplinkFrame) : Bool := upTo 2 x.port && inU 48 x.mac && inU 12 x.vlan

/-- The header of a PTP message (R511). -/
def PtpHead.wf (h : PtpHead) : Bool := upTo 2 h.port && inU 8 h.domain && inU 64 h.source && inU 16 h.seq

/-- The content of an Announce message (R512). -/
def Announce.wf (a : Announce) : Bool :=
  decide (a.vector.length = 7) && decide (-1 ≤ a.leap) && decide (a.leap ≤ 1)
    && (match a.utc with | some x => inI 16 x | none => true)

/-- The output image of a program cycle (R553). -/
def ProgramOutput.wf (o : ProgramOutput) : Bool :=
  o.duties.all (fun x => upTo 8 x.1 && inU 32 x.2) && o.feedback.all (fun x => upTo 32 x.1 && inU 32 x.2)
    && o.refs.all (fun x => upTo 8 x.1 && inU 32 x.2) && o.values.all (fun x => upTo 32 x.1 && inU 32 x.2)
    && o.frames.all (fun x => upTo 2 x.1 && x.2.2.wf) && o.sdos.all (fun x => upTo 2 x.1) && inU 24 o.guard && o.reads.all (inU 16)
    && inU 32 o.execUs

/-- The meters of a budget period (R595). -/
def Metering.wf (m : Metering) : Bool :=
  decide (m.engines.length ≤ 8) && m.engines.all (fun x => inU 32 x.1 && decide (x.2.length ≤ 5)) && inU 32 m.shared

/-- What a start finds. -/
def StartInputs.wf (x : StartInputs) : Bool :=
  x.straps.wf && decide (x.verified.length = 2) && inU 6 x.bad && x.badRecords.all (fun r => upTo 10 r.1 && upTo 64 r.2)
    && x.lostBricks.all (fun r => brickNo r.1) && x.lostLedger.all (fun r => inU 32 r.1) && decide (x.mods.length ≤ 18)
    && x.mods.all (fun l => decide (l.length ≤ 16))

/-- What the module measures at a sweep epoch. -/
def SweepInputs.wf (x : SweepInputs) : Bool :=
  decide (x.dies.length ≤ 6) && x.dies.all (inI 16) && decide (x.rails.length ≤ 8) && x.rails.all (inU 32)
    && decide (x.pDrop.length ≤ 20) && x.pDrop.all (inI 32) && decide (x.hVolt.length ≤ 20) && x.hVolt.all (inI 32) && decide (x.monitors.length ≤ 12) && x.monitors.all (inU 32)
    && decide (x.isu.length ≤ 8) && x.isu.all (inI 32)

/-- Every operand of a command lies in the range of its field, pin or numbering. -/
def operandsRanged : Instr → Bool
  | .supplyInputFailed _ => true
  | .supplyInputRestored _ => true
  | .holdUpBankCutoff => true
  | .safeSupLost => true
  | .safeSupRestored => true
  | .presenceLoopBroken => true
  | .presenceLoopClosed => true
  | .supplyRailOutOfRange m v => upTo 12 m && inU 32 v
  | .supplyRailBackInRange m v => upTo 12 m && inU 32 v
  | .keepSignalTimeout p => upTo 20 p
  | .guardLockstepMismatch => true
  | .engineWatchdogExpiry e => engineNo e
  | .eccSingleBitError region => upTo 10 region
  | .eccDoubleBitError w => w.wf
  | .fabricClockDeparture => true
  | .fabricClockReturn => true
  | .synthLockLost => true
  | .synthLockReturn => true
  | .fabricBufferExpiry e => engineNo e
  | .powerCycle t => inU 32 t
  | .keepAliveLost => true
  | .bankCharge30vTo40v t => inU 32 t
  | .recoveryButtonPress => true
  | .sessionOpen f kind timeout => f.wf && inU 8 kind && inU 16 timeout
  | .sessionClose f => f.wf
  | .wicketOpen f seq => f.wf && inU 16 seq
  | .wicketClose f => f.wf
  | .noop f => f.wf
  | .cancel f wicket seq => f.wf && inU 8 wicket && inU 16 seq
  | .slipFetch f first count => f.wf && inU 32 first && inU 16 count
  | .slipAck f seq => f.wf && inU 32 seq
  | .sessionTimeout i => upTo 4 i
  | .slipBatchDue => true
  | .deferLimitExpiry i wicket => (upTo 4 i && upTo 16 wicket) || (decide (i = 0xFF) && decide (wicket = 0xFF))
  | .paramWrite f count l => f.wf && inU 16 count && entryList l
  | .sweepPhaseWrite f n ty v => f.wf && linkNo n && inU 8 ty && inU 64 v
  | .loopEnableWrite f k _ ty v => f.wf && upTo 16 k && inU 8 ty && inU 64 v
  | .receiptStickyWrite f ty v => f.wf && inU 8 ty && inU 64 v
  | .replanRequestWrite f ty v => f.wf && inU 8 ty && inU 64 v
  | .breakpointWrite f i ty v => f.wf && upTo 4 i && inU 8 ty && inU 64 v
  | .settingsBurstTimer => true
  | .settingsCommit f => f.wf
  | .settingsDiscard f => f.wf
  | .sealedSetWrite f crc count l => f.wf && inU 32 crc && inU 16 count && entryList l
  | .sealedSetConfirm f crc => f.wf && inU 32 crc
  | .sealedSetPendingExpiry => true
  | .vaultWriteStart => true
  | .vaultEraseComplete => true
  | .vaultPageProgrammed => true
  | .vaultReadbackComplete x => inU 32 x.read && inU 32 x.source
  | .vaultSealComplete => true
  | .vaultEnergyRetest => true
  | .vaultRefusalTimeout => true
  | .vaultRefreshDue => true
  | .dieCoolVaultResume => true
  | .leaseAcquire f kind length digest => f.wf && inU 8 kind && inU 32 length && inU 384 digest
  | .leaseRelease f => f.wf
  | .imageChunk f offset length data => f.wf && inU 32 offset && inU 16 length && byteList 65536 data
  | .imageFinish f check => f.wf && check.wf
  | .issueTrial f target number => f.wf && inU 8 target && inU 16 number
  | .issueConfirm f target => f.wf && inU 8 target
  | .issueReject f target => f.wf && inU 8 target
  | .anchorWrite f idx action length data _ => f.wf && inU 8 idx && inU 8 action && inU 16 length && byteList 65536 data
  | .leaseExpiry => true
  | .trialWindowExpiry => true
  | .echoReply n hop x rtt => linkNo n && x.wf && hopNo hop && inU 32 rtt
  | .setTimingReply n hop x delay slot => linkNo n && x.wf && hopNo hop && inU 16 delay && inU 8 slot
  | .owdRemeasureTimer n => linkNo n
  | .readConfigReply n hop x first regs => linkNo n && x.wf && hopNo hop && inU 8 first && regList regs
  | .writeConfigReply n hop x first regs => linkNo n && x.wf && hopNo hop && inU 8 first && regList regs
  | .registerReadbackTimer n p => linkNo n && upTo 2 p
  | .identifyReply n hop x f => linkNo n && x.wf && hopNo hop && f.wf
  | .enumerateReply n hop x f => linkNo n && x.wf && hopNo hop && f.wf
  | .enumerationWindowEnd n => linkNo n
  | .linkReplyTimeout n => linkNo n
  | .linkSilenceTimeout n => linkNo n
  | .wakeIdentifyTimeout n => linkNo n
  | .listenerSilenceTimeout n => linkNo n
  | .foreignCommandHeard c => linkNo c.link && c.head.wf && hopNo c.hop && inU 8 c.opcode && octets c.payload
  | .toneDisagreeTimeout n => linkNo n
  | .balanceReply n hop x back status => linkNo n && x.wf && inU 8 back.flags && hopNo hop && ampList back.applied && inU 16 status
  | .balanceRefreshDue n p => linkNo n && upTo 2 p
  | .balanceTargetRecompute => true
  | .balanceTest f b t => f.wf && inU 16 b && inI 32 t
  | .openWireRoundDue n => linkNo n
  | .stackCheckCountReached n p => linkNo n && upTo 2 p
  | .openWireReply n hop x line state => linkNo n && x.wf && hopNo hop && upTo 13 line && inU 8 state
  | .alarmClearReply n hop x status => linkNo n && x.wf && hopNo hop && inU 16 status
  | .sampleReply r => r.wf
  | .alarmTonePresent n => linkNo n
  | .alarmToneAbsent n => linkNo n
  | .heardCommandFrame n hop opcode x payload => linkNo n && x.wf && hopNo hop && inU 8 opcode && octets payload
  | .learnedPeriodExpiry => true
  | .writeHoldoffExpiry => true
  | .fullAnchor b => brickNo b
  | .emptyAnchor b => brickNo b
  | .restHoldReached r => upTo 8 r
  | .restTimeReached r => upTo 8 r
  | .directionSet r _ => upTo 8 r
  | .driftTimeout b _ => brickNo b
  | .hallMismatchTimeout r => upTo 8 r
  | .warningEvaluation => true
  | .checkpointDue => true
  | .loopTick x => x.wf
  | .fallbackExitTimer r => upTo 8 r
  | .countSourceLoss r _ => upTo 8 r
  | .countSourceRestore r => upTo 8 r
  | .trimStatusFrame r x => upTo 8 r && x.wf
  | .trimStatusTimeout r => upTo 8 r
  | .trimMismatchTimeout r => upTo 8 r
  | .outputLimitTimeout k => upTo 8 k
  | .trimCurrentMismatchTimeout r => upTo 8 r
  | .auxLoopRun => true
  | .loopFlagsClear f mask => f.wf && inU 16 mask
  | .loopTest fr k point kind _ _ => fr.wf && inU 8 k && inU 8 point && inU 8 kind
  | .loopTestCaptureComplete => true
  | .captureRead f number first count => f.wf && inU 32 number && inU 32 first && inU 16 count
  | .surveyStart f r => f.wf && inU 8 r
  | .surveyAbort f r => f.wf && inU 8 r
  | .surveyResult f r first count => f.wf && inU 8 r && inU 16 first && inU 16 count
  | .surveyWindowOpen => true
  | .surveyRetryTimer => true
  | .surveyWindowClose => true
  | .surveyT0 => true
  | .surveyT0Timeout => true
  | .surveyPeriodEnd => true
  | .surveyRampEnd => true
  | .surveyFitComplete => true
  | .surveyFetchReply n hop x block sweep samples => linkNo n && x.wf && hopNo hop && inU 8 block && inU 16 sweep && wordList samples
  | .brickThermalEvaluation => true
  | .fastRateReturnTimer k => upTo 1024 k
  | .guardThermalEvaluation => true
  | .thermistorFailedTimeout k => upTo 1024 k
  | .packThermistorGraceExpiry n => linkNo n
  | .thsSourceInvalidTimeout i => upTo 32 i
  | .tripRequest => true
  | .armRequest mask => inU 20 mask
  | .disarmRequest => true
  | .safeInputChange k _ ch1 ch2 => upTo 8 k && inI 32 ch1 && inI 32 ch2
  | .discrepancyTimeout k _ => upTo 8 k
  | .autoResetTimeout k _ => upTo 8 k
  | .safetyDisagreeTimeout k => upTo 8 k
  | .hallThresholdCrossed r _ before now => upTo 8 r && inI 32 before && inI 32 now
  | .offPulseStart j => upTo 40 j
  | .pulsePermit p => upTo 20 p
  | .offPulseOffCheck mv => inI 32 mv
  | .offPulseRestore => true
  | .offPulseOnCheck mv => inI 32 mv
  | .readbackDisagreeCount p _ => upTo 20 p
  | .pairOffsetMeasure => true
  | .economyChopStart p => upTo 20 p
  | .closeSequenceStep => true
  | .prechargeReached => true
  | .prechargeTimeout => true
  | .openWaitEnd => true
  | .controlledOpeningStep => true
  | .standbyFollowTimeout p => upTo 20 p
  | .programCloseRequest => true
  | .programStopRequest => true
  | .railConnect r => upTo 8 r
  | .railDisconnect r => upTo 8 r
  | .close f => f.wf
  | .stop f => f.wf
  | .trip f => f.wf
  | .faultAck f source => f.wf && inU 16 source
  | .brokenSignal source item => inU 16 source && inU 32 item
  | .signalIntegrityRestored source item => inU 16 source && inU 32 item
  | .dormantIdleExpiry => true
  | .dormantHandover => true
  | .nightSafeSample x => x.wf
  | .nightSafeCount hall => hallList hall
  | .housekeepingTimer => true
  | .canWakeUpPattern b => upTo 2 b
  | .housekeepingStayExpiry => true
  | .holdTimeout => true
  | .modeRequest f target => f.wf && inU 8 target
  | .restart f kind => f.wf && inU 8 kind
  | .pendingRestartBegin => true
  | .strapPoll pins => pins.wf
  | .canTxComplete x => upTo 2 x.bus && inU 32 x.delay
  | .canTxAttemptFailed b _ => upTo 2 b
  | .canBusOff b => upTo 2 b
  | .canBusOffRecovery b => upTo 2 b
  | .auxBootup node => nodeNo node
  | .auxHeartbeat node nmt => nodeNo node && inU 8 nmt
  | .auxHeartbeatLoss st => upTo 16 st
  | .heartbeatProduceDue => true
  | .sdoResponse b node d => upTo 2 b && nodeNo node && sdoData d
  | .sdoTimeout b => upTo 2 b
  | .rxPdo id data => inU 11 id && byteList 8 data
  | .txPdoRefreshDue id => inU 11 id
  | .programCanReceive b x => upTo 2 b && x.wf
  | .sectionOrder f order value ack => f.wf && inU 8 order && inI 32 value && inU 32 ack
  | .masterStreamFrame f master position reserved => f.wf && inI 32 master && inU 16 position && inU 16 reserved
  | .orderTimeout => true
  | .streamTimeout => true
  | .converterStatusFrame crc count convState dis chg => inU 16 crc && inU 8 count && inU 8 convState && inU 16 dis && inU 16 chg
  | .converterStatusTimeout => true
  | .noticeRepeatDue number => inU 32 number
  | .statementDue => true
  | .stopRampComplete => true
  | .standingMessageDue => true
  | .ruling f ruling active => f.wf && inU 8 ruling && inU 8 active
  | .partnerStandingMessage f payload => f.wf && decide (payload.length < 65536)
  | .mirrorFragment x => x.wf
  | .twinRequestStraps str pos variant => upTo 32 str && upTo 2 pos && inU 8 variant
  | .twinRequestEnumerate n => linkNo n
  | .twinRequestIdentify l => linkList l
  | .twinRequestOffset rx => inU 80 rx
  | .twinRequestChargeTotal r b1 b2 => upTo 8 r && inU 64 b1 && inU 64 b2
  | .twinRequestImage kind => inU 8 kind
  | .twinRequestSettings => true
  | .twinReply r => r.wf
  | .twinLinkUp => true
  | .partnerSilent => true
  | .twinLinkDownTimeout _ => true
  | .roleTakeTimeout => true
  | .orphanTimeout => true
  | .reconcileRoundDue => true
  | .ptpSync h _ rx origin corr => h.wf && inU 80 rx && inU 80 origin && inI 64 corr
  | .ptpFollowUp h origin corr => h.wf && inU 80 origin && inI 64 corr
  | .ptpAnnounce h a => h.wf && a.wf
  | .ptpAnnounceTimeout i => upTo 2 i
  | .ptpPdelayReq h rx => h.wf && inU 80 rx
  | .ptpPdelayResp h t2 rx => h.wf && inU 80 t2 && inU 80 rx
  | .ptpPdelayRespFollowUp h t3 corr => h.wf && inU 80 t3 && inI 64 corr
  | .ptpPdelayReqDue i => upTo 2 i
  | .ptpMasterSendDue i => upTo 2 i
  | .gmQualifyComplete => true
  | .leapSecond => true
  | .nightSafeTimeCopy => true
  | .prpSupervisionDue => true
  | .prpSupervisionFrame x => x.wf
  | .prpSupervisionTimeout i => upTo 2 i
  | .portLinkChange i _ _ => upTo 3 i
  | .arpRequest x addr => x.wf && inU 32 addr
  | .icmpEchoRequest x addr sender => x.wf && inU 32 addr && inU 32 sender
  | .gratuitousArpRepeat => true
  | .receiptStamp q tag stamp => upTo 3 q && inU 16 tag && inU 80 stamp
  | .paramRead f count l => f.wf && inU 16 count && indexList l
  | .brickRead f first count mask => f.wf && inU 16 first && inU 16 count && inU 32 mask
  | .snapshotReleaseTimer i => upTo 4 i
  | .programStatus f => f.wf
  | .timeRead f => f.wf
  | .programControl f action => f.wf && inU 8 action
  | .programCycleStart => true
  | .programExecutionEnd o => o.wf
  | .programDeadlineOverrun => true
  | .programBreakpointHit i => upTo 4 i
  | .programRuntimeError offset => inU 32 offset
  | .exchangePrepared => true
  | .ledgerSecond => true
  | .closeOfBooks => true
  | .daybookExport f first count => f.wf && inU 32 first && inU 16 count
  | .ledgerExport f region count first => f.wf && inU 8 region && inU 16 count && inU 32 first
  | .budgetPeriodStart m => m.wf
  | .allowanceSpent e => engineNo e
  | .thriftSupplyTimer _ => true
  | .ringOscillatorMeasure counts => fourCounts counts
  | .flashMarginTest errors => inU 32 errors
  | .holdupBankTestStart => true
  | .holdupBankTestEnd us => inU 32 us
  | .tcxoDaily => true
  | .replanPeriodExpiry => true
  | .replan => true
  | .mainPowerGood x => x.wf
  | .warmRestart x => x.wf
  | .coldRestart x => x.wf
  | .bootComplete => true
  | .bootStepFailed n => stepNo n
  | .bootRetryTimer => true
  | .settleCountComplete => true
  | .settleTimeout => true
  | .engineResetReturn e => engineNo e
  | .sweepEpoch x => x.wf
  | .tallyPublish c => upTo 2 c
  | .tallyLate c => upTo 2 c
  | .deferredRequestServe => true

/-- The well-formed commands: every operand in its range, and those of a request as its frame spells them. -/
def WellFormed (i : Instr) : Bool := operandsRanged i && operandsSpelt i

end Sys2Proof
end

