-- ==== Sys2Proof/Safety.lean ====
section
/-! DEFINITION. The terms that claims are stated in: what a command answers, which parts of the state its reports and the
action of a fault's grade may touch, which requests are served at once, and what a safe state is. -/

namespace Sys2Proof.Machine

open Sys2Proof

/-- The command answers a next state of which `P` holds. -/
def Gives (c : Instr) (s : State) (P : State → Prop) : Prop := ∃ t, exec c s = .next t ∧ P t

/-- The state without its reports: frames sent, the fault collector, Daybook and live Ledger values, slips, notices. Two states
that agree here differ in nothing that a report of a fault, a mode or a role leaves elsewhere (R149, R366, R454, R576). -/
def State.unreported (s : State) : State := { s with
  out := [], flt := {}
  recs := { s.recs with day := [], next := 0, raises := [], live := [], adds := [] }
  wk := { s.wk with slots := [] }
  sec := { s.sec with notices := [], nextNotice := 0 } }

/-- The state without its reports and without the parts that the action of a grade (R454) may change: the safety functions and
the set-point (a stop, a trip), mode, program, Vault, update and ageing (a lockout). -/
def State.unacted (s : State) : State := { s with
  out := [], flt := {}, recs := {}, wk := {}, sec := {}, saf := {}, prof := {}, modes := {}, vault := {}, therm := {}, upd := {}
  age := {}, prg := {} }

/-- A fault of this source is present with this item. -/
def State.present (s : State) (source item : Nat) : Prop := (s.instOf source item).isSome = true

/-- The module's own signals of a source are whole, so that it raises and clears (R453). -/
def State.whole (s : State) (source item : Nat) : Prop := s.flt.broken.contains (source, item) = false

/-! ### Requests that are served at once -/

/-- The wicket a frame names, as its session holds it. -/
def State.wicketOf (s : State) (f : Frame) : WicketSt :=
  match s.sessionOf f with | some x => x.wickets.get f.wicket | none => {}

/-- No restart, commit or seal stands in the way, no earlier request of the class waits, and class, budget and engine let the request be
served at once (R136, R140 to R143). -/
def State.freeNow (s : State) (f : Frame) (c : Cmd) : Bool :=
  !s.blocked &&
    (decide (f.priority = 0 ∨ c.cls = 0) ||
      (decide (s.trs.state ≠ 2) && !(decide (s.trs.state = 1) && decide (3 ≤ f.priority)) &&
        !(decide (2 ≤ f.priority) && (s.trs.engines.get c.engine).spent) && !s.deferredBefore f && !s.boundaryBefore f c &&
        !(s.arch.engines.get c.engine).inReset))

/-- The frame arrives whole: it is heard, and steps 1 to 3 of R129 find nothing. -/
def State.arrives (s : State) (f : Frame) : Bool :=
  s.hears f && decide (28 ≤ f.bytes) && f.head && f.crcOk && decide (f.length ≤ 1024) && decide (f.length = f.bytes - 28)

/-- The request passes every check of R129 to R143 but that of its payload, with a SEQ its wicket has not seen, in a mode that
serves it: it is served at once. -/
def State.takes (s : State) (f : Frame) (c : Cmd) (also : Bool := false) (opens : Bool := false) (inM2 : Bool := false) : Bool :=
  let t := s.touch f
  s.arrives f && (t.frameRefused f c opens inM2).isNone && (t.wicketOf f).inProgress.isNone
    && !((t.wicketOf f).isOpen && decide ((t.wicketOf f).lastSeq = f.seq))
    && s.freeNow f c && (c.kind.served s.modes.mode || also)

/-- The state in which a request taken is served: its session touched, its SEQ in progress, nothing sent yet. -/
def State.taken (s : State) (f : Frame) (c : Cmd) : State :=
  (({ s with out := [] } : State).touch f).modWicket f fun w => { w with inProgress := some f.seq, curCode := c.code, curCls := f.priority }

/-- The frames with an RCT that an answer to `f` puts on the uplinks: none on the service port, none to an address that cannot be
reached (R126, R500, R503). -/
def State.replyRct (s : State) (f : Frame) : Nat := if f.via ≠ 2 ∧ s.reaches f.src = true then 1 else 0

/-- A request served at once: `g` is carried out where the request is taken, and `r` is its final reply. -/
def State.served (s : State) (f : Frame) (c : Cmd) (r : Reply) (g : State → State := id) : State := (g (s.taken f c)).complete f c r

/-! ### Uplinks -/

/-- A PTP message is taken from its port (R511). -/
def State.takesPtp (s : State) (h : PtpHead) : Bool :=
  s.ptpUp && decide (h.port < 2) && bitOf s.net.links h.port && decide (h.domain = s.nat P.ptpDomain)

/-- A frame of the port is heard under PRP: no foreign VLAN (R499). -/
def State.hearsFrame (s : State) (x : UplinkFrame) : Bool :=
  s.netUp && decide (x.port < 2) && bitOf s.net.links x.port && decide (x.vlan = 0)

/-- A first copy with this source and sequence number came within the time it is held (R501). -/
def State.hasCopy (s : State) (mac q : Nat) : Bool :=
  (s.net.seen.filter fun e => decide (s.time.ns ≤ e.2.2.2 + s.nat P.netPrpForget * 1000000)).any fun e =>
    decide (e.1 = mac) && decide (e.2.1 = q)

/-- A frame is heard and is no second copy: it carries no RCT, or no first copy of it is held (R501). -/
def State.acceptsFrame (s : State) (x : UplinkFrame) : Bool :=
  s.hearsFrame x && match x.rct with
    | some (q, _) => !s.hasCopy x.mac q
    | none => true

/-- Between `s` and `t` the module has sent `n` frames with an RCT: each took the next sequence number, and nothing else of the
uplinks has changed (R500). -/
def State.sentRct (s t : State) (n : Nat) : Prop :=
  t.net = { s.net with rctSeq := t.net.rctSeq } ∧ (s.net.rctSeq < 2 ^ 16 → t.net.rctSeq = (s.net.rctSeq + n) % 2 ^ 16)

/-! ### Pack links -/

/-- A frame that R199 accepts, with HOP `hop` from the monitor at position `p`, answers the exchange of this opcode that the module
has sent on link `n` (R196, R200, R201, R206). -/
def State.replies (s : State) (n hop opcode : Nat) (x : LineHead) (payload : List Byte) (p : Nat) : Bool :=
  s.linkHears n && x.accepts 1 hop opcode payload && decide (s.posOf n hop = some p) && decide (p < 2)
    && (s.answered n hop opcode x.tag).isSome

/-- A command frame of the other end reaches link `n` whole (R199, R203). -/
def State.hearsCommand (s : State) (n hop opcode : Nat) (x : LineHead) (payload : List Nat) : Bool :=
  s.linkHears n && x.accepts 0 hop opcode (payload.flatMap (leBytes 1))

/-- A monitor after a reply of it has been heard (R225, R229). -/
def State.heard (s : State) (m : Monitor) : Monitor :=
  { m with lastReply := s.time.ns, asleep := false, wokeAt := if m.asleep then some s.time.ns else m.wokeAt }

/-- Nothing but link `n`, and what is sent on it, may differ between `s` and `t`. -/
def State.linkOnly (s t : State) (n : Nat) : Prop :=
  t = { s with links := t.links, out := t.out } ∧ ∀ m, m ≠ n → t.links.get m = s.links.get m

/-- Of link `n` only its monitors, its command window (the exchange sent, those that wait, the time left, the next TAG, the sweep in
which OPEN_WIRE went out) and the stamps of the reply heard may differ. -/
def State.windowOnly (s t : State) (n : Nat) : Prop :=
  let l := t.links.get n
  s.linkOnly t n ∧ l = { s.links.get n with
    mons := l.mons, outstanding := l.outstanding, queue := l.queue, winAt := l.winAt, lastFrame := l.lastFrame, exchanges := l.exchanges
    owTest := l.owTest, heardCmd := l.heardCmd, mark := l.mark, replyMarks := l.replyMarks }

/-! ### Orders -/

/-- A whole section frame of a kind, meant for this module and of its epoch or a later one, reaches a module that hears its uplinks
(R362 to R364). -/
def State.takesSection (s : State) (kind : Nat) (f : SectionFrame) (payload : List Byte) : Bool :=
  s.netUp && s.hearsSection kind f && f.accepts kind payload && (decide (f.str = s.stringNo) || (decide (kind = 2) && decide (f.str = 0xFF)))
    && decide (s.sec.epoch ≤ f.epoch)

/-! ### The program -/

/-- A cycle start of the program: a sweep epoch whose counter is a multiple of the cycle in force, with the Program core at work (R547). -/
def State.cycleDue (s : State) : Bool :=
  (s.modes.mode.runs || decide (s.modes.mode = .m7)) && !(s.arch.engines.get 6).inReset && !s.power.mainHeld && s.power.mainUp
    && decide (s.prg.period ≠ 0) && decide (s.time.sweep % s.prg.period = 0)

/-! ### Starts -/

/-- What every start of the main domain leaves (R62, R100 to R104): the domain runs with the straps read, the start is counted, no
restart is pending, no session is open, the program stands in stop, and no P-switch is commanded. -/
def State.started (s t : State) (x : StartInputs) : Prop :=
  t.power.mainUp = true ∧ t.power.mainHeld = false ∧ t.power.straps = x.straps ∧ t.modes.restartPending = none ∧
  t.modes.startCount = satU 32 (s.modes.startCount + 1) ∧ (∀ i, i < 4 → (t.slot i).session = none) ∧ t.prg.state = 0 ∧
  t.saf.coil = 0 ∧ t.saf.keep = 0 ∧ t.night.inCharge = false

/-! ### Safe states -/

/-- No coil path of the module is closed or held: every P-switch coil, keep signal and H-switch is off (R410). -/
def State.allOpen (s : State) : Prop := s.saf.coil = 0 ∧ s.saf.keep = 0 ∧ s.saf.hClosed = 0

/-- The two lockout latches agree: they are set together and cleared together (R119, R121). -/
def State.latchesAgree (s : State) : Prop := s.modes.latchStrong = s.modes.latchNight

/-- The Vault's table of records is in canonical form. -/
def State.recordsWf (s : State) : Prop := s.vault.records.wf = true

/-- A step is safe when it answers a next state. -/
def State.runs (s : State) : Prop := ∃ t, step s = .next t

end Sys2Proof.Machine
end

