-- ==== Sys2Proof/Certificates/Slice0/Obligations.lean ====
section
/-! DEFINITION. The statements for the provers. -/

open Sys2Proof Sys2Proof.Machine

/-! ### The queue and the whole machine -/

/-- A step carries out the command at the front of the queue, with the rest of the queue as it stands; an empty queue idles
(the model's choice, log 70). -/
def Obligations.StepRunsFrontCommand : Prop :=
  (∀ (s : State) (c : Instr) (rest : List Instr), s.pending = c :: rest → step s = exec c { s with pending := rest }) ∧
  (∀ s : State, s.pending = [] → step s = .next s)

/-- Every well-formed command answers a next state, in every state. -/
def Obligations.WellFormedCommandsAnswer : Prop :=
  ∀ (c : Instr) (s : State), WellFormed c = true → ∃ t, exec c s = .next t

/-- Whatever a step does, it leaves the identity of the module alone and takes exactly one command off the queue. -/
def Obligations.StepKeepsIdentityAndQueue : Prop :=
  ∀ s t : State, step s = .next t → t.ident = s.ident ∧ t.pending = s.pending.tail

/-- The two lockout latches are set together and cleared together, so every step keeps them equal (R119, R121). -/
def Obligations.StepKeepsLatchesAgreeing : Prop :=
  ∀ s t : State, s.latchesAgree → step s = .next t → t.latchesAgree

/-- Every step keeps the table of sealed Vault records in canonical form. -/
def Obligations.StepKeepsVaultCanonical : Prop :=
  ∀ s t : State, s.recordsWf → step s = .next t → t.recordsWf

/-- After reset the latches agree and are clear, the Vault's table is canonical, no command waits, no coil path is closed, no
role is held and no fault is present. -/
def Obligations.ResetStands : Prop :=
  State.reset.latchesAgree ∧ State.reset.modes.latchStrong = false ∧ State.reset.recordsWf ∧ State.reset.pending = [] ∧
  State.reset.allOpen ∧ State.reset.twin.role = .none ∧ State.reset.flt.present = []

/-! ### Wickets -/

/-- A final reply goes out, where its address can be reached, with the serving engine's epoch, and is kept with its wicket, whose last
SEQ becomes that of the request (R131, R503); nothing but host slots and what is sent changes. -/
def Obligations.FinalReplyIsSentAndStored : Prop :=
  ∀ (s : State) (f : Frame) (c : Cmd) (r : Reply) (x : Session),
    c.code ≠ 1 → (s.slot f.host).session = some x → x.token = f.session → (x.wickets.get f.wicket).isOpen = true →
    (s.complete f c r).out = s.out ++ (if f.via = 2 ∨ s.reaches f.src = true then [.wicketReply f c.code (s.stamp c.engine r)] else []) ∧
    ((s.complete f c r).wicketOf f).lastSeq = f.seq ∧
    ((s.complete f c r).wicketOf f).stored = some (s.stamp c.engine r) ∧
    ((s.complete f c r).wicketOf f).inProgress = none ∧
    s.sentRct (s.complete f c r) (s.replyRct f) ∧
    (s.complete f c r).unreported = { s.unreported with net := (s.complete f c r).net }

/-- NOOP, TIME_READ, PROGRAM_STATUS and SLIP_FETCH, taken with a payload of their length, answer a next state that holds their final
reply and differs in nothing else. PARAM_READ waits for the next sweep boundary, where one reply carries every entry asked for, all
read from the state of that boundary (R168). -/
def Obligations.StatusReadsComplete : Prop :=
  (∀ (s : State) (f : Frame), s.takes f cmdNoop (inM2 := true) = true → f.length = 0 →
    exec (.noop f) s = .next (s.served f cmdNoop
      (done [(1, s.modes.mode.num), (1, s.trs.state), (2, 0), (4, ((s.taken f cmdNoop).slot f.host).nextSeq)]))) ∧
  (∀ (s : State) (f : Frame), s.takes f cmdTimeRead = true → f.length = 0 →
    exec (.timeRead f) s = .next (s.served f cmdTimeRead
      (done [(6, s.time.ns / 1000000000), (4, s.time.ns % 1000000000), (4, s.time.ns % 2 ^ 32),
        (1, if s.time.state = 1 then 1 else 0), (1, 0)]))) ∧
  (∀ (s : State) (f : Frame), s.takes f cmdProgramStatus = true → f.length = 0 →
    exec (.programStatus f) s = .next (s.served f cmdProgramStatus
      (done [(1, s.prg.state), (1, 0), (2, min s.prg.overruns 65535), (4, s.prg.cycles)]))) ∧
  (∀ (s : State) (f : Frame) (l : List Nat), s.takes f cmdParamRead = true → 1 ≤ l.length → l.length ≤ 80 →
    f.length = 4 + 2 * l.length →
    exec (.paramRead f l.length l) s = .next ((s.taken f cmdParamRead).modWk fun w =>
      { w with writes := w.writes ++ [{ frame := f, code := 0x0101, reads := l }] })) ∧
  (∀ (s : State) (f : Frame) (first count : Nat), s.takes f cmdSlipFetch = true → 1 ≤ count → count ≤ 31 → f.length = 6 →
    ∃ l : List Slip, l.length ≤ count ∧ (∀ x ∈ l, x ∈ ((s.taken f cmdSlipFetch).slot f.host).queue) ∧
      exec (.slipFetch f first count) s = .next (s.served f cmdSlipFetch
      (done ([(4, ((s.taken f cmdSlipFetch).slot f.host).oldest), (2, l.length), (2, 0)] ++ l.flatMap Slip.fields)))) ∧
  (∀ (s : State) (f : Frame) (l : List Nat), s.wk.writes = [{ frame := f, code := 0x0101, reads := l }] → l ≠ [] →
    let t := s.modWk fun w => { w with writes := [] }
    s.applyWrites = t.complete f cmdParamRead (done ([(2, l.length), (2, 0)] ++ l.flatMap t.readEntry)))

/-- BRICK_READ, CAPTURE_READ, SURVEY_RESULT, DAYBOOK_EXPORT and LEDGER_EXPORT, taken with a payload of their length and operands in
range, answer a next state with their final DONE reply: the rows of the newest whole sweep, or of the snapshot of the slot; the samples
held of the capture named; the survey records of the bricks named; the entries held from the number on; the records from the first on,
live or sealed; with MORE set where more follow (R188 to R190, R322, R352, R582, R591). BRICK_READ keeps the snapshot of its slot when
bit 31 of the mask asks for it and releases it else; nothing else changes. -/
def Obligations.DataReadsComplete : Prop :=
  (∀ (s : State) (f : Frame) (first count mask : Nat), s.takes f cmdBrickRead = true → f.length = 8 → first ≤ 3071 → 1 ≤ count →
    count ≤ 3072 - first → mask % 2 ^ 24 ≠ 0 → mask / 2 ^ 24 % 2 ^ 7 = 0 →
    count * ((List.range 24).filter fun k => mask.testBit k).foldl (fun n k => n + rowBytes.getD k 2) 0 ≤ 1016 →
    let view := match mask.testBit 31, (s.slot f.host).snapshot with
      | true, some x => x
      | _, _ => (s.arch.readSweep, s.readRows)
    exec (.brickRead f first count mask) s = .next (s.served f cmdBrickRead
      (done ([(4, view.1), (2, first), (2, count)] ++ (List.range count).flatMap fun j => s.rowOf view.2 (first + j) mask))
      fun t => t.modSlot f.host fun h => { h with snapshot := if mask.testBit 31 then some view else none })) ∧
  (∀ (s : State) (f : Frame) (number first count : Nat), s.takes f cmdCaptureRead = true → f.length = 10 → 1 ≤ count → count ≤ 63 →
    number ≠ 0 → number = s.steer.captureNumber → first ≤ 65535 →
    let l := (s.steer.samples.reverse.drop first).take count
    exec (.captureRead f number first count) s = .next (s.served f cmdCaptureRead { done ([(4, first), (2, l.length), (2, 0)] ++
        l.flatMap fun x => [(4, x.1.toNat), (4, x.2.1.toNat), (4, x.2.2.1.toNat), (4, x.2.2.2.toNat)]) with
      flags := if first + l.length < s.steer.sampleCount ∨ s.steer.tuneState = 1 then 4 else 0 })) ∧
  (∀ (s : State) (f : Frame) (r first count : Nat), s.takes f cmdSurveyResult = true → f.length = 6 → 1 ≤ count → count ≤ 42 →
    hasIsu s.ident.variant = true → r < 8 →
    (∀ b, first ≤ b → b < first + count → s.brickUsed b = true ∧ s.railOf (b / 24) = some r) →
    exec (.surveyResult f r first count) s = .next (s.served f cmdSurveyResult
      (match s.survey.records.find? fun x => decide (x.1 = r) with
        | none => done [(4, 0), (2, 0), (2, 0)]
        | some x =>
          let l := x.2.2.filter fun y => decide (first ≤ y.brick ∧ y.brick < first + count)
          done ([(4, x.2.1), (2, l.length), (2, 0)] ++ l.flatMap SurveyRecord.bytes)))) ∧
  (∀ (s : State) (f : Frame) (first count : Nat), s.takes f cmdDaybookExport = true → f.length = 6 → 1 ≤ count → count ≤ 63 →
    let back := (s.recs.next + 2 ^ 32 - first % 2 ^ 32) % 2 ^ 32
    let n := min back s.recs.day.length
    let l := (s.recs.day.take n).reverse.take count
    exec (.daybookExport f first count) s = .next (s.served f cmdDaybookExport
      (if back = 0 ∨ 2 ^ 31 ≤ back then done [(4, first), (2, 0), (2, 0)]
       else { done ([(4, (s.recs.next + 2 ^ 32 - n) % 2 ^ 32), (2, l.length), (2, 0)] ++ l.flatMap DayEntry.fields) with
         flags := if l.length < n then 4 else 0 }))) ∧
  (∀ (s : State) (f : Frame) (r count first : Nat), s.takes f cmdLedgerExport = true → f.length = 8 → r ≤ 3 →
    first < (ledSize r).1 → 1 ≤ count → count ≤ (ledSize r).2 →
    let n := min count ((ledSize r).1 - first)
    exec (.ledgerExport f (128 + r) count first) s = .next (s.served f cmdLedgerExport
      { done ([(4, first), (2, n), (2, 0)] ++ (List.range n).flatMap fun j =>
          s.ledRecord s.recs.liveAt r (first + j) s.sec32 s.recs.since s.recs.gap true) with
        flags := if first + n < (ledSize r).1 then 4 else 0 })) ∧
  (∀ (s : State) (f : Frame) (r count first : Nat), s.takes f cmdLedgerExport = true → f.length = 8 → r ≤ 3 →
    first < (ledSize r).1 → 1 ≤ count → count ≤ (ledSize r).2 →
    let n := min count ((ledSize r).1 - first)
    exec (.ledgerExport f r count first) s = .next (s.served f cmdLedgerExport
      (match s.sealedLedger with
        | none => done [(4, first), (2, 0), (2, 0)]
        | some g => { done ([(4, first), (2, n), (2, 0)] ++ (List.range n).flatMap fun j =>
            s.ledRecord g.records r (first + j) (g.stamp / 1000000000) g.since g.gap false) with
          flags := if first + n < (ledSize r).1 then 4 else 0 })))

/-- SESSION_OPEN of an address that can be reached, in a mode that serves it, opens a session on a slot with the timeout asked for (one
still open there closes, log 184) and answers on that address; the module keeps everything but its slots, its Daybook and the free value it draws its token from. -/
def Obligations.SessionOpenCompletes : Prop :=
  ∀ (s : State) (f : Frame) (kind timeout i : Nat),
    s.arrives f = true → s.tlsOk f = true → s.freeNow f cmdSessionOpen = true → s.modes.mode ≠ .m0 → s.modes.mode ≠ .m2 →
    f.length = 4 → f.session = 0 → f.host = 0xFF → f.wicket = 0xFF → f.via ≠ 2 → s.reaches f.src = true → 1 ≤ f.priority → f.priority ≤ 4 →
    kind ≤ 1 → timeout = 0 ∨ 2 ≤ timeout ∧ timeout ≤ 300 →
    (s.touch f).slotFor f.src = some i → (kind = 1 → s.controlAllowed f.src = true ∧ (s.touch f).controlHeld = none) →
    ∃ t x, exec (.sessionOpen f kind timeout) s = .next t ∧ (t.slot i).session = some x ∧ (t.slot i).addr = some f.src ∧
      x.control = decide (kind = 1) ∧ x.timeout = (if timeout = 0 then s.nat P.wktSessionTimeout else timeout) ∧
      x.wickets = [] ∧ (∃ r, t.out = [.wicketReply f 0x0001 r] ∧ r.outcome = 0) ∧
      t.modes = s.modes ∧ t.par = s.par ∧ t.flt = s.flt ∧ t.saf = s.saf ∧ t.vault = s.vault ∧ t.upd = s.upd

/-- SESSION_CLOSE and SESSION_TIMEOUT close the session and release its snapshot; WICKET_OPEN opens the wicket with the SEQ it
carries as the last completed one; WICKET_CLOSE closes it. -/
def Obligations.SessionsAndWicketsClose : Prop :=
  (∀ (s : State) (f : Frame), s.takes f cmdSessionClose (inM2 := true) = true → f.length = 0 →
    Gives (.sessionClose f) s fun t => (t.slot f.host).session = none ∧ (t.slot f.host).snapshot = none ∧
      t.saf = s.saf ∧ t.modes = s.modes ∧ t.par = s.par) ∧
  (∀ (s : State) (i : Nat) (x : Session), (s.slot i).session = some x →
    Gives (.sessionTimeout i) s fun t => (t.slot i).session = none ∧ (t.slot i).snapshot = none ∧
      (∀ j, j ≠ i → t.slot j = s.slot j) ∧ t.saf = s.saf ∧ t.modes = s.modes ∧ t.par = s.par) ∧
  (∀ (s : State) (f : Frame) (seq : Nat), s.takes f cmdWicketOpen (opens := true) (inM2 := true) = true → f.length = 2 →
    Gives (.wicketOpen f seq) s fun t => (t.wicketOf f).isOpen = true ∧ (t.wicketOf f).lastSeq = seq ∧
      (t.wicketOf f).inProgress = none ∧ s.sentRct t (s.replyRct f) ∧
      t.unreported = { s.unreported with net := t.net }) ∧
  (∀ (s : State) (f : Frame) (x : Session), s.takes f cmdWicketClose (inM2 := true) = true → f.length = 0 →
    (s.slot f.host).session = some x →
    Gives (.wicketClose f) s fun t => t.wicketOf f = {} ∧ s.sentRct t (s.replyRct f) ∧
      t.unreported = { s.unreported with net := t.net })

/-- CANCEL takes the deferred request it names out of the queue; SLIP_ACK drops the slips up to the SEQ it names; a batch is sent
of each slot with unsent slips, to the address and port of its session; the foremost deferred request whose class may run is taken
out of the queue and carried out, a NOOP with its reply; one that has waited its limit completes with REFUSED_BUDGET and is counted; a
snapshot is released after its time (R141, R142, R147, R153, R190). -/
def Obligations.QueuedWicketWorkCompletes : Prop :=
  (∀ (s : State) (f : Frame) (w q : Nat) (d : Deferred), s.takes f cmdCancel = true → f.length = 4 →
    s.wk.deferred.find? (fun d => d.frame.session == f.session && d.frame.wicket == w && d.frame.seq == q) = some d →
    exec (.cancel f w q) s = .next (s.served f cmdCancel done fun t => (t.undefer d.frame).complete d.frame d.cmd (busy 6))) ∧
  (∀ (s : State) (f : Frame) (seq : Nat), s.takes f cmdSlipAck = true → f.length = 4 →
    exec (.slipAck f seq) s = .next (s.served f cmdSlipAck done fun t => t.modSlot f.host fun h => h.ack seq)) ∧
  (∀ (s : State), Gives .slipBatchDue s fun t =>
    t.unreported = { s.unreported with net := { s.net with rctSeq := t.net.rctSeq } } ∧ t.flt = s.flt ∧ t.recs = s.recs ∧
    ∀ i x, i < 4 → (s.slot i).session = some x → (s.slot i).batch ≠ [] → x.service = true ∨ s.reaches ((s.slot i).addr.getD 0) = true →
      .slips i ((s.slot i).addr.getD 0) (s.slot i).port x.token x.service
        (if s.twin.role = .standby ∨ s.twin.role = .coldStandby then 32 else 0) (s.slot i).batch ∈ t.out) ∧
  (∀ (s : State) (f : Frame), s.power.mainUp = true → s.power.mainHeld = false → s.trs.state = 0 →
    (s.trs.engines.get 1).spent = false → (s.arch.engines.get 1).inReset = false → s.modes.mode ≠ .m0 → s.blocked = false →
    s.wk.writes = [] →
    s.wk.deferred = [{ frame := f, code := 0x0005, cls := f.priority, req := .noop f }] →
    Gives .deferredRequestServe s fun t => t.wk.deferred = [] ∧
      t = ({ s with out := [], wk := { s.wk with deferred := [] } } : State).complete f cmdNoop
        (done [(1, s.modes.mode.num), (1, s.trs.state), (2, 0), (4, (s.slot f.host).nextSeq)])) ∧
  (∀ (s : State) (i w : Nat) (d : Deferred),
    s.wk.deferred.find? (fun d => d.frame.host == i && d.frame.wicket == w && decide (3 ≤ d.cls)) = some d →
    Gives (.deferLimitExpiry i w) s fun t => t.trs.refusals = min (s.trs.refusals + 1) (2 ^ 32 - 1) ∧
      t = (({ s with out := [] } : State).undefer d.frame).refuseBudget d.frame d.cmd 2) ∧
  (∀ (s : State) (i : Nat), i < 4 → exec (.snapshotReleaseTimer i) s =
    .next (({ s with out := [] } : State).modSlot i fun h => { h with snapshot := none })) ∧
  (∀ (s : State) (d : Deferred), s.power.mainUp = true → s.power.mainHeld = false → s.wk.deferred.find? s.mayRun = some d →
    s.blocked = false → s.boundaryBefore d.frame d.cmd = false → (s.arch.engines.get d.engine).inReset = false →
    exec .deferredRequestServe s = .next ((({ s with out := [] } : State).undefer d.frame).serveReq d.req)) ∧
  (∀ (s : State) (f : Frame) (w q : Nat), s.takes f cmdCancel = true → f.length = 4 →
    s.wk.deferred.find? (fun d => d.frame.session == f.session && d.frame.wicket == w && d.frame.seq == q) = none →
    exec (.cancel f w q) s = .next (s.served f cmdCancel done))

/-- A PARAM_WRITE whose entries pass the whole check is held for the next sweep boundary, with the values as they will be
applied; so is each one-entry write of the special rows, and nothing else changes. At the boundary a write that is held is in force,
and every other parameter keeps its value (R136, R155, R166). -/
def Obligations.ParameterWritesComplete : Prop :=
  let held := fun (t : State) (f : Frame) (x : List (Nat × Int)) =>
    t.modWk fun w => { w with writes := w.writes ++ [{ frame := f, code := 0x0102, entries := x }] }
  let one := fun (s : State) (f : Frame) (c : Instr) (i ty v : Nat) =>
    ∀ x, s.takes f cmdParamWrite = true → f.length = 16 →
      (s.taken f cmdParamWrite).writeCheck false 4 [{ index := i, ty := ty, value := v }] = .ok x →
      exec c s = .next (held (s.taken f cmdParamWrite) f x)
  (∀ (s : State) (f : Frame) (l : List ParamEntry) (x : List (Nat × Int)), s.takes f cmdParamWrite = true → 1 ≤ l.length →
    l.length ≤ 64 → f.length = 4 + 12 * l.length → (s.taken f cmdParamWrite).writeCheck false 4 l = .ok x →
    exec (.paramWrite f l.length l) s = .next (held (s.taken f cmdParamWrite) f x)) ∧
  (∀ (s : State) (f : Frame) (n ty v : Nat), one s f (.sweepPhaseWrite f n ty v) (P.lnkSweepPhase n) ty v) ∧
  (∀ (s : State) (f : Frame) (k ty v : Nat), one s f (.loopEnableWrite f k false ty v) (P.loopEnable k) ty v) ∧
  (∀ (s : State) (f : Frame) (k ty v : Nat), one s f (.loopEnableWrite f k true ty v) (P.loopSections k) ty v) ∧
  (∀ (s : State) (f : Frame) (ty v : Nat), one s f (.receiptStickyWrite f ty v) P.timeReceiptSticky ty v) ∧
  (∀ (s : State) (f : Frame) (ty v : Nat), one s f (.replanRequestWrite f ty v) P.ageReplanRequest ty v) ∧
  (∀ (s : State) (f : Frame) (i ty v : Nat), one s f (.breakpointWrite f i ty v) (P.prgBreakpoint i) ty v) ∧
  (∀ (s : State) (f : Frame) (i : Nat) (v : Int) (r : PRow), s.wk.writes = [{ frame := f, entries := [(i, v)] }] →
    wRow i = some r → r.acc ≠ .co → i ≠ 0x0360 → i ≠ P.ageReplanRequest → absentUnit s.ident i = none →
    s.applyWrites.val i = v ∧ s.applyWrites.wk.writes = [] ∧ (∀ j, j ≠ i → s.applyWrites.val j = s.val j))

/-- A valid working copy is committed: the commit holds further requests back and queues the seal of the next generation, which
the reply names. A discard takes every change back. A sealed set that passes its checks becomes pending; confirmed by the CRC
it was written with, one whose bytes and values both sides find right goes to its seal; one that a side refuses is discarded, with that
side's byte 0; unconfirmed it lapses. A burst of runtime writes ends in a
queued generation (R167, R169, R171, R182 to R185). -/
def Obligations.SettingsAndSealedSetComplete : Prop :=
  (∀ (s : State) (f : Frame), s.takes f cmdSettingsCommit = true → f.length = 0 → (s.taken f cmdSettingsCommit).validate = none →
    exec (.settingsCommit f) s = .next (s.served f cmdSettingsCommit (done [(2, s.nextSettings), (2, 0),
        (4, (s.modPar fun p => { p with committing := true, burst := false }).newSettings.crc)])
      fun t => (t.modPar fun p => { p with committing := true, burst := false }).queueVault 4)) ∧
  (∀ (s : State) (f : Frame), s.takes f cmdSettingsDiscard = true → f.length = 0 →
    exec (.settingsDiscard f) s = .next (s.served f cmdSettingsDiscard done
      fun t => (t.modPar fun p => { p with work := [] }).modUpd fun u => { u with anchorsWork := u.anchors })) ∧
  (∀ (s : State) (f : Frame) (crc : Nat) (l : List ParamEntry) (x : List (Nat × Int)), s.takes f cmdSealedSetWrite = true →
    s.modes.mode = .m3 ∨ s.modes.mode = .m4 → 1 ≤ l.length → l.length ≤ 64 → f.length = 8 + 12 * l.length →
    (∀ e ∈ l, ∃ r, wRow e.index = some r ∧ r.acc = .sl) → crc32 (rawEntries l) = crc →
    (s.taken f cmdSealedSetWrite).writeCheck true 8 l = .ok x →
    exec (.sealedSetWrite f crc l.length l) s = .next (s.served f cmdSealedSetWrite
      (done [(4, crc32 (x.flatMap fun e => entryBytes e.1 (tyOf e.1) e.2))]) fun t => t.modPar fun p => { p with pendingSet := some (x, crc), pendingRaw := rawEntries l })) ∧
  (∀ (s : State) (f : Frame) (crc : Nat) (x : List (Nat × Int)), s.takes f cmdSealedSetConfirm = true →
    s.modes.mode = .m3 ∨ s.modes.mode = .m4 → f.length = 4 → s.par.pendingSet = some (x, crc) → s.wk.confirming = none →
    crc32 s.par.pendingRaw = crc → x.all inRange = true →
    exec (.sealedSetConfirm f crc) s = .next ((((s.taken f cmdSealedSetConfirm).modPar fun p =>
      { p with pendingSet := none, pendingRaw := [], sealing := some x }).modWk fun w => { w with confirming := some f }).queueVault 2)) ∧
  (∀ (s : State), s.par.burst = true → s.settings.isSome = true →
    exec .settingsBurstTimer s = .next ((({ s with out := [] } : State).modPar fun p => { p with burst := false }).queueVault 4)) ∧
  (∀ (s : State), exec .sealedSetPendingExpiry s =
    .next (({ s with out := [] } : State).modPar fun p => { p with pendingSet := none, pendingRaw := [] })) ∧
  (∀ (s : State) (f : Frame) (crc : Nat) (x : List (Nat × Int)), s.takes f cmdSealedSetConfirm = true →
    s.modes.mode = .m3 ∨ s.modes.mode = .m4 → f.length = 4 → s.par.pendingSet = some (x, crc) → s.wk.confirming = none →
    guardConfirms s.par.pendingRaw crc x = false ∨ strongConfirms s.par.pendingRaw crc x = false →
    exec (.sealedSetConfirm f crc) s = .next (s.served f cmdSealedSetConfirm
      (done [(1, b2n (guardConfirms s.par.pendingRaw crc x)), (1, b2n (strongConfirms s.par.pendingRaw crc x))])
      fun t => t.modPar fun p => { p with pendingSet := none, pendingRaw := [] }))

/-- MODE_REQUEST for M3, from M4 with every path open, enters M3; RESTART, off the string, is pending as asked; CLOSE starts the
sequence when no condition of R106 and R435 is unmet; STOP in M5 or M6 starts the stop ramp; TRIP opens every coil path and
raises SI.08; FAULT_ACK waits for the next sweep boundary and leaves every present instance it names acknowledged there (R154, R157,
R379, R410, R459, R460). -/
def Obligations.ControlCommandsComplete : Prop :=
  (∀ (s : State) (f : Frame), s.takes f cmdModeRequest = true → f.length = 1 → s.modes.mode = .m4 →
    (∀ p, p < 20 → (s.taken f cmdModeRequest).pathClosed p = false ∧ s.saf.coil.testBit p = false) →
    Gives (.modeRequest f 3) s fun t => t.modes.mode = .m3 ∧ t.saf = s.saf ∧ t.power = s.power ∧ t.par = s.par) ∧
  (∀ (s u : State) (f : Frame), s.takes f cmdModeRequest = true → f.length = 1 → s.modes.mode = .m4 →
    (s.taken f cmdModeRequest).requestDormant 0 = (none, u) → exec (.modeRequest f 0) s = .next (u.complete f cmdModeRequest done)) ∧
  (∀ (s : State) (f : Frame), s.takes f cmdRestart (inM2 := true) = true → f.length = 1 → s.onString = false →
    exec (.restart f 0) s = .next (s.served f cmdRestart done
      fun t => t.modModes fun m => { m with restartPending := some true, restartCause := 0 })) ∧
  (∀ (s : State) (f : Frame), s.takes f cmdRestart (inM2 := true) = true → f.length = 1 → s.modes.mode.runs = false →
    exec (.restart f 1) s = .next (s.served f cmdRestart done
      fun t => t.modModes fun m => { m with restartPending := some false, restartCause := 0 })) ∧
  (∀ (s : State) (f : Frame), s.takes f cmdClose = true → f.length = 0 → s.modes.mode = .m4 → s.saf.close = none →
    (s.taken f cmdClose).closeUnmet = none →
    Gives (.close f) s fun t => (∃ c, t.saf.close = some c ∧ c.stage = 0) ∧ t.saf.coil = 2 ^ 19 ∧ t.saf.keep = 2 ^ 19 ∧
      .strongroom 0x3C5A 0xFFFFF ∈ t.out ∧ t.modes = s.modes ∧ t.par = s.par) ∧
  (∀ (s : State) (f : Frame), s.takes f cmdStop = true → f.length = 0 → s.onString = true → s.active = true → s.saf.close = none →
    s.saf.opening = none → s.prof.openWait = false → s.prof.stopRamp = none →
    Gives (.stop f) s fun t => t.prof.stopRamp = some true ∧ t.prof.target = 0 ∧ t.prof.pendingOrder = none ∧ t.prg.stopSeen = true ∧
      t.saf = s.saf ∧ t.modes = s.modes ∧ t.flt = s.flt) ∧
  (∀ (s : State) (f : Frame), s.takes f cmdTrip = true → f.length = 0 → s.whole (src 3 8) noItem →
    Gives (.trip f) s fun t => t.allOpen ∧ t.saf.tripReq = true ∧ t.prof.i = 0 ∧ t.prof.v = 0 ∧ t.present (src 3 8) noItem ∧
      t.power = s.power ∧ t.links = s.links ∧ t.par = s.par ∧ t.trims = s.trims) ∧
  (∀ (s : State) (f : Frame) (source : Nat), s.takes f cmdFaultAck = true → f.length = 2 →
    exec (.faultAck f source) s = .next ((s.taken f cmdFaultAck).modWk fun w =>
      { w with writes := w.writes ++ [{ frame := f, code := 0x0206, ack := some source }] })) ∧
  (∀ (s : State) (f : Frame) (source : Nat), s.wk.writes = [{ frame := f, code := 0x0206, ack := some source }] →
    (∀ i ∈ s.applyWrites.flt.present, source = 0xFFFF ∨ i.source = source → i.acked = true) ∧ s.applyWrites.wk.writes = [] ∧
    s.applyWrites.power = s.power ∧ s.applyWrites.rails = s.rails ∧ s.applyWrites.par = s.par)

/-- BALANCE_TEST sets a pair test; SURVEY_START begins a survey of its rail under the next number; SURVEY_ABORT ends one;
LOOP_FLAGS_CLEAR clears the flags of the loops it names; LOOP_TEST arms a capture; PROGRAM_CONTROL places its action for the next
cycle (R258, R305, R346, R359, R557). -/
def Obligations.TestAndProgramCommandsComplete : Prop :=
  (∀ (s : State) (f : Frame) (b : Nat) (t : Int), s.takes f cmdBalanceTest = true → f.length = 8 → s.brickUsed b = true →
    s.hasUpper b = true → t ≠ 0 → t.natAbs ≤ 100000 → s.survey.state = 0 → s.est.pairs = [] →
    Gives (.balanceTest f b t) s fun u => u.est.pairs = [{ brick := b, target := t }] ∧ u.bricks = s.bricks ∧ u.saf = s.saf ∧
      u.flt = s.flt ∧ u.par = s.par) ∧
  (∀ (s : State) (f : Frame) (r : Nat), s.takes f cmdSurveyStart = true → f.length = 1 → hasIsu s.ident.variant = true → r < 8 →
    s.railUsed r = true → s.hasLoop r = true → s.survey.state = 0 → s.steerState r ≠ 5 → (s.taken f cmdSurveyStart).surveyCondition r = 0 →
    Gives (.surveyStart f r) s fun t => t.survey.state = 1 ∧ t.survey.rail = r ∧ t.survey.number = min (s.survey.number + 1) (2 ^ 32 - 1) ∧
      t.saf = s.saf ∧ t.modes = s.modes ∧ t.flt = s.flt ∧ t.par = s.par) ∧
  (∀ (s : State) (f : Frame) (r : Nat), s.takes f cmdSurveyAbort = true → f.length = 1 → hasIsu s.ident.variant = true →
    s.survey.state = 1 → s.survey.rail = r → r < 8 →
    Gives (.surveyAbort f r) s fun t => t.survey.state = 0 ∧ t.survey.rail = 0xFF ∧ t.saf = s.saf ∧ t.modes = s.modes ∧ t.flt = s.flt ∧
      t.par = s.par) ∧
  (∀ (s : State) (f : Frame) (mask : Nat), s.takes f cmdLoopFlagsClear = true → f.length = 2 → mask < 2 ^ 16 →
    (∀ k, k < 8 → mask.testBit k = true → s.hasLoop k = true) →
    Gives (.loopFlagsClear f mask) s fun t => (∀ k, k < 16 → mask.testBit k = true → (t.loops.get k).flags = 0) ∧
      (∀ k, mask.testBit k = false → t.loops.get k = s.loops.get k) ∧ t.saf = s.saf ∧ t.trims = s.trims ∧ t.flt = s.flt) ∧
  (∀ (s : State) (f : Frame) (k : Nat) (a : U32), s.takes f cmdLoopTest = true → f.length = 12 → k < 16 → (k < 8 → s.hasLoop k = true) →
    f32Finite a = true → f32Val a ≠ 0 → (k < 8 → mag32 a ≤ 400) → s.steer.tuneState ≠ 1 → s.survey.state = 0 →
    (s.taken f cmdLoopTest).testCondition k = 0 →
    Gives (.loopTest f k 0 0 a 0) s fun t => t.steer.tuneState = 1 ∧ t.steer.captureNumber = (s.steer.captureNumber + 1) % 2 ^ 32 ∧
      t.steer.loop = k ∧ t.steer.samples = [] ∧ t.loops = s.loops ∧ t.saf = s.saf ∧ t.flt = s.flt) ∧
  (∀ (s : State) (f : Frame), s.takes f cmdProgramControl (also := decide (s.modes.mode = .m7)) = true → f.length = 1 →
    s.prg.state = 1 → s.prg.exchange = 0 →
    exec (.programControl f 0) s = .next (s.served f cmdProgramControl done fun t => t.modPrg fun g => { g with pending := 3 }))

/-- LEASE_ACQUIRE with no lease held grants one to its address; LEASE_RELEASE by the holder ends it; IMAGE_CHUNK at the offset
expected is kept; IMAGE_FINISH after the last chunk verifies the image and ends the lease; ISSUE_TRIAL of the staged issue pins the
settings and starts a trial; ISSUE_CONFIRM and ISSUE_REJECT end one; ANCHOR_WRITE changes the working copy. A lease that runs out
ends with its staging discarded, and a trial whose window has passed falls back to the confirmed issue with result 3 (R630 to R638). -/
def Obligations.UpdateCommandsComplete : Prop :=
  (∀ (s : State) (f : Frame) (kind length digest : Nat), s.takes f cmdLeaseAcquire (also := decide (s.modes.mode = .m2)) (inM2 := true) = true →
    f.length = 56 → kind ≤ 1 → (s.modes.mode = .m2 → kind = 0) → 1 ≤ length → length ≤ imageMost kind → s.noTrial = true →
    s.upd.holder = none → s.upd.staged ≠ some (kind, digest) →
    Gives (.leaseAcquire f kind length digest) s fun t => t.upd.holder = some f.src ∧ t.upd.kind = kind ∧ t.upd.length = length ∧
      t.upd.digest = digest ∧ t.upd.received = 0 ∧ t.upd.leaseEnd = s.time.ns + s.nat P.updLeaseTime * 1000000000 ∧
      t.flt = s.flt ∧ t.saf = s.saf ∧ t.modes = s.modes ∧ t.par = s.par) ∧
  (∀ (s : State) (f : Frame), s.takes f cmdLeaseRelease = true → f.length = 0 → s.upd.holder = some f.src →
    Gives (.leaseRelease f) s fun t => t.upd.holder = none ∧ t.upd.chunks = [] ∧ t.flt = s.flt ∧ t.saf = s.saf ∧ t.modes = s.modes ∧
      t.par = s.par) ∧
  (∀ (s : State) (f : Frame) (d : List Byte), s.takes f cmdImageChunk (also := decide (s.modes.mode = .m2)) (inM2 := true) = true →
    1 ≤ d.length → d.length ≤ 1016 → f.length = 8 + d.length → s.upd.holder = some f.src → s.upd.received + d.length ≤ s.upd.length →
    exec (.imageChunk f s.upd.received d.length d) s = .next (s.served f cmdImageChunk (done [(4, s.upd.received + d.length)]) fun t =>
      t.modUpd fun u => { u with
        leaseEnd := s.time.ns + s.nat P.updLeaseTime * 1000000000, chunks := d :: u.chunks, received := u.received + d.length })) ∧
  (∀ (s : State) (f : Frame) (c : ImageCheck), s.takes f cmdImageFinish (also := decide (s.modes.mode = .m2)) (inM2 := true) = true →
    f.length = 0 → s.upd.holder = some f.src → s.upd.length ≤ s.upd.received →
    Gives (.imageFinish f c) s fun t => t.upd.holder = none ∧ t.upd.stagedResult = s.imageResult s.upd.image c ∧ t.flt = s.flt ∧
      t.saf = s.saf ∧ t.par = s.par) ∧
  (∀ (s : State) (f : Frame) (number : Nat), s.takes f cmdIssueTrial = true → f.length = 4 → s.noTrial = true →
    s.upd.control.slotIssue.getD (1 - s.upd.runningSlot) 0 = number → s.upd.control.slotState.getD (1 - s.upd.runningSlot) 0 = 2 →
    s.fitted = false →
    Gives (.issueTrial f 0 number) s fun t => t.upd.control.trialState = 1 ∧ t.upd.control.trialSlot = 1 - s.upd.runningSlot ∧
      t.upd.control.pinnedSafety = s.par.setGeneration ∧ t.upd.sealRestart = some true ∧ t.flt = s.flt ∧ t.saf = s.saf ∧
      t.modes = s.modes ∧ t.par = s.par) ∧
  (∀ (s : State) (f : Frame), s.takes f cmdIssueConfirm = true → f.length = 1 → s.upd.trial = true →
    Gives (.issueConfirm f 0) s fun t => t.upd.trial = false ∧ t.upd.control.confirmed = s.upd.control.trialSlot ∧
      t.upd.control.trialState = 0 ∧ t.upd.floor = max s.upd.floor s.upd.running.security ∧ t.flt = s.flt ∧ t.saf = s.saf ∧
      t.par = s.par) ∧
  (∀ (s : State) (f : Frame), s.takes f cmdIssueReject = true → f.length = 1 → s.upd.trial = true →
    Gives (.issueReject f 0) s fun t => t.upd.control.confirmed = s.upd.control.confirmed ∧ t.upd.control.trialState = 0 ∧
      t.upd.floor = s.upd.floor ∧ t.flt = s.flt ∧ t.saf = s.saf ∧ t.par = s.par) ∧
  (∀ (s : State) (f : Frame) (i : Nat) (d : List Byte), s.takes f cmdAnchorWrite = true → i ≤ 3 → 1 ≤ d.length → d.length ≤ 1000 →
    f.length = 4 + d.length →
    Gives (.anchorWrite f i 1 d.length d true) s fun t => t.upd.anchorsWork = updAt s.upd.anchorsWork i (fun _ => some d) ∧
      t.upd.anchors = s.upd.anchors ∧ t.flt = s.flt ∧ t.saf = s.saf ∧ t.par = s.par) ∧
  (∀ (s : State) (x : Nat), s.upd.holder = some x →
    Gives .leaseExpiry s fun t => t.upd.holder = none ∧ t.upd.chunks = [] ∧ t.upd.received = 0 ∧
      t.vault.records.get (64 * imageRegion s.upd.kind + s.upd.slot) = none ∧
      t.unreported = { s.unreported with upd := t.upd, vault := t.vault }) ∧
  (∀ s : State, s.upd.holder = none → exec .leaseExpiry s = .next { s with out := [] }) ∧
  (∀ s : State, s.upd.trial = true → s.upd.trialFrom.isSome = true →
    Gives .trialWindowExpiry s fun t => t.upd.trial = false ∧ t.upd.sealRestart = some true ∧ t.upd.control.trialSlot = 0xFF ∧
      t.upd.control.trialState = 0 ∧ t.upd.control.lastResult = 3 ∧ t.upd.control.confirmed = s.upd.control.confirmed ∧
      t.upd.trialEnded = some (3, s.upd.control.slotIssue.getD s.upd.control.trialSlot 0) ∧
      t.unreported = { s.unreported with upd := t.upd, vault := t.vault })

/-- A reply of a monitor on a pack link is taken: an ECHO adds its round trip, the eighth gives the one-way delay, SET_TIMING's
reply gives DELAY and slot as stored, a register block that reads back as written ends LK.13 and any other raises it and has the
register written again, an IDENTIFY of the hop check is kept and the next hop is asked, an ENUMERATE reply joins the list (R205, R207, R210, R213, R217). -/
def Obligations.LinkRepliesComplete : Prop :=
  (∀ (s : State) (n hop p rtt : Nat) (x : LineHead), s.replies n hop 0x03 x [] p = true → (s.mon n p).echoes < 7 →
    Gives (.echoReply n hop x rtt) s fun t => t.mon n p = { s.heard (s.mon n p) with
        echoes := (s.mon n p).echoes + 1, rttSum := (s.mon n p).rttSum + rtt } ∧
      (∀ q, q ≠ p → t.mon n q = s.mon n q) ∧ s.windowOnly t n) ∧
  (∀ (s : State) (n hop p rtt : Nat) (x : LineHead), s.replies n hop 0x03 x [] p = true → (s.mon n p).echoes = 7 →
    Gives (.echoReply n hop x rtt) s fun t => (t.mon n p).owd = (s.mon n p).rttSum + rtt - 124800 ∧ (t.mon n p).echoes = 0 ∧
      (∀ q, q ≠ p → t.mon n q = s.mon n q) ∧ t.unacted = { s.unacted with links := t.links }) ∧
  (∀ (s : State) (n hop p delay slot : Nat) (x : LineHead),
    s.replies n hop 0x04 x (wireBytes [(2, delay), (1, slot), (1, 0)]) p = true →
    Gives (.setTimingReply n hop x delay slot) s fun t => t.mon n p = { s.heard (s.mon n p) with delay := delay, slot := slot } ∧
      (∀ q, q ≠ p → t.mon n q = s.mon n q) ∧ s.windowOnly t n) ∧
  (∀ (s : State) (n hop p first : Nat) (regs : List Nat) (x : LineHead), s.replies n hop 0x08 x (regBytes first regs) p = true →
    (s.registers.drop first).take regs.length = regs →
    Gives (.readConfigReply n hop x first regs) s fun t => t.flt = (s.endFault (src 1 13) (itemLink n p)).flt ∧
      (∀ q, q ≠ p → t.mon n q = s.mon n q) ∧ t = { s with links := t.links, flt := t.flt, out := t.out }) ∧
  (∀ (s : State) (n hop p first : Nat) (regs : List Nat) (x : LineHead), s.replies n hop 0x09 x (regBytes first regs) p = true →
    (s.registers.drop first).take regs.length = regs →
    Gives (.writeConfigReply n hop x first regs) s fun t => t.flt = (s.endFault (src 1 13) (itemLink n p)).flt ∧
      (∀ q, q ≠ p → t.mon n q = s.mon n q) ∧ t = { s with links := t.links, flt := t.flt, out := t.out }) ∧
  (∀ (s : State) (n hop p first i : Nat) (regs : List Nat) (x : LineHead), s.replies n hop 0x08 x (regBytes first regs) p = true →
    i < regs.length → first + i < 4 → regs.getD i 0 ≠ s.registers.getD (first + i) 0 → s.whole (src 1 13) (itemLink n p) →
    Gives (.readConfigReply n hop x first regs) s fun t => t.present (src 1 13) (itemLink n p) ∧
      (s.sends n = true → { hop := s.hopOf n p, opcode := 0x09, payload := [first + i, 1] ++ wordBytes [s.registers.getD (first + i) 0] } ∈
        (t.links.get n).resend) ∧
      t.unacted = { s.unacted with links := t.links }) ∧
  (∀ (s : State) (n hop p : Nat) (f : Found) (x : LineHead), s.replies n hop 0x02 x f.bytes p = true →
    (s.links.get n).waking = false → (s.links.get n).hopCheck = some (hop + 1) →
    Gives (.identifyReply n hop x f) s fun t => (t.links.get n).hopCheck = some (hop + 2) ∧
      (t.links.get n).hopFound.get (hop + 1) = some f ∧ (∀ h, h ≠ hop + 1 → (t.links.get n).hopFound.get h = (s.links.get n).hopFound.get h) ∧
      s.linkOnly t n) ∧
  (∀ (s : State) (n hop : Nat) (f : Found) (x : LineHead), s.linkHears n = true → x.accepts 1 hop 0x05 f.bytes = true →
    (s.links.get n).enumerating = true →
    Gives (.enumerateReply n hop x f) s fun t => f ∈ (t.links.get n).enumList ∧
      (t.links.get n).enumList.length = (s.links.get n).enumList.length + 1 ∧
      (∀ p, s.posOf n hop = some p → t.mon n p = s.heard (s.mon n p)) ∧ (∀ q, s.posOf n hop ≠ some q → t.mon n q = s.mon n q) ∧
      t.links.get n = { s.links.get n with
        enumList := (t.links.get n).enumList, mons := (t.links.get n).mons, mark := s.time.ns
        replyMarks := (t.links.get n).replyMarks } ∧ s.linkOnly t n ∧ t.out = [])

/-- The times of a pack link run out: delays are measured again, registers are read back, an ENUMERATE window ends and position A
asks its partner for the other list, a missed reply is counted and sent again, a silent link goes to state 5, hop 1 that does not
answer a wake leads to an enumeration in M1 and M3, position B without a role takes over a silent link, and a foreign command
takes it back or raises LK.11; a tone that disagrees with the replies raises LK.09 (R203, R204, R206, R210, R213, R216, R218, R226, R229). -/
def Obligations.LinkTimersComplete : Prop :=
  (∀ (s : State) (n : Nat), s.sends n = true → s.swept n = true → (s.links.get n).outstanding.isSome = true →
    Gives (.owdRemeasureTimer n) s fun t => (t.links.get n).queue = (s.links.get n).queue ++ (s.reached n).flatMap (fun p =>
        List.replicate 8 { hop := s.hopOf n p, opcode := 0x03 }) ∧ s.windowOnly t n ∧ t.out = []) ∧
  (∀ (s : State) (n p : Nat), s.sends n = true → s.swept n = true → (s.reached n).contains p = true →
    (s.links.get n).outstanding.isSome = true →
    Gives (.registerReadbackTimer n p) s fun t => (t.links.get n).queue = (s.links.get n).queue ++
        [{ hop := s.hopOf n p, opcode := 0x08, payload := [0, 4] }] ∧ (t.links.get n).mons = (s.links.get n).mons ∧ s.windowOnly t n ∧
      t.out = []) ∧
  (∀ (s : State) (n : Nat), (s.links.get n).enumerating = true → (s.links.get n).enumByPartner = false → s.pos = 0 →
    s.twin.role = .none → s.twinState = 2 →
    Gives (.enumerationWindowEnd n) s fun t => t.links.get n = { s.links.get n with
        enumerating := false, listA := some (s.links.get n).enumList, waitPartner := true } ∧ t.out = [.twin 1 false [n]] ∧
      s.linkOnly t n) ∧
  (∀ (s : State) (n : Nat) (c : LinkCmd), (s.links.get n).outstanding = some c → c.opcode ≠ 0x06 → (s.links.get n).waking = false →
    c.resends < 2 → (s.links.get n).queue = [] →
    Gives (.linkReplyTimeout n) s fun t => t.links.get n = { s.links.get n with
        outstanding := none, missedReplies := satU 32 ((s.links.get n).missedReplies + 1), winAt := (s.links.get n).winAt + 400
        resend := (s.links.get n).resend ++ [{ c with resends := c.resends + 1 }] } ∧ s.linkOnly t n ∧ t.out = []) ∧
  (∀ (s : State) (n : Nat), s.linkUsed n = true → (s.links.get n).state ≠ 0 → (s.links.get n).state ≠ 4 →
    Gives (.linkSilenceTimeout n) s fun t => t.links.get n = { s.links.get n with
        state := 5, queue := [], resend := [], outstanding := none, owTest := none, hopCheck := none, heardCmd := none } ∧ s.linkOnly t n ∧ t.out = []) ∧
  (∀ (s : State) (n : Nat), (s.links.get n).waking = true → s.sends n = true → s.modes.mode = .m3 →
    Gives (.wakeIdentifyTimeout n) s fun t => (t.links.get n).enumerating = true ∧ (t.links.get n).enumList = [] ∧
      (t.links.get n).waking = false ∧ (t.links.get n).enumCount = satU 16 ((s.links.get n).enumCount + 1) ∧
      t.out = [.line n 7 0x05 ((s.links.get n).exchanges % 2 ^ 16) s.pos [0]] ∧ s.linkOnly t n) ∧
  (∀ (s : State) (n : Nat), (s.links.get n).waking = true → s.sends n = true → s.modes.mode ≠ .m1 → s.modes.mode ≠ .m3 → s.whole (src 1 3) (itemLink n) →
    Gives (.wakeIdentifyTimeout n) s fun t => (t.links.get n).state = 4 ∧ t.present (src 1 3) (itemLink n) ∧ t.bricks = s.bricks) ∧
  (∀ (s : State) (n : Nat), s.linkUsed n = true → s.pos = 1 → s.twin.role = .none → (s.links.get n).state ≠ 0 →
    (s.links.get n).state ≠ 1 →
    Gives (.listenerSilenceTimeout n) s fun t => t.links.get n = { s.links.get n with listenerSends := true } ∧ s.linkOnly t n ∧
      t.out = []) ∧
  (∀ (s : State) (n hop opcode : Nat) (x : LineHead) (l : List Nat), s.hearsCommand n hop opcode x l = true → x.origin ≠ s.pos →
    s.twin.role = .none → s.pos = 1 →
    Gives (.foreignCommandHeard { link := n, hop := hop, opcode := opcode, head := x, payload := l }) s fun t => t.links.get n = { s.links.get n with
        mark := s.time.ns, originZero := s.time.ns, listenerSends := false, queue := [], resend := [], outstanding := none } ∧
      t.twin = { s.twin with ringAt := some s.time.ns } ∧ (∀ m, m ≠ n → t.links.get m = s.links.get m) ∧
      t = { s with links := t.links, twin := t.twin, out := [] }) ∧
  (∀ (s : State) (n hop opcode : Nat) (x : LineHead) (l : List Nat), s.hearsCommand n hop opcode x l = true → x.origin ≠ s.pos →
    s.twin.role = .active → s.whole (src 1 11) (itemLink n) →
    Gives (.foreignCommandHeard { link := n, hop := hop, opcode := opcode, head := x, payload := l }) s fun t => t.present (src 1 11) (itemLink n) ∧
      t.links.get n = { s.links.get n with mark := s.time.ns } ∧
      t.unacted = { s.unacted with twin := { s.twin with ringAt := some s.time.ns }, links := t.links }) ∧
  (∀ (s : State) (n : Nat), s.linkUsed n = true → s.toneDisagrees n = true → s.whole (src 1 9) (itemLink n) →
    Gives (.toneDisagreeTimeout n) s fun t => t.present (src 1 9) (itemLink n) ∧ t.unacted = s.unacted)

/-- Replies of a monitor that carry measurements: BALANCE's gives the applied currents, OPEN_WIRE's marks the source on or the
result void with ME.09, ALARM_CLEAR's gives STATUS; a SAMPLE reply of a swept link is taken into the rows of the monitor's 12
bricks (R205, R233, R240, R244, R254). -/
def Obligations.MeasurementRepliesComplete : Prop :=
  (∀ (s : State) (n hop p flags status : Nat) (applied : List Int) (x : LineHead),
    s.replies n hop 0x06 x (balanceBytes flags applied status) p = true → applied.length = 12 →
    Gives (.balanceReply n hop x { flags := flags, applied := applied } status) s fun t => t.mon n p = { s.heard (s.mon n p) with
        applied := applied, status := (s.mon n p).status / 2048 * 2048 + status % 2048 } ∧ (∀ q, q ≠ p → t.mon n q = s.mon n q) ∧
      t = { s with links := t.links, survey := { s.survey with quiet := t.survey.quiet }, out := t.out }) ∧
  (∀ (s : State) (n hop p line : Nat) (h : LineHead) (x : OpenWire), s.replies n hop 0x07 h (wireBytes [(1, line), (1, 1)]) p = true →
    (s.links.get n).owTest = some x → x.line = line → bitOf x.mons p = true →
    Gives (.openWireReply n hop h line 1) s fun t =>
      (∃ a b, (t.links.get n).owTest = some { x.setOn p s.time.sweep with start0 := a, start1 := b }) ∧
      (∀ q, q ≠ p → t.mon n q = s.mon n q) ∧ s.linkOnly t n) ∧
  (∀ (s : State) (n hop p line : Nat) (h : LineHead) (x : OpenWire), s.replies n hop 0x07 h (wireBytes [(1, line), (1, 0)]) p = true →
    (s.links.get n).owTest = some x → x.line = line → bitOf x.mons p = true → s.whole (src 0 9) (itemLink n p line) →
    Gives (.openWireReply n hop h line 0) s fun t =>
      (∃ a b, (t.links.get n).owTest = some { x with void := putBit x.void p true, start0 := a, start1 := b }) ∧
      t.present (src 0 9) (itemLink n p line) ∧ t.unacted = { s.unacted with links := t.links }) ∧
  (∀ (s : State) (n hop p status : Nat) (x : LineHead), s.replies n hop 0x0A x (wireBytes [(2, status)]) p = true →
    Gives (.alarmClearReply n hop x status) s fun t => t.mon n p = { s.heard (s.mon n p) with status := status } ∧
      (∀ q, q ≠ p → t.mon n q = s.mon n q) ∧ t = { s with links := t.links, flt := t.flt, out := t.out }) ∧
  (∀ (s : State) (r : SampleReply) (p : Nat), s.linkHears r.link = true → r.head.accepts 1 r.hop 0x01 (sampleBytes r) = true →
    s.posOf r.link r.hop = some p → r.head.endUs ≤ 600 → s.swept r.link = true → (s.links.get r.link).sampled = true → s.counts (r.link % 2) = true →
    Gives (.sampleReply r) s fun t => (t.mon r.link p).replied = true ∧ (t.mon r.link p).missedRun = 0 ∧
      (t.mon r.link p).lastSweep = some s.time.sweep ∧ (t.mon r.link p).status = r.status ∧
      (∀ c, c < 12 → (t.bricks.get (24 * r.link + 12 * p + c)).temperature = replyTemp r (c / 3)) ∧
      t.unacted = { s.unacted with links := t.links, bricks := t.bricks, est := t.est })

/-- Work of measuring and balancing that is due: BALANCE goes out again, the targets of the bricks are computed anew with nothing
booked against them, a round of 13 lines begins, a stack check that fails its count asks for lines 0 and 12; an alarm tone is kept
while it stands; a command heard from the other module sets counter, mode and test of a listening one (R228, R230, R239, R242,
R246, R252, R255). -/
def Obligations.MeasurementWorkCompletes : Prop :=
  (∀ (s : State) (n p : Nat), s.sends n = true → s.swept n = true → (s.reached n).contains p = true →
    s.maySend n = true ∨ s.pairOn n = true →
    (s.links.get n).outstanding.isSome = true →
    Gives (.balanceRefreshDue n p) s fun t => (t.links.get n).queue = (s.links.get n).queue ++
        [{ hop := s.hopOf n p, opcode := 0x06, payload := [0, 0] ++ (s.mon n p).cmd.map (patI 8) }] ∧
      t.mon n p = { s.mon n p with balanceDue := false, commanded := true } ∧ (∀ q, q ≠ p → t.mon n q = s.mon n q) ∧ s.windowOnly t n ∧ t.out = []) ∧
  (∀ s : State, Gives .balanceTargetRecompute s fun t => (∀ n b, n ∈ s.usedLinks → b ∈ s.bricksOfLink n → (t.bricks.get b).targetBooked = 0) ∧
    (∀ b, t.bricks.get b = { s.bricks.get b with target := (t.bricks.get b).target, targetBooked := (t.bricks.get b).targetBooked }) ∧
    t = { s with bricks := t.bricks, links := t.links, out := [] }) ∧
  (∀ (s : State) (n : Nat), s.usedLinks = [n] → Gives .balanceTargetRecompute s fun t => ∀ b, b ∈ s.bricksOfLink n → (t.bricks.get b).target =
    match ((segments s.eligible (s.bricksOfLink n)).flatMap s.segmentTargets).find? (fun x => x.1 == b) with
    | some x => x.2
    | none => 0) ∧
  (∀ (s : State) (n : Nat), s.testsLines n = true → (s.links.get n).owLines = [] →
    Gives (.openWireRoundDue n) s fun t => t.links.get n = { s.links.get n with
        owLines := List.range 13, owDeferred := (s.links.get n).owDeferred.filter fun e => decide (4 ≤ e.2) } ∧ s.linkOnly t n ∧ t.out = []) ∧
  (∀ (s : State) (n p : Nat), s.nat P.measStackCount ≤ (s.mon n p).stackFails → (s.mon n p).stackTest = false →
    s.testsLines n = true → (s.links.get n).owTest = none → (s.links.get n).owSpecial = [] → (s.links.get n).owDeferred = [] →
    Gives (.stackCheckCountReached n p) s fun t => t.mon n p = { s.mon n p with stackTest := true, stackDone := 0 } ∧
      (t.links.get n).owSpecial = [(0, 2 ^ p + 4), (12, 2 ^ p + 4)] ∧ (∀ q, q ≠ p → t.mon n q = s.mon n q) ∧ s.linkOnly t n ∧ t.out = []) ∧
  (∀ (s : State) (n : Nat), s.linkUsed n = true →
    Gives (.alarmTonePresent n) s fun t => (t.links.get n).tone = true ∧ t.modes.dormantEntry = false ∧
      t.unacted = { s.unacted with links := t.links }) ∧
  (∀ (s : State) (n : Nat), Gives (.alarmToneAbsent n) s fun t => t.links.get n = { s.links.get n with tone := false } ∧
    (∀ m, m ≠ n → t.links.get m = s.links.get m) ∧ t = { s with links := t.links, flt := t.flt, out := [] }) ∧
  (∀ (s : State) (n hop a b c d m e : Nat) (x : LineHead), s.hearsCommand n hop 0x01 x [a, b, c, d, m, e] = true → s.sends n = false →
    (s.links.get n).state ≠ 5 →
    Gives (.heardCommandFrame n hop 0x01 x [a, b, c, d, m, e]) s fun t =>
      t.time = { s.time with sweep := a + 256 * b + 65536 * c + 2 ^ 24 * d, sweepSet := true } ∧
      t.modes = { s.modes with sweeping := true } ∧ t.twin = { s.twin with ringAt := some s.time.ns } ∧
      t.links.get n = { s.links.get n with
        lastFrame := s.time.ns, mark := s.time.ns, originZero := if x.origin = 0 then s.time.ns else (s.links.get n).originZero
        heardCmd := if hop = 0 then some { hop := hop, opcode := 0x01, payload := [a, b, c, d, m, e], tag := x.tag }
          else (s.links.get n).heardCmd
        sampled := true, samplePrev := (s.links.get n).sampleMode, sampleMode := m, capture := decide (m = 2) } ∧
      (∀ q, q ≠ n → t.links.get q = s.links.get q) ∧
      t = { s with time := t.time, modes := t.modes, twin := t.twin, links := t.links, out := [] }) ∧
  (∀ (s : State) (n hop line a b : Nat) (x : LineHead), s.hearsCommand n hop 0x07 x [line, 1, a, b] = true → s.sends n = false →
    (s.links.get n).owTest = none → (s.links.get n).state ≠ 5 →
    Gives (.heardCommandFrame n hop 0x07 x [line, 1, a, b]) s fun t =>
      (t.links.get n).owTest = some { line := line, start0 := some s.time.sweep, start1 := some s.time.sweep } ∧
      (∀ q, q ≠ n → t.links.get q = s.links.get q) ∧ t = { s with twin := t.twin, links := t.links, out := [] })

/-- Anchors of a brick (R272, R275): a full anchor sets E to Q less C, an empty one to Q less the cut point, so that the charge
above empty is C or the cut point; each leaves its kind and time, counts, and makes a write-back due (R298). Q and C stay; the published row of an empty brick follows (R287). -/
def Obligations.AnchorsComplete : Prop :=
  (∀ (s : State) (b : Nat), s.brickUsed b = true → (s.bricks.get b).excluded = false → (s.bricks.get b).voltage ≠ 0xFFFF →
    s.nat P.estFullVoltage ≤ (s.bricks.get b).voltage →
    (s.bricks.get b).below (s.nat P.estFullDivisor) ((s.bricks.get b).dq : Rat) = true →
    (s.bricks.get b).moved (s.bricks.get b).fullAt = true →
    Gives (.fullAnchor b) s fun t => (t.bricks.get b).above = (s.bricks.get b).cap ∧ (t.bricks.get b).q = (s.bricks.get b).q ∧
      (t.bricks.get b).c = (s.bricks.get b).c ∧ (t.bricks.get b).fullAnchors = satU 16 ((s.bricks.get b).fullAnchors + 1) ∧
      (t.bricks.get b).anchorTime = s.sec32 ∧ (t.bricks.get b).flags = putBit (s.bricks.get b).flags 1 false % 16 + 16 ∧
      t.est = { s.est with holdoff := true } ∧ (∀ k, k ≠ b → t.bricks.get k = s.bricks.get k) ∧
      t = { s with bricks := t.bricks, est := t.est, out := [] }) ∧
  (∀ (s : State) (b : Nat), s.brickUsed b = true → (s.bricks.get b).excluded = false → s.nat P.estEmptySweeps ≤ (s.bricks.get b).emptyRun →
    (s.bricks.get b).moved (s.bricks.get b).emptyAt = true →
    Gives (.emptyAnchor b) s fun t => (t.bricks.get b).above = (t.bricks.get b).cut ∧ (t.bricks.get b).g = 0 ∧
      (t.bricks.get b).q = (s.bricks.get b).q ∧ (t.bricks.get b).c = (s.bricks.get b).c ∧
      (t.bricks.get b).emptyAnchors = satU 16 ((s.bricks.get b).emptyAnchors + 1) ∧ (t.bricks.get b).anchorTime = s.sec32 ∧
      (t.bricks.get b).flags = putBit (s.bricks.get b).flags 1 false % 16 + 32 ∧ t.est = { s.est with holdoff := true } ∧
      (∀ k, k ≠ b → t.bricks.get k = s.bricks.get k ∧ t.rows.get k = s.rows.get k) ∧
      (t.rows.get b).q = (t.bricks.get b).q ∧ (t.rows.get b).e = (t.bricks.get b).e ∧ (t.rows.get b).g = 0 ∧
      t = { s with bricks := t.bricks, rows := t.rows, readRows := t.readRows, est := t.est, out := [] })

/-- Timed work of the estimates: write-backs, the rest hold and the rest points of a rail, the direction of its current, drift and
Hall faults, the warning levels against the string position with their hysteresis, and the checkpoints of both Tally cores
(R267, R280, R282, R283, R286, R288, R297, R298). -/
def Obligations.EstimateWorkCompletes : Prop :=
  (∀ s : State, s.vault.writing = none →
    Gives .learnedPeriodExpiry s fun t => bitOf t.vault.queued 5 = true ∧ t = { s with vault := { s.vault with queued := t.vault.queued }, out := [] }) ∧
  (∀ s : State, s.vault.writing = none → s.est.holdoff = true →
    Gives .writeHoldoffExpiry s fun t => bitOf t.vault.queued 5 = true ∧
      t = { s with vault := { s.vault with queued := t.vault.queued }, est := { s.est with holdoff := false }, out := [] }) ∧
  (∀ (s : State) (r : Nat), s.railUsed r = true → (s.rails.get r).restTaken = false → (s.rails.get r).restHold = false →
    (s.nat P.estRestTime - s.nat P.estRestHold) * 60 ≤ (s.rails.get r).restTimer →
    Gives (.restHoldReached r) s fun t => t.rails.get r = { s.rails.get r with restHold := true } ∧
      (∀ b, b ∈ s.bricksOf r → t.bricks.get b = { s.bricks.get b with restSpoiled := false }) ∧
      (∀ k, k ≠ r → t.rails.get k = s.rails.get k) ∧ t = { s with rails := t.rails, bricks := t.bricks, links := t.links, out := [] }) ∧
  (∀ (s : State) (r : Nat), s.railUsed r = true → (s.rails.get r).restTaken = false → (s.rails.get r).restHold = true →
    s.nat P.estRestTime * 60 ≤ (s.rails.get r).restTimer →
    Gives (.restTimeReached r) s fun t => t.rails.get r = { s.rails.get r with restTaken := true, restHold := false } ∧
      (∀ k, k ≠ r → t.rails.get k = s.rails.get k) ∧
      t.unacted = { s.unacted with rails := t.rails, bricks := t.bricks, links := t.links, est := t.est }) ∧
  (∀ (s : State) (r : Nat) (charge : Bool), s.railUsed r = true → s.restBelow r ((s.rails.get r).current : Rat) = false →
    (if charge then 0 < (s.rails.get r).current else (s.rails.get r).current < 0) →
    Gives (.directionSet r charge) s fun t => t.rails.get r = { s.rails.get r with direction := if charge then 1 else 2 } ∧
      (∀ k, k ≠ r → t.rails.get k = s.rails.get k) ∧ t = { s with rails := t.rails, out := [] }) ∧
  (∀ (s : State) (b : Nat), s.brickUsed b = true → (s.bricks.get b).voltage ≠ 0xFFFF → bitOf (s.bricks.get b).status 6 = false →
    (s.bricks.get b).rawPosition = 10000 → 0 < (s.bricks.get b).dq →
    (s.bricks.get b).voltage + s.nat P.estDriftMargin < s.nat P.estFullVoltage → s.whole (src 0 10) (itemBrick b) →
    Gives (.driftTimeout b true) s fun t => t.bricks.get b = { s.bricks.get b with
        driftHold := 2, flags := putBit (s.bricks.get b).flags 0 true, status := putBit (s.bricks.get b).status 2 true
        driftCount := satU 16 ((s.bricks.get b).driftCount + 1) } ∧ t.present (src 0 10) (itemBrick b) ∧
      (∀ k, k ≠ b → t.bricks.get k = s.bricks.get k) ∧ t.unacted = { s.unacted with bricks := t.bricks }) ∧
  (∀ (s : State) (r : Nat), s.railUsed r = true → (s.rails.get r).shuntValid = true → (s.rails.get r).hallValid = true →
    s.whole (src 0 13) (item 3 r) →
    Gives (.hallMismatchTimeout r) s fun t => t.rails.get r = { s.rails.get r with hallMismatch := true } ∧
      t.present (src 0 13) (item 3 r) ∧ (∀ b, b ∈ s.bricksOf r → bitOf (t.bricks.get b).flags 3 = true) ∧
      t.unacted = { s.unacted with rails := t.rails, bricks := t.bricks }) ∧
  (∀ s : State, s.est.position ≠ 0xFFFF → Gives .warningEvaluation s fun t =>
    (∀ n, 1 ≤ n → n ≤ 3 → bitOf t.est.warn (n - 1) = (if bitOf s.est.warn (n - 1) then
      decide (s.est.position < s.warnLevel n + s.nat P.estWarnHyst) else decide (s.est.position ≤ s.warnLevel n))) ∧
    (∀ n, 4 ≤ n → n ≤ 5 → bitOf t.est.warn (n - 1) = (if bitOf s.est.warn (n - 1) then
      decide (s.warnLevel n < s.est.position + s.nat P.estWarnHyst) else decide (s.warnLevel n ≤ s.est.position))) ∧
    t.unreported = { s.unreported with est := { s.est with warn := t.est.warn } }) ∧
  (∀ s : State, s.counts 0 = true → s.counts 1 = true → Gives .checkpointDue s fun t =>
    t = { s with
      est := { s.est with
        check0 := s.checkpoint 0 :: (s.est.check0.filter (·.valid)).take 1
        check1 := s.checkpoint 1 :: (s.est.check1.filter (·.valid)).take 1 }
      out := [] })

/-- The course of a survey and of its nightly window (R304 to R306, R309, R311, R315, R316, R320): the window lists the rails to
survey, a rail whose conditions hold is surveyed, T0 begins the capture or the survey ends with code 12, periods follow one
another, the ramp ends in the fit, the fit in the records of the rail's bricks; a rail left over gets code 13. -/
def Obligations.SurveyEventsComplete : Prop :=
  (∀ s : State, hasIsu s.ident.variant = true → s.active = true →
    Gives .surveyWindowOpen s fun t => t.survey.windowOpen = true ∧ t.survey.todo = maskIdx 8 (s.nat P.survEnableMask) ∧
      t = { s with survey := t.survey, est := t.est, links := t.links, out := t.out }) ∧
  (∀ (s : State) (r : Nat) (l : List Nat), s.survey.todo = r :: l → s.survey.windowOpen = true → s.survey.state = 0 → s.railUsed r = true →
    s.hasLoop r = true → s.steerState r ≠ 5 → s.active = true → s.surveyCondition r = 0 →
    Gives .surveyRetryTimer s fun t => t.survey.state = 1 ∧ t.survey.rail = r ∧ t.survey.scheduled = true ∧
      t.survey.number = satU 32 (s.survey.number + 1) ∧ t = { s with survey := t.survey, est := t.est, links := t.links, out := t.out }) ∧
  (∀ (s : State) (r : Nat), s.survey.windowOpen = true → s.survey.state = 0 → s.survey.todo = [r] → r < s.survey.lastResult.length →
    r < s.survey.lastNumber.length →
    Gives .surveyWindowClose s fun t => t.survey.windowOpen = false ∧ t.survey.todo = [] ∧ t.survey.lastResult[r]? = some 13 ∧
      t.survey.lastNumber[r]? = some 0 ∧ t.unacted = { s.unacted with survey := t.survey }) ∧
  (∀ s : State, s.survey.state = 1 →
    (∀ n p, n ∈ s.linksOf s.survey.rail → p < s.monCount n → s.survey.quiet.contains (2 * n + p) = true) →
    Gives .surveyT0 s fun t => t.survey = { s.survey with
        state := 2, sweeps := 0, ticks := 0, weight := 0, ramp := 0, meanT0 := s.stringMean } ∧
      (∀ n, n ∈ s.linksOf s.survey.rail → t.links.get n = { s.links.get n with capture := true }) ∧
      (∀ n, n ∉ s.linksOf s.survey.rail → t.links.get n = s.links.get n) ∧ t = { s with survey := t.survey, links := t.links, out := [] }) ∧
  (∀ s : State, s.survey.state = 1 → s.survey.rail < s.survey.lastResult.length →
    Gives .surveyT0Timeout s fun t => t.survey.state = 0 ∧ t.survey.rail = 0xFF ∧ t.survey.lastResult[s.survey.rail]? = some 12 ∧
      t.unacted = { s.unacted with survey := t.survey, links := t.links }) ∧
  (∀ s : State, s.survey.state = 2 → 10000 * (s.survey.period + 1) ≤ s.survey.sweeps →
    Gives .surveyPeriodEnd s fun t => t = { s with survey := { s.survey with state := 3, period := 1 }, out := [] }) ∧
  (∀ s : State, s.survey.state = 3 → 2 ≤ s.survey.period → s.survey.period < s.nat P.survPeriods →
    10000 * (s.survey.period + 1) ≤ s.survey.sweeps →
    Gives .surveyPeriodEnd s fun t => t = { s with survey := { s.survey with period := s.survey.period + 1 }, out := [] }) ∧
  (∀ s : State, s.survey.state = 4 → s.survey.weight = 0 → s.survey.ending = none →
    Gives .surveyRampEnd s fun t => t.survey = { s.survey with state := 5, ramp := 0 } ∧
      (∀ n, n ∈ s.linksOf s.survey.rail → (t.links.get n).capture = false) ∧
      t = { s with survey := t.survey, links := t.links, out := t.out }) ∧
  (∀ (s : State) (n hop p block sweep : Nat) (x : LineHead) (c : LinkCmd) (samples : List Nat),
    s.replies n hop 0x0B x (wireBytes (samples.map fun y => (2, y))) p = true → (s.links.get n).outstanding = some c →
    samples.length = 32 → 2 ≤ s.survey.state → c.fetches block sweep = true →
    (s.time.sweep + 2 ^ 16 - sweep) % 2 ^ 16 ≤ s.survey.sweeps →
    Gives (.surveyFetchReply n hop x block sweep samples) s fun t => t.survey = { s.survey with
        blocks := s.survey.blocks ++ [(2 * n + p,
          s.survey.sweeps - (s.time.sweep + 2 ^ 16 - sweep) % 2 ^ 16, block, samples)] } ∧
      t = { s with survey := t.survey, links := t.links, out := t.out }) ∧
  (∀ s : State, s.survey.state = 5 → s.survey.rail < s.survey.lastResult.length →
    Gives .surveyFitComplete s fun t => t.survey.state = 0 ∧ t.survey.rail = 0xFF ∧ t.survey.lastResult[s.survey.rail]? = some 0 ∧
      (s.survey.rail, s.survey.running, (s.bricksOf s.survey.rail).map s.surveyRecord) ∈ t.survey.records ∧
      t.unacted = { s.unacted with survey := t.survey, bricks := t.bricks, links := t.links })

/-- A loop tick moves the time on, runs the one loop that runs and rests the others at output 0, and sends the next trim command
of every trim link; the auxiliary loops run every tenth sweep; a full capture ends its test (R339, R342, R346, R352, R355). -/
def Obligations.LoopRunsComplete : Prop :=
  (∀ (s : State) (x : TickInputs), s.power.mainUp = true → s.power.mainHeld = false → (s.arch.engines.get 5).inReset = false →
    (∀ k, k < 8 → s.loopRuns k = false) →
    Gives (.loopTick x) s fun t => t.time = { s.time with ns := max s.time.ns s.time.nextTick, lastTick := s.time.nextTick } ∧
      (∀ k, k < 8 → (t.loops.get k).output = 0 ∧ (t.loops.get k).ran = false) ∧
      (s.active = true → 3 ≤ s.modes.mode.num → ∀ r, r < 8 → s.trimUsed r = true → (t.trims.get r).seq = ((s.trims.get r).seq + 1) % 256 ∧
        (t.trims.get r).mode = 0 ∧ (t.trims.get r).insertionCmd = 0) ∧
      t.unacted = { s.unacted with
        time := t.time, est := t.est, rails := t.rails, bricks := t.bricks, trims := t.trims, loops := t.loops, survey := t.survey }) ∧
  (∀ (s : State) (x : TickInputs) (k : Nat), s.power.mainUp = true → s.power.mainHeld = false → s.loopRuns k = true → k < 8 →
    (∀ j, j < 8 → j ≠ k → s.loopRuns j = false) →
    Gives (.loopTick x) s fun t => (t.loops.get k).ticks = wrapU 32 ((s.loops.get k).ticks + 1) ∧
      (∀ j, j < 8 → j ≠ k → (t.loops.get j).output = 0 ∧ (t.loops.get j).ticks = (s.loops.get j).ticks) ∧
      t.unacted = { s.unacted with
        time := t.time, est := t.est, rails := t.rails, bricks := t.bricks, trims := t.trims, loops := t.loops, steer := t.steer
        survey := t.survey }) ∧
  (∀ s : State, s.active = true → (s.arch.engines.get 5).inReset = false → s.trs.state ≠ 2 → 3 ≤ s.modes.mode.num →
    Gives .auxLoopRun s fun t => (∀ k, 8 ≤ k → k < 16 → s.flag (P.loopEnable k) = true →
        (t.loops.get k).ticks = wrapU 32 ((s.loops.get k).ticks + 1) ∧ (t.loops.get k).ran = true) ∧
      (∀ k, 8 ≤ k → k < 16 → s.flag (P.loopEnable k) = false → (t.loops.get k).output = 0 ∧ (t.loops.get k).duty = 0 ∧
        (t.loops.get k).ran = false) ∧ (∀ k, k < 8 → t.loops.get k = s.loops.get k) ∧
      t.unacted = { s.unacted with loops := t.loops, steer := t.steer }) ∧
  (∀ s : State, s.steer.sampleCount = 65536 → s.steer.tuneState = 1 →
    Gives .loopTestCaptureComplete s fun t => t = { s with steer := { s.steer with tuneState := 2, endCode := 0 }, out := [] })

/-- The supervision of the rails and their trim stages: a status frame is taken, its absence, a wrong insertion, a wrong current
and a loop at its limit raise LK.20, PW.21, ME.22 and PW.23; a lost count source is replaced; fall-back is entered and left
(R266, R341, R357, R358). -/
def Obligations.TrimSupervisionCompletes : Prop :=
  (∀ (s : State) (r : Nat), (s.loops.get r).fallback = true → s.flt.present = [] → (s.trims.get r).state = 2 →
    Gives (.fallbackExitTimer r) s fun t => t.loops.get r = { s.loops.get r with
        fallback := false, fallbackSources := [], handover := true, ran := false } ∧ (∀ k, k ≠ r → t.loops.get k = s.loops.get k) ∧
      t = { s with loops := t.loops, out := [] }) ∧
  (∀ (s : State) (r : Nat), s.railUsed r = true → s.whole (src 0 14) (item 3 r) →
    Gives (.countSourceLoss r true) s fun t => t.rails.get r = { s.rails.get r with shuntValid := false, hallValid := true, countSource := 1 } ∧
      t.present (src 0 14) (item 3 r) ∧ (∀ b, b ∈ s.bricksOf r → bitOf (t.bricks.get b).flags 3 = true) ∧
      (∀ k, k ≠ r → t.rails.get k = s.rails.get k) ∧ t.unacted = { s.unacted with rails := t.rails, bricks := t.bricks }) ∧
  (∀ (s : State) (r : Nat), s.railUsed r = true → s.hasLoop r = true →
    Gives (.countSourceLoss r false) s fun t =>
      t.rails.get r = { s.rails.get r with shuntValid := false, hallValid := false, countSource := 2 } ∧
      (t.loops.get r).fallback = true ∧ (∀ k, k ≠ r → t.rails.get k = s.rails.get k) ∧
      t.unacted = { s.unacted with rails := t.rails, bricks := t.bricks, loops := t.loops, trims := t.trims, steer := t.steer }) ∧
  (∀ (s : State) (r : Nat), bitOf s.arch.modFailed r = false →
    Gives (.countSourceRestore r) s fun t => t.rails.get r = { s.rails.get r with shuntValid := true, countSource := 0 } ∧
      t.flt = (s.endFault (src 0 14) (item 3 r)).flt ∧ (∀ k, k ≠ r → t.rails.get k = s.rails.get k) ∧
      t = { s with rails := t.rails, flt := t.flt, out := [] }) ∧
  (∀ (s : State) (r : Nat) (x : TrimFrame), s.trimUsed r = true → x.accepts = true →
    Gives (.trimStatusFrame r x) s fun t => (t.trims.get r).state = x.state ∧ (t.trims.get r).insertion = x.insertion ∧
      (t.trims.get r).current = x.current ∧ (t.trims.get r).temperature = x.temperature ∧ (t.trims.get r).faults = x.faults ∧
      (t.trims.get r).fresh = true ∧ (t.trims.get r).silent = 0 ∧ (∀ k, k ≠ r → t.trims.get k = s.trims.get k) ∧
      t.unacted = { s.unacted with trims := t.trims, loops := t.loops, steer := t.steer }) ∧
  (∀ (s : State) (r : Nat), s.trimUsed r = true → 20 ≤ (s.trims.get r).silent → s.whole (src 1 20) (itemTrim r) →
    Gives (.trimStatusTimeout r) s fun t => (t.trims.get r).state = 0 ∧ t.present (src 1 20) (itemTrim r) ∧
      (t.loops.get r).fallback = true ∧ t.unacted = { s.unacted with trims := t.trims, loops := t.loops, steer := t.steer }) ∧
  (∀ (s : State) (r : Nat), s.trimUsed r = true → (s.trims.get r).state = 2 → (s.trims.get r).mode = 1 → s.whole (src 4 21) (itemRail r) →
    Gives (.trimMismatchTimeout r) s fun t => t.present (src 4 21) (itemRail r) ∧ (t.loops.get r).fallback = true ∧
      t.unacted = { s.unacted with trims := t.trims, loops := t.loops, steer := t.steer }) ∧
  (∀ (s : State) (k : Nat), s.loopRuns k = true → 200000 ≤ (s.loops.get k).limitRun → s.whole (src 4 23) (itemLoop k) →
    Gives (.outputLimitTimeout k) s fun t => t.present (src 4 23) (itemLoop k) ∧ t.unacted = s.unacted) ∧
  (∀ (s : State) (r : Nat), s.trimUsed r = true → (s.trims.get r).state ≠ 0 → s.whole (src 0 22) (itemRail r) →
    1000 * s.val (P.railTrimCurrentTol r) < ((20 * (s.trims.get r).current - (s.rails.get r).current).natAbs : Int) →
    Gives (.trimCurrentMismatchTimeout r) s fun t => t.present (src 0 22) (itemRail r) ∧ t.unacted = s.unacted)

/-- A CAN controller sends, fails to send, goes off the bus and comes back: the head of its FIFO leaves it when sent, in classic format
at data rate 0, with the secondary sample point of R529; an attempt
that counts raises its transmit error counter by 8 and the last permitted one drops the frame with LK.40; an attempt that loses
arbitration counts nothing; bus-off empties every buffer with LK.41, recovery clears both counters (R529, R531, R535, R536; the
counter steps are the model's, log entry 95). -/
def Obligations.CanFramesComplete : Prop :=
  (∀ (s : State) (b delay : Nat) (x : CanFrame) (l : List CanFrame), b < 2 → s.power.mainUp = true → s.power.mainHeld = false →
    (s.can b).slot0.onBus = false → (s.can b).slot1.onBus = false → (s.can b).fifoOnBus = true → (s.can b).fifo = x :: l →
    Gives (.canTxComplete { bus := b, delay := delay }) s fun t => t.out = [.can b (x.asSent (s.nat (P.canDataRate b)))] ∧ (t.can b).fifo = l ∧
      (t.can b).tec = (s.can b).tec - 1 ∧
      (t.can b).ssp = (if (x.asSent (s.nat (P.canDataRate b))).fd = true then s.secondarySample b delay else none) ∧
      t.flt = (s.endFault (src 1 41) (itemBus b)).flt ∧ (∀ c, c ≠ b → t.can c = s.can c) ∧
      t = { s with bus := { s.bus with can := t.bus.can }, flt := t.flt, out := t.out }) ∧
  (∀ (s : State) (b : Nat), b < 2 → (s.can b).slot0.onBus = false → (s.can b).slot1.onBus = false → (s.can b).fifoOnBus = true →
    s.canMode b = 2 → (s.can b).attempts < s.nat (P.canRetryLimit b) →
    Gives (.canTxAttemptFailed b false) s fun t => (t.can b).fifo = (s.can b).fifo ∧ (t.can b).attempts = (s.can b).attempts + 1 ∧
      (t.can b).tec = min 256 ((s.can b).tec + 8) ∧ (∀ c, c ≠ b → t.can c = s.can c) ∧
      t = { s with bus := { s.bus with can := t.bus.can }, out := [] }) ∧
  (∀ (s : State) (b : Nat) (x : CanFrame) (l : List CanFrame), b < 2 → (s.can b).slot0.onBus = false → (s.can b).slot1.onBus = false →
    (s.can b).fifoOnBus = true → (s.can b).fifo = x :: l → s.canMode b = 2 → s.nat (P.canRetryLimit b) ≤ (s.can b).attempts → s.whole (src 1 40) (itemBus b) →
    Gives (.canTxAttemptFailed b false) s fun t => (t.can b).fifo = l ∧ (t.can b).txDrops = satU 32 ((s.can b).txDrops + 1) ∧
      t.present (src 1 40) (itemBus b) ∧ t.unreported = { s.unreported with bus := { s.bus with can := t.bus.can } }) ∧
  (∀ (s : State) (b : Nat), b < 2 → (s.can b).slot0.onBus = false → (s.can b).slot1.onBus = false → (s.can b).fifoOnBus = true →
    s.canMode b = 2 → Gives (.canTxAttemptFailed b true) s fun t => (t.can b).fifo = (s.can b).fifo ∧ (t.can b).attempts = (s.can b).attempts ∧
      (t.can b).tec = (s.can b).tec ∧ t = { s with bus := { s.bus with can := t.bus.can }, out := [] }) ∧
  (∀ (s : State) (b : Nat), b < 2 → s.canMode b = 2 → (s.can b).busOff = false → s.whole (src 1 41) (itemBus b) →
    Gives (.canBusOff b) s fun t => (t.can b).busOff = true ∧ (t.can b).fifo = [] ∧ (t.can b).slot0.frame = none ∧
      (t.can b).slot1.frame = none ∧ (t.can b).txDrops = satU 32 ((s.can b).txDrops + (s.can b).count) ∧
      (t.can b).busOffCount = satU 32 ((s.can b).busOffCount + 1) ∧ t.present (src 1 41) (itemBus b) ∧
      t.unacted = { s.unacted with bus := { s.bus with can := t.bus.can } }) ∧
  (∀ (s : State) (b : Nat), b < 2 → (s.can b).busOff = true →
    Gives (.canBusOffRecovery b) s fun t => (t.can b).busOff = false ∧ (t.can b).tec = 0 ∧ (t.can b).recErr = 0 ∧
      (t.can b).fifo = (s.can b).fifo ∧ (∀ c, c ≠ b → t.can c = s.can c) ∧ t = { s with bus := { s.bus with can := t.bus.can }, out := [] }) ∧
  (∀ (s : State) (b : Nat) (x : CanFrame), b < 2 → s.canMode b ≠ 0 → ((List.range 4).any fun j => s.filterTakes (4 * b + j) x) = true →
    (s.can b).rx.length < 64 →
    Gives (.programCanReceive b x) s fun t => t.can b = { s.can b with rx := (s.can b).rx ++ [x] } ∧ (∀ c, c ≠ b → t.can c = s.can c) ∧
      t = { s with bus := { s.bus with can := t.bus.can }, out := [] })

/-- The auxiliary bus: a boot-up and a heartbeat give the state of a node's stations, a lost heartbeat makes a station lost and
every value it gives invalid, with LK.42; the module's own heartbeat, a refreshed transmit PDO, a receive PDO and the end of an
SDO transfer (R539 to R542). -/
def Obligations.AuxiliaryBusCompletes : Prop :=
  (∀ (s : State) (node : Nat), s.canMode 1 ≠ 0 →
    Gives (.auxBootup node) s fun t => (∀ st, st ∈ s.stationsOf node → (t.bus.aux.get st).state = 0) ∧
      (∀ st, st ∉ s.stationsOf node → t.bus.aux.get st = s.bus.aux.get st) ∧
      t = { s with bus := { s.bus with aux := t.bus.aux, can := t.bus.can }, out := [] }) ∧
  (∀ (s : State) (node nmt : Nat), s.canMode 1 ≠ 0 →
    Gives (.auxHeartbeat node nmt) s fun t =>
      (∀ st, st ∈ s.stationsOf node → (t.bus.aux.get st).state = nmt % 128 ∧ (t.bus.aux.get st).present = true) ∧
      (∀ st, st ∉ s.stationsOf node → t.bus.aux.get st = s.bus.aux.get st) ∧
      t = { s with bus := { s.bus with aux := t.bus.aux, can := t.bus.can }, flt := t.flt, out := [] }) ∧
  (∀ (s : State) (st : Nat), st < 16 → (s.bus.aux.get st).present = true → s.whole (src 1 42) (itemBus 1 st) →
    Gives (.auxHeartbeatLoss st) s fun t => t.bus.aux.get st = { s.bus.aux.get st with
        state := 0xFF, present := false, losses := satU 16 ((s.bus.aux.get st).losses + 1) } ∧
      (∀ i, i ∈ s.mappings false → s.pdoStation i = st → (t.bus.pdo.get i).valid = false) ∧ t.present (src 1 42) (itemBus 1 st) ∧
      (∀ j, j ≠ st → t.bus.aux.get j = s.bus.aux.get j) ∧
      t.unacted = { s.unacted with bus := { s.bus with aux := t.bus.aux, pdo := t.bus.pdo } }) ∧
  (∀ s : State, s.canMode 1 = 2 → s.nat (P.canHbProducer 1) ≠ 0 → (s.can 1).fifo.length < 32 →
    Gives .heartbeatProduceDue s fun t => (t.can 1).fifo = (s.can 1).fifo ++ [{ id := 0x700 + s.nat (P.canNodeId 1), data := [5#8] }] ∧
      t.can 0 = s.can 0 ∧ t = { s with bus := { s.bus with can := t.bus.can }, out := [] }) ∧
  (∀ (s : State) (id : Nat) (data : List Byte), s.canMode 1 ≠ 0 →
    Gives (.rxPdo id data) s fun t =>
      (∀ i, i ∈ s.mappings false → s.pdoId i = id → s.pdoFits i data = true →
        (t.bus.pdo.get i).valid = true ∧ (t.bus.pdo.get i).time = s.time.ns ∧
        (f32Finite (s.pdoNumber i data) = true → (t.bus.pdo.get i).value =
          (f32Add (f32Mul (s.pdoNumber i data) (s.pdoScaling i).1) (s.pdoScaling i).2).toNat)) ∧
      (∀ i, i ∉ s.mappings false ∨ s.pdoId i ≠ id ∨ s.pdoFits i data = false → t.bus.pdo.get i = s.bus.pdo.get i) ∧
      t = { s with bus := { s.bus with pdo := t.bus.pdo }, freeCtr := t.freeCtr, out := [] }) ∧
  (∀ (s : State) (id : Nat), s.canMode 1 = 2 → (∃ i, i ∈ s.mappings true ∧ s.pdoId i = id) → s.pdoWithheld id = false →
    (s.can 1).fifo.length < 32 →
    Gives (.txPdoRefreshDue id) s fun t => (t.can 1).fifo = (s.can 1).fifo ++ [{ id := id, data := s.pdoData id }] ∧
      (∀ i, i ∈ s.mappings true → s.pdoId i = id → t.bus.pdo.get i = { s.bus.pdo.get i with changed := false }) ∧
      t = { s with bus := { s.bus with can := t.bus.can, pdo := t.bus.pdo }, freeCtr := t.freeCtr, out := [] }) ∧
  (∀ (s : State) (b node : Nat) (x : Sdo) (d : List Byte), b < 2 → s.sdo b = some x → s.canMode b ≠ 0 → s.nat (P.auxNodeId x.station) = node →
    d.length = 8 → d.getD 0 0#8 = 0x60#8 → x.write = true → x.segmented = false →
    Gives (.sdoResponse b node d) s fun t => t.sdo b = none ∧ t.prg = { s.prg with sdoAnswers := s.prg.sdoAnswers ++ [(b, 0, [])] } ∧
      t = { s with bus := { s.bus with sdo0 := t.bus.sdo0, sdo1 := t.bus.sdo1 }, prg := t.prg, out := [] }) ∧
  (∀ (s : State) (b : Nat) (x : Sdo), b < 2 → s.sdo b = some x →
    Gives (.sdoTimeout b) s fun t => t.sdo b = none ∧ t.prg = { s.prg with sdoAnswers := s.prg.sdoAnswers ++ [(b, 0x05040000, [])] } ∧
      t = { s with bus := { s.bus with can := t.bus.can, sdo0 := t.bus.sdo0, sdo1 := t.bus.sdo1 }, prg := t.prg, out := [] })

/-- Dispatch: a new order waits for its profile step, a master frame is kept, a missed order or stream is reported with RT.30 or
RT.31, a stop ramp that has reached rest lets the string open, the converter's status is taken or missed (LK.30), the statement
and an open notice are sent to every manager that can be reached (R365 to R367, R376, R379, R386 to R388). -/
def Obligations.DispatchCompletes : Prop :=
  (∀ (s : State) (f : SectionFrame) (order ack : Nat) (value : Int), s.takesSection 1 f (orderBytes order value ack) = true →
    s.prof.lastSeq ≠ some f.seq →
    (∀ x, x ∈ s.prof.waiting → x.1.seq ≠ f.seq) →
    Gives (.sectionOrder f order value ack) s fun t =>
      t.prof = { s.prof with waiting := s.prof.waiting ++ [({ seq := f.seq, code := order, value := value }, !f.early)] } ∧
      t.sec = { s.sec with epoch := f.epoch, notices := s.sec.notices.filter fun n => !n.acked ack } ∧
      t.twin = { s.twin with managerAt := some s.time.ns } ∧ t.flt = (s.endFault (src 7 12) noItem).flt ∧
      t = { s with prof := t.prof, sec := t.sec, twin := t.twin, flt := t.flt, out := [] }) ∧
  (∀ (s : State) (f : SectionFrame) (position reserved : Nat) (master : Int),
    s.takesSection 2 f (masterBytes master position reserved) = true →
    s.prof.masters = [] → s.prof.lateMasters = [] → f.early = true →
    Gives (.masterStreamFrame f master position reserved) s fun t => t.prof = { s.prof with
        masters := [{ time := f.seconds * 1000000000 + f.nanos, master := master, position := position }], gear := s.regear position 16 s.prof.gear
        streamLost := false } ∧ t.sec = { s.sec with epoch := f.epoch } ∧ t.flt = (s.endFault (src 7 31) noItem).flt ∧
      t = { s with prof := t.prof, sec := t.sec, flt := t.flt, out := [] }) ∧
  (∀ s : State, s.modes.mode = .m5 → s.active = true → s.prof.ordersLost = false → s.prof.stopRamp = none → s.prof.openWait = false →
    s.saf.opening = none → s.prof.moving = false → s.whole (src 7 30) noItem →
    Gives .orderTimeout s fun t => t.present (src 7 30) noItem ∧ t.prof.ordersLost = true ∧
      t.prof.inForce = some { seq := timeoutSeq, code := 0, value := 0 } ∧ t.prof.target = 0 ∧ t.prof.request = 0 ∧
      t.unreported = { s.unreported with prof := t.prof }) ∧
  (∀ s : State, s.modes.mode = .m5 → s.active = true → s.prof.ordersLost = false → s.prof.stopRamp = some true → s.whole (src 7 30) noItem →
    Gives .orderTimeout s fun t => t.present (src 7 30) noItem ∧ t.unreported = { s.unreported with prof := { s.prof with ordersLost := true } }) ∧
  (∀ s : State, s.onString = true → s.active = true → s.prof.following = true → s.whole (src 7 31) noItem →
    Gives .streamTimeout s fun t => t.present (src 7 31) noItem ∧ t.unreported = { s.unreported with prof := { s.prof with streamLost := true } }) ∧
  (∀ s : State, s.prof.stopRamp = some true → s.prof.i = 0 → s.prof.v = 0 → s.prof.a = 0 → s.saf.opening = none →
    Gives .stopRampComplete s fun t => t = { s with prof := { s.prof with openWait := true, moving := false }, out := [] }) ∧
  (∀ (s : State) (crc count st dis chg : Nat), s.canMode 0 ≠ 0 → s.sec.convCount ≠ some count → st ≠ 4 →
    crc = crc16 (wireBytes [(1, count), (1, st), (2, dis), (2, chg)]) →
    Gives (.converterStatusFrame crc count st dis chg) s fun t => t.sec = { s.sec with
        convCount := some count, convState := st, convDis := dis, convChg := chg, convFresh := true } ∧
      t = { s with sec := t.sec, flt := t.flt, out := [] }) ∧
  (∀ s : State, s.canMode 0 ≠ 0 → s.onString = true → s.whole (src 1 30) (itemBus 0) →
    Gives .converterStatusTimeout s fun t => t.sec.convFresh = false ∧ t.present (src 1 30) (itemBus 0) ∧ t.unacted = s.unacted) ∧
  (∀ s : State, s.netUp = true →
    Gives .statementDue s fun t => t.sec = { s.sec with
        curMean := divNear s.sec.curSum 100, curSum := 0, seqStatement := wrapU 16 (s.sec.seqStatement + 1) } ∧
      t.out = (s.managers.filter s.reaches).map (fun a =>
        .sectionFrame a 3 t.sec.seqStatement s.sec.epoch s.stringNo s.pos s.time.ns t.statementBody) ∧
      s.sentRct t (s.managers.filter s.reaches).length ∧ t = { s with sec := t.sec, net := t.net, out := t.out }) ∧
  (∀ (s : State) (n : Notice), s.active = true → s.netUp = true →
    s.sec.notices.find? (fun m => decide (m.number = n.number) && m.sent) = some n →
    Gives (.noticeRepeatDue n.number) s fun t => t.sec.seqNotice = wrapU 16 (s.sec.seqNotice + 1) ∧
      t.out = (s.managers.filter s.reaches).map (fun a =>
        .sectionFrame a 4 t.sec.seqNotice s.sec.epoch s.stringNo s.pos s.time.ns
          [(4, n.number), (1, b2n n.p1), (1, n.cause), (2, n.source), (1, n.grade), (1, n.rail), (2, n.brick)]) ∧
      s.sentRct t (s.managers.filter s.reaches).length ∧
      t = { s with sec := { s.sec with seqNotice := t.sec.seqNotice, notices := t.sec.notices }, net := t.net, out := t.out })

/-- Supplies and their monitors: one input failed raises PW.01 and the other carries the module, both failed is Hold-up with PW.02,
an input back ends it; the bank at its cut-off holds the main domain in reset with every P-switch open; SAFE_SUP and the presence
loop open every H-switch with SI.05 and SI.06; rail monitors raise PW.03 and PW.04; the keep-alive lost with the main domain off
stops Night Safe; a bank charge gives the capacitance (R21, R58, R67, R70, R71, R602, R603, R605, R608). -/
def Obligations.SuppliesComplete : Prop :=
  (∀ s : State, s.power.supB = true → s.power.mainUp = true → s.power.mainHeld = false → s.whole (src 4 1) (itemContact 1) →
    Gives (.supplyInputFailed false) s fun t => t.present (src 4 1) (itemContact 1) ∧
      t.unreported = { s.unreported with power := { s.power with supA := false } }) ∧
  (∀ s : State, s.power.supA = true → s.power.supB = false → s.power.mainUp = true → s.power.mainHeld = false → s.power.onBank = false →
    s.whole (src 4 2) noItem → s.instOf (src 4 2) noItem = none →
    Gives (.supplyInputFailed false) s fun t => t.power = { s.power with supA := false, onBank := true } ∧ t.trs.state = 2 ∧
      t.present (src 4 2) noItem ∧ t.allOpen ∧ t.prof.i = 0 ∧ t.prof.target = 0 ∧ t.prg.state = 0 ∧
      t.par = { s.par with sealing := t.par.sealing } ∧ t.bricks = s.bricks) ∧
  (∀ s : State, s.power.onBank = true →
    Gives (.supplyInputRestored true) s fun t => t.power = { s.power with supB := true, onBank := false } ∧
      t.unreported = { s.unreported with power := t.power }) ∧
  (∀ s : State, s.power.mainUp = true → s.power.supA = false → s.power.supB = false → s.power.kaPresent = true →
    Gives .holdUpBankCutoff s fun t => t.power.bankMilliVolt = 20000 ∧ t.power.mainUp = false ∧ t.power.onBank = false ∧ t.power.cutOff = true ∧ t.power.mainHeld = true ∧
      t.saf.coil = 0 ∧ t.saf.keep = 0 ∧ t.saf.pRead = 0 ∧ t.arch = s.arch ∧ t.par = s.par ∧ t.flt = s.flt) ∧
  (∀ s : State, s.power.mainUp = true → s.power.mainHeld = false → s.whole (src 3 5) noItem →
    s.instOf (src 3 5) noItem = none →
    Gives .safeSupLost s fun t => t.power = { s.power with safeSup := false, safeSupSettled := false } ∧ t.allOpen ∧
      t.present (src 3 5) noItem ∧ t.unacted = { s.unacted with power := t.power }) ∧
  (∀ s : State, Gives .safeSupRestored s fun t => t.power = { s.power with safeSup := true, safeSupSettled := true } ∧
    t.saf = { s.saf with hClosed := 0, hArmed := 0 } ∧ t.modes.dormantEntry = false ∧ t.unacted = { s.unacted with power := t.power }) ∧
  (∀ s : State, s.power.mainUp = true → s.power.mainHeld = false → s.whole (src 3 6) noItem →
    s.instOf (src 3 6) noItem = none →
    Gives .presenceLoopBroken s fun t => t.power = { s.power with presence := false, presenceHeld := true } ∧ t.allOpen ∧
      t.present (src 3 6) noItem ∧ t.unacted = { s.unacted with power := t.power }) ∧
  (∀ s : State, Gives .presenceLoopClosed s fun t => t.flt = (s.endFault (src 3 6) noItem).flt ∧
    t = { s with power := { s.power with presence := true }, flt := t.flt, out := [] }) ∧
  (∀ (s : State) (m v : Nat), m = 2 ∨ 6 ≤ m ∧ m < 12 → railOut m v = true → s.whole (src 4 4) (itemMonitor m) →
    Gives (.supplyRailOutOfRange m v) s fun t => t.trs.monitors.get m = { value := v, out := true } ∧ t.present (src 4 4) (itemMonitor m) ∧
      (∀ k, k ≠ m → t.trs.monitors.get k = s.trs.monitors.get k) ∧
      t.unacted = { s.unacted with trs := { s.trs with monitors := t.trs.monitors } }) ∧
  (∀ (s : State) (v : Nat), v < 9500 → s.whole (src 4 3) (itemPin 0 31) →
    Gives (.supplyRailOutOfRange 4 v) s fun t => t.trs.monitors.get 4 = { value := v, out := true } ∧ t.power.kaMilliVolt = v ∧
      t.present (src 4 3) (itemPin 0 31) ∧ t.modes.dormantEntry = false) ∧
  (∀ (s : State) (m v : Nat), m < 12 → m ≠ 4 → railBack m v = true →
    Gives (.supplyRailBackInRange m v) s fun t => t.trs.monitors.get m = { value := v, out := false } ∧
      t.flt = (s.endFault (src 4 4) (itemMonitor m)).flt ∧ (∀ k, k ≠ m → t.trs.monitors.get k = s.trs.monitors.get k) ∧
      t = { s with
        power := { s.power with bankMilliVolt := if m = 3 then v else s.power.bankMilliVolt }
        trs := { s.trs with monitors := t.trs.monitors }, flt := t.flt, out := [] }) ∧
  (∀ s : State, s.power.mainUp = false →
    Gives .keepAliveLost s fun t => t = { s with
      power := { s.power with kaPresent := false, kaMilliVolt := 0 }, night := { lost := true }
      arch := { s.arch with regionGood := 0 }, out := [] }) ∧
  (∀ (s : State) (t : Nat), s.power.mainUp = true →
    Gives (.bankCharge30vTo40v t) s fun u => u.power = { s.power with bankMilliVolt := 40000 } ∧
      u.age.cap = satU 16 (divNear t 40).toNat ∧ u.age.energy = satU 16 (divNear t 40).toNat * 768 / 100 ∧
      u.unreported = { s.unreported with power := u.power, age := u.age })

/-- Failures inside the module: a keep signal that stops opens its path, a Guard lockstep mismatch opens every one; a watchdog or a
double-bit error resets its engine with a new epoch and PR.01, one of the Wicket or Guard core is a warm restart with PR.02;
single-bit errors are counted; a clock lost holds the main domain in reset, back it is a warm restart; messages for an engine in
reset expire; a power cycle clears the lockout latches (R20, R23 to R26, R28, R37, R41, R88, R121). -/
def Obligations.FailuresComplete : Prop :=
  (∀ (s : State) (p : Nat), p < 20 → Gives (.keepSignalTimeout p) s fun t => t.saf = { s.saf with
      keep := putBit s.saf.keep p false, pRead := putBit s.saf.pRead p false, chopping := putBit s.saf.chopping p false } ∧
    t = { s with saf := t.saf, out := [] }) ∧
  (∀ s : State, Gives .guardLockstepMismatch s fun t => t = { s with
    arch := { s.arch with guardStopped := true }, saf := { s.saf with keep := 0, pRead := 0, chopping := 0, pulse := none }, out := [] }) ∧
  (∀ (s : State) (e : Nat), e = 1 ∨ e = 8 →
    Gives (.engineWatchdogExpiry e) s fun t => t.modes.restartPending = some true ∧ t.modes.restartCause = src 5 2 ∧
      t.modes.restartEngine = e ∧ t.power.mainHeld = true ∧ t.saf.coil = 0 ∧ t.saf.keep = 0 ∧ t.par = s.par ∧ t.flt = s.flt) ∧
  (∀ (s : State) (e : Nat), 2 ≤ e → e ≤ 7 → s.whole (src 5 1) (itemEngine e) →
    Gives (.engineWatchdogExpiry e) s fun t => (t.arch.engines.get e).epoch = wrapU 16 ((s.arch.engines.get e).epoch + 1) ∧
      (t.arch.engines.get e).inReset = true ∧ t.present (src 5 1) (itemEngine e) ∧
      (∀ k, k ≠ e → t.arch.engines.get k = s.arch.engines.get k) ∧ t.par = s.par ∧ t.bricks = s.bricks) ∧
  (∀ (s : State) (region : Nat), s.whole (src 5 6) (itemRegion region) →
    Gives (.eccSingleBitError region) s fun t => t.arch = { s.arch with eccCorrected := satU 32 (s.arch.eccCorrected + 1) } ∧
      t.present (src 5 6) (itemRegion region) ∧ t.unreported = { s.unreported with arch := t.arch }) ∧
  (∀ (s : State) (e : Nat), 2 ≤ e → e ≤ 7 →
    exec (.eccDoubleBitError (.dram e)) s = exec (.engineWatchdogExpiry e) s ∧
      exec (.eccDoubleBitError (.engine e)) s = exec (.engineWatchdogExpiry e) s ∧
      Gives (.eccDoubleBitError (.dram e)) s fun t => (t.arch.engines.get e).inReset = true) ∧
  (∀ (s : State) (r : Nat), Gives (.eccDoubleBitError (.retained r)) s fun t =>
    t = { s with arch := { s.arch with regionGood := putBit s.arch.regionGood r false }, out := [] }) ∧
  (∀ s : State, Gives .fabricClockDeparture s fun t => t.power = { s.power with fabricClockGood := false, mainHeld := true } ∧
    t.saf.coil = 0 ∧ t.saf.keep = 0 ∧ t.par = s.par ∧ t.flt = s.flt ∧ t.modes = s.modes) ∧
  (∀ s : State, s.power.fabricClockGood = false → Gives .fabricClockReturn s fun t => t.power.fabricClockGood = true ∧
    t.modes.restartPending = some true ∧ t.modes.restartCause = src 5 4 ∧ t.modes.startKind = .warmRestart ∧ t.power.mainHeld = true ∧
    t.par = s.par ∧ t.flt = s.flt) ∧
  (∀ s : State, Gives .synthLockLost s fun t => t.power = { s.power with synthLocked := false, mainHeld := true } ∧ t.saf.coil = 0 ∧
    t.saf.keep = 0 ∧ t.par = s.par ∧ t.flt = s.flt ∧ t.modes = s.modes) ∧
  (∀ s : State, s.power.synthLocked = false → Gives .synthLockReturn s fun t => t.power.synthLocked = true ∧
    t.modes.restartPending = some true ∧ t.modes.restartCause = src 5 3 ∧ t.modes.startKind = .warmRestart ∧ t.power.mainHeld = true ∧
    t.par = s.par ∧ t.flt = s.flt) ∧
  (∀ (s : State) (e : Nat), 1 ≤ e → e ≤ 8 → (s.arch.engines.get e).inReset = true → 0 < (s.arch.engines.get e).buffer.length →
    s.wk.fabric = [] → s.whole (src 5 7) (itemEngine e) →
    Gives (.fabricBufferExpiry e) s fun t => t.arch.engines.get e = { s.arch.engines.get e with
        buffer := [], drops := satU 32 ((s.arch.engines.get e).drops + (s.arch.engines.get e).buffer.length) } ∧
      t.present (src 5 7) (itemEngine e) ∧ (∀ k, k ≠ e → t.arch.engines.get k = s.arch.engines.get k) ∧
      t.unacted = { s.unacted with arch := { s.arch with engines := t.arch.engines } }) ∧
  (∀ (s : State) (ms : Nat), 2400 ≤ ms → s.modes.latchStrong = true → s.modes.latchNight = true →
    Gives (.powerCycle ms) s fun t => t.modes.latchStrong = false ∧ t.modes.latchNight = false ∧ t.modes.latchCleared = true ∧
      t.power.mainUp = false ∧ t.allOpen ∧ t.par = s.par ∧ t.upd.control = s.upd.control) ∧
  (∀ (s : State) (ms : Nat), ms < 2000 →
    Gives (.powerCycle ms) s fun t => t.modes.latchStrong = s.modes.latchStrong ∧ t.modes.latchNight = s.modes.latchNight ∧
      t.power.mainUp = false ∧ t.allOpen) ∧
  (∀ s : State, s.power.mainUp = true → s.power.mainHeld = false → s.modes.mode ≠ .m2 →
    Gives .recoveryButtonPress s fun t => t.modes.dormantEntry = (s.modes.dormantEntry && !bitOf (s.nat P.nsWakeMask) 7) ∧ t.unreported = { s.unreported with modes := t.modes })

/-- Dormant and Night Safe (R94, R95, R110 to R117): a Dormant request whose conditions hold begins an entry, the handover puts the
module to M0 at the next millisecond with every P-switch open, Night Safe samples and counts on its own grid, and each of its wakes
starts the module in M1 when a supply is good. -/
def Obligations.DormantAndWakesComplete : Prop :=
  (∀ s : State, s.nat P.modeDormantIdle ≠ 0 → s.twin.role ≠ .standby → s.twin.role ≠ .coldStandby → s.modes.dormantEntry = false →
    s.dormantUnmet = none →
    Gives .dormantIdleExpiry s fun t => t.modes = { s.modes with
        dormantEntry := true, dormantSweeps := 0, dormantSealed := false, dormantChecked := false, stopDue := true } ∧
      bitOf t.vault.queued 5 = true ∧ t.night.wakeMask = s.nat P.nsWakeMask ∧
      t.unreported = { s.unreported with modes := t.modes, night := t.night, vault := { s.vault with queued := t.vault.queued } }) ∧
  (∀ s : State, s.modes.mode = .m4 → s.modes.dormantEntry = true → s.modes.dormantSealed = true → s.twin.role ≠ .standby →
    s.modes.restartPending = none → s.saf.close = none →
    Gives .dormantHandover s fun t => t.modes.mode = .m0 ∧ t.modes.dormantEntry = false ∧ t.modes.housekeeping = false ∧ t.night.inCharge = true ∧
      t.time = { s.time with ns := (s.time.ns / 1000000 + 1) * 1000000 } ∧ t.night.tookAt = t.time.ns ∧ t.trs.state = 3 ∧
      t.power = { s.power with mainHeld := true, mainUp := false } ∧ t.saf.coil = 0 ∧ t.saf.keep = 0 ∧ t.flt = s.flt ∧ t.par = s.par ∧
      t.bricks = s.bricks) ∧
  (∀ (s : State) (x : NightInputs), s.night.inCharge = true →
    Gives (.nightSafeSample x) s fun t => t.time = { s.time with ns := (s.time.ns / 10000000 + 1) * 10000000 } ∧
      t.night.inputRun = (if x.inputs = s.night.inputBase then 0 else s.night.inputRun + 10) ∧
      t.night.buttonRun = (if x.button then s.night.buttonRun + 10 else 0) ∧ t.night.safeSupWas = x.safeSup ∧ t.flt = s.flt ∧
      t.par = s.par ∧ t.saf = s.saf ∧ t.bricks = s.bricks) ∧
  (∀ (s : State) (x : NightInputs), s.night.inCharge = true → x.button = true → 40 ≤ s.night.buttonRun → bitOf s.night.wakeMask 7 = true →
    s.night.heldWake = none → s.power.supA = true →
    Gives (.nightSafeSample x) s fun t => t.modes.mode = .m1 ∧ t.night.inCharge = false ∧ bitOf t.night.lastWake 7 = true ∧
      t.modes.restartPending = some true ∧ t.modes.startKind = .wake) ∧
  (∀ (s : State) (hall : List Int), s.night.inCharge = true → s.power.safeSup = true →
    Gives (.nightSafeCount hall) s fun t => (∀ r, r < 8 → s.railUsed r = true → t.night.rails.get r = { s.night.rails.get r with
        charge := wrapI 64 ((s.night.rails.get r).charge + divNear ((s.night.rails.get r).current (hall.getD r 0)) 10)
        samples := (s.night.rails.get r).samples + 1
        peak := max (s.night.rails.get r).peak ((s.night.rails.get r).current (hall.getD r 0)).natAbs }) ∧
      t = { s with night := { s.night with rails := t.night.rails }, out := [] }) ∧
  (∀ (s : State) (hall : List Int), s.night.inCharge = true → s.power.safeSup = false →
    Gives (.nightSafeCount hall) s fun t => (∀ r, r < 8 → s.railUsed r = true → t.night.rails.get r = { s.night.rails.get r with
        gap := (s.night.rails.get r).gap + 1 }) ∧ t = { s with night := { s.night with rails := t.night.rails }, out := [] }) ∧
  (∀ s : State, s.night.inCharge = true → s.night.heldWake = none → s.power.supA = true →
    Gives .housekeepingTimer s fun t => t.modes = { s.modes with
        mode := .m1, restartPending := some true, restartCause := 0, startKind := .wake, housekeeping := true } ∧
      t.night.inCharge = false ∧ t.night.lastWake = 0x10 ∧ t.power = { s.power with mainUp := true, mainHeld := true, poweringUp := true } ∧
      t = { s with modes := t.modes, night := t.night, power := t.power, out := [] }) ∧
  (∀ (s : State) (b : Nat), b < 2 → b < canCount s.ident.variant → bitOf s.night.wakeMask 3 = true → s.night.inCharge = true →
    s.night.heldWake = none → s.power.supA = true →
    Gives (.canWakeUpPattern b) s fun t => t.modes.mode = .m1 ∧ t.night.inCharge = false ∧ t.night.lastWake = 8 ∧
      t.modes.startKind = .wake ∧ t = { s with modes := t.modes, night := t.night, power := t.power, out := [] }) ∧
  (∀ s : State, s.modes.housekeeping = true → s.modes.mode = .m4 → s.upd.holder.isSome = true →
    Gives .housekeepingStayExpiry s fun t => t = { s with modes := { s.modes with housekeeping := false }, out := [] }) ∧
  (∀ s : State, s.modes.housekeeping = true → s.modes.mode = .m4 → s.faultAt 2 = false → (∀ i, i < 4 → (s.slot i).session = none) →
    s.prof.pendingOrder = none → s.prof.waiting = [] → s.upd.holder = none → s.twin.role ≠ .standby → s.twin.role ≠ .coldStandby →
    s.modes.dormantEntry = false → s.dormantUnmet = none →
    Gives .housekeepingStayExpiry s fun t => t.modes.housekeeping = false ∧ t.modes.dormantEntry = true ∧ t.flt = s.flt ∧ t.saf = s.saf)

/-- HOLD ends, a pending restart begins and straps that have changed are reported (R84, R93, R98, R101): the stop ramp starts in M6,
the main domain goes into reset with every P-switch open, and each pin that differs raises RT.03. -/
def Obligations.ModeEventsComplete : Prop :=
  (∀ s : State, s.modes.mode = .m6 → s.active = true → s.prof.stopRamp = none → s.prof.openWait = false → s.saf.opening = none →
    Gives .holdTimeout s fun t => t = { s with
      prof := { s.prof with stopRamp := some true, target := 0, moving := true, pendingOrder := none, stopCause := 0 }, out := [] }) ∧
  (∀ (s : State) (warm : Bool), s.modes.restartPending = some warm → s.power.mainHeld = false →
    Gives .pendingRestartBegin s fun t => t.power = { s.power with mainHeld := true } ∧ t.modes.restartPending = some warm ∧
      t.modes.startKind = (if warm then .warmRestart else .coldRestart) ∧ t.saf.coil = 0 ∧ t.saf.keep = 0 ∧ t.flt = s.flt ∧
      t.par = s.par ∧ t.bricks = s.bricks) ∧
  (∀ (s : State) (pins : StrapPins), s.power.mainUp = true → s.power.mainHeld = false → s.modes.mode.runs = true → s.flt.broken = [] →
    Gives (.strapPoll pins) s fun t => (∀ x, x ∈ (strapPins pins).zip (strapPins s.power.straps) → x.1.2 ≠ x.2.2 → t.present (src 7 3) x.1.1) ∧
      t.unacted = s.unacted)

/-- Strongroom's lines (R413 to R415): TRIP_REQUEST opens and disarms every H-switch and ends a pulse; ARM_REQUEST arms and closes the
switches of its mask when nothing forbids it; DISARM_REQUEST opens them once every P-switch reads open. -/
def Obligations.StrongroomLinesComplete : Prop :=
  (∀ s : State, Gives .tripRequest s fun t => t.saf.hClosed = 0 ∧ t.saf.hArmed = 0 ∧ t.saf.tripReq = true ∧ t.saf.pulse = none ∧
    t.saf.coil = s.saf.coil ∧ t.saf.keep = s.saf.keep ∧ t = { s with saf := t.saf, out := [] }) ∧
  (∀ (s : State) (mask : Nat), mask < 2 ^ 20 → s.mayArm = true →
    Gives (.armRequest mask) s fun t => t = { s with
      saf := { s.saf with hArmed := s.saf.hArmed ||| mask, hClosed := s.saf.hClosed ||| mask }, out := [] }) ∧
  (∀ (s : State) (mask : Nat), mask < 2 ^ 20 → s.mayArm = false → exec (.armRequest mask) s = .next { s with out := [] }) ∧
  (∀ s : State, s.saf.pRead = 0 → Gives .disarmRequest s fun t => t = { s with saf := { s.saf with hClosed := 0, hArmed := 0 }, out := [] })

/-- A demand opens every coil path (R410, R419 to R421, R426): a safe input that opens, or whose channels disagree for too long,
and a Hall reading beyond its threshold; an input resets by itself where the settings say so; sides that disagree raise SI.28. -/
def Obligations.SafetyDemandsComplete : Prop :=
  (∀ (s : State) (k : Nat) (ch1 ch2 : Int), k < 8 → s.power.mainUp = true → s.power.mainHeld = false → s.arch.guardStopped = false →
    s.inputUsed k = true → ch1 < 15000 ∨ ch2 < 15000 →
    Gives (.safeInputChange k true ch1 ch2) s fun t => (t.saf.guardIn.get k).demand = true ∧
      (t.saf.guardIn.get k).ch1 = decide (15000 ≤ ch1) ∧ (t.saf.guardIn.get k).ch2 = decide (15000 ≤ ch2) ∧ t.allOpen ∧ t.saf.strongIn = s.saf.strongIn ∧ t.unacted = s.unacted) ∧
  (∀ (s : State) (k : Nat) (ch1 ch2 : Int), k < 8 → s.power.mainUp = true → s.power.mainHeld = false →
    s.inputUsed k = true → ch1 < 15000 ∨ ch2 < 15000 →
    Gives (.safeInputChange k false ch1 ch2) s fun t => (t.saf.strongIn.get k).demand = true ∧
      (t.saf.strongIn.get k).ch1 = decide (15000 ≤ ch1) ∧ (t.saf.strongIn.get k).ch2 = decide (15000 ≤ ch2) ∧ t.allOpen ∧ t.saf.guardIn = s.saf.guardIn ∧ t.unacted = s.unacted) ∧
  (∀ (s : State) (k : Nat) (ch1 ch2 : Int), k < 8 → s.power.mainUp = true → s.power.mainHeld = false → s.arch.guardStopped = false →
    s.inputUsed k = true → (s.saf.guardIn.get k).discrepancy = false → 15000 ≤ ch1 → 15000 ≤ ch2 →
    Gives (.safeInputChange k true ch1 ch2) s fun t => t.saf.guardIn.get k = { s.saf.guardIn.get k with
        taken := true, ch1 := true, ch2 := true, closedSeen := (s.saf.guardIn.get k).demand } ∧
      t.saf = { s.saf with guardIn := t.saf.guardIn } ∧
      t.modes.dormantEntry = (s.modes.dormantEntry && !bitOf (s.nat P.nsWakeMask) 2) ∧ t.flt = s.flt ∧ t.unacted = s.unacted) ∧
  (∀ (s : State) (k : Nat), k < 8 → s.inputUsed k = true → (s.saf.guardIn.get k).taken = true →
    (s.saf.guardIn.get k).ch1 ≠ (s.saf.guardIn.get k).ch2 →
    Gives (.discrepancyTimeout k true) s fun t => (t.saf.guardIn.get k).demand = true ∧ (t.saf.guardIn.get k).discrepancy = true ∧ t.allOpen ∧
      t.saf.strongIn = s.saf.strongIn ∧ t.unacted = s.unacted) ∧
  (∀ (s : State) (k : Nat), k < 8 → (s.saf.guardIn.get k).demand = true → (s.saf.guardIn.get k).discrepancy = false →
    (s.saf.guardIn.get k).closedSeen = true → (s.saf.guardIn.get k).ch1 = true → (s.saf.guardIn.get k).ch2 = true →
    bitOf (s.nat P.safInputAutoReset) k = true →
    Gives (.autoResetTimeout k true) s fun t => t.saf.guardIn.get k = { s.saf.guardIn.get k with
        demand := false, discrepancy := false, openSeen := false, closedSeen := false } ∧
      (∀ j, j ≠ k → t.saf.guardIn.get j = s.saf.guardIn.get j) ∧
      t.unreported = { s.unreported with saf := { s.saf with guardIn := t.saf.guardIn } }) ∧
  (∀ (s : State) (k : Nat), k < 8 → (s.saf.strongIn.get k).discrepancy ≠ (s.saf.guardIn.get k).discrepancy → s.whole (src 3 28) (itemInput k) →
    Gives (.safetyDisagreeTimeout k) s fun t => t.present (src 3 28) (itemInput k) ∧ t.unacted = s.unacted) ∧
  (∀ (s : State) (r : Nat) (before now : Int), r < 8 → 10 * s.saf.vth.getD r 0 ≤ now.natAbs → s.power.mainUp = true → s.power.mainHeld = false →
    Gives (.hallThresholdCrossed r false before now) s fun t => t.saf.sf4Strong = putBit s.saf.sf4Strong r true ∧ t.allOpen ∧
      t.unacted = s.unacted) ∧
  (∀ (s : State) (r : Nat) (before now : Int), r < 8 → now.natAbs < 10 * s.saf.vth.getD r 0 → bitOf s.saf.sf4Guard r = false →
    Gives (.hallThresholdCrossed r false before now) s fun t => t.saf = { s.saf with sf4Strong := putBit s.saf.sf4Strong r false } ∧
      t.flt = (s.endFault (src 3 (40 + r)) (itemRail r)).flt ∧ t = { s with saf := t.saf, flt := t.flt, out := [] })

/-- Switch tests (R429 to R434, R440): an off-pulse opens its switch, is checked, closes it again and counts; a switch that stays on
raises SI.30 or SI.31, one that stays off is a demand with SI.32; the pair offset is measured; a coil drops to economy. -/
def Obligations.SwitchTestsComplete : Prop :=
  (∀ (s : State) (p : Nat), p < 20 → s.power.mainUp = true → s.power.mainHeld = false → s.arch.guardStopped = false →
    s.saf.deferred = false → s.saf.pulse = none → bitOf s.saf.coil p = true → bitOf s.saf.keep p = true →
    Gives (.offPulseStart (2 * p)) s fun t => t = { s with
      saf := { s.saf with
        pulse := some { path := p, hSwitch := false, chop := bitOf s.saf.chopping p }, chopping := putBit s.saf.chopping p false
        keep := putBit s.saf.keep p false }
      out := [] }) ∧
  (∀ (s : State) (p : Nat), p < 20 → s.power.mainUp = true → s.power.mainHeld = false → s.arch.guardStopped = false →
    s.saf.deferred = false → s.saf.pulse = none → bitOf s.saf.hClosed p = true →
    Gives (.offPulseStart (2 * p + 1)) s fun t => t.out = [.strongroom 1 (2 ^ p)] ∧ t = { s with
      saf := { s.saf with
        pulse := some { path := p, hSwitch := true, chop := bitOf s.saf.chopping p }, chopping := putBit s.saf.chopping p false }
      out := t.out }) ∧
  (∀ (s : State) (p : Nat), p < 20 → bitOf s.saf.hClosed p = true → bitOf s.saf.hArmed p = true → s.power.mainUp = true →
    s.power.mainHeld = false →
    Gives (.pulsePermit p) s fun t => t = { s with saf := { s.saf with permit := some p, hClosed := putBit s.saf.hClosed p false }, out := [] }) ∧
  (∀ (s : State) (x : PulseTest) (mv : Int), s.saf.pulse = some x → x.phase = 0 →
    (if x.hSwitch then hReadsOpen mv = true else pReadsOn mv = false) →
    Gives (.offPulseOffCheck mv) s fun t => t = { s with saf := { s.saf with pulse := some { x with phase := 1, failed := false } }, out := [] }) ∧
  (∀ (s : State) (x : PulseTest) (mv : Int), s.saf.pulse = some x → x.phase = 0 → x.hSwitch = true → hReadsOpen mv = false →
    s.whole (src 3 31) (itemSwitch x.path true) →
    Gives (.offPulseOffCheck mv) s fun t => t.present (src 3 31) (itemSwitch x.path true) ∧ t.unacted = s.unacted) ∧
  (∀ (s : State) (x : PulseTest), s.saf.pulse = some x → x.phase = 1 →
    Gives .offPulseRestore s fun t => t = { s with
      saf := { s.saf with
        pulse := some { x with phase := 2 }, permit := none
        keep := if !x.hSwitch && bitOf s.saf.coil x.path then putBit s.saf.keep x.path true else s.saf.keep
        hClosed := if x.hSwitch && bitOf s.saf.hArmed x.path then putBit s.saf.hClosed x.path true else s.saf.hClosed }
      out := [] }) ∧
  (∀ (s : State) (x : PulseTest) (mv : Int), s.saf.pulse = some x → x.phase = 2 → x.hSwitch = false → bitOf s.saf.coil x.path = true →
    x.failed = false → pReadsOn mv = true →
    Gives (.offPulseOnCheck mv) s fun t => t = { s with
      saf := { s.saf with
        pulse := none, chopping := if x.chop then putBit s.saf.chopping x.path true else s.saf.chopping
        pulseCount := satU 32 (s.saf.pulseCount + 1) }
      out := [] }) ∧
  (∀ (s : State) (x : PulseTest) (mv : Int), s.saf.pulse = some x → x.phase = 2 → x.hSwitch = false → bitOf s.saf.coil x.path = true →
    pReadsOn mv = false →
    Gives (.offPulseOnCheck mv) s fun t => t.allOpen ∧ t.saf.pulse = none ∧ t.saf.pulseCount = s.saf.pulseCount ∧ t.unacted = s.unacted) ∧
  (∀ (s : State) (p : Nat), p < 20 → 3 ≤ s.saf.disagree.get p → bitOf s.saf.coil p = true → bitOf s.saf.pRead p = false →
    Gives (.readbackDisagreeCount p false) s fun t => t.allOpen ∧ t.unacted = s.unacted) ∧
  (∀ (s : State) (p : Nat), p < 20 → 3 ≤ s.saf.disagree.get p → bitOf s.saf.coil p = false → bitOf s.saf.pRead p = true →
    s.whole (src 3 30) (itemSwitch p false) →
    Gives (.readbackDisagreeCount p false) s fun t => t.present (src 3 30) (itemSwitch p false) ∧ t.unacted = s.unacted) ∧
  (∀ s : State, s.twin.linkUp = true → s.coreUp = true → Gives .pairOffsetMeasure s fun t => t.out = [.twin 4 false []] ∧
    t.saf = { s.saf with deferred := s.flag P.twinPaired && decide (1000000 < s.saf.pairOffset.natAbs) } ∧
    t.net = (s.awaitStamp 2 4 s.secs).net ∧
    t.unreported = { s.unreported with saf := t.saf, net := t.net, twin := { s.twin with offsetT1 := none } }) ∧
  (∀ (s : State) (p : Nat), p < 20 → bitOf s.saf.coil p = true → bitOf s.saf.keep p = true → s.saf.pulse = none →
    s.nat P.safEconomyDuty < 1000 →
    Gives (.economyChopStart p) s fun t => t = { s with saf := { s.saf with chopping := putBit s.saf.chopping p true }, out := [] }) ∧
  (∀ (s : State) (p : Nat) (q : PartnerStatus), p < 20 → s.twin.partner = some q → bitOf q.coil p = true → s.active = true → s.fitted = true →
    bitOf s.saf.coil p = false → Gives (.standbyFollowTimeout p) s fun t => t.allOpen ∧ t.unacted = s.unacted)

/-- The close sequence (R436): its rows follow one another, each with the contactors it closes or opens; the precharge leads to the
main positive contactor, or fails after its time with SI.51; at the end the module is in M5. The controlled opening (R443, R445): after
the stop ramp the main contactors open, then the poles, then the discharge contactor closes, and at the end every P-switch is off and
the module is in M4. -/
def Obligations.ContactorSequencesComplete : Prop :=
  (∀ (s : State) (c : CloseSeq), s.saf.close = some c → c.stage = 2 ∨ c.stage = 5 ∨ c.stage = 9 ∨ c.stage = 12 →
    Gives .closeSequenceStep s fun t => t = { s with
      saf := { s.saf with close := some { c with stage := c.stage + 1, hot := 0, high := false } }, out := [] }) ∧
  (∀ (s : State) (c : CloseSeq) (k mask : Nat), s.saf.close = some c →
    (k = 4 ∧ mask = poleMask c.rails 0) ∨ (k = 8 ∧ mask = 2 ^ 18) ∨ (k = 11 ∧ mask = 2 ^ 17) → c.stage = k →
    Gives .closeSequenceStep s fun t => t = { s with
      saf := { s.saf with
        close := some { c with stage := k + 1, hot := 0, high := false }, coil := s.saf.coil ||| mask, keep := s.saf.keep ||| mask }
      out := [] }) ∧
  (∀ (s : State) (c : CloseSeq), s.saf.close = some c → c.stage = 15 →
    Gives .closeSequenceStep s fun t => t.saf.close = some { c with stage := 16, hot := 0, high := false } ∧
      t.saf.coil = putBit s.saf.coil 18 false ∧ t.saf.keep = putBit s.saf.keep 18 false ∧ t = { s with saf := t.saf, out := [] }) ∧
  (∀ (s : State) (c : CloseSeq), s.saf.close = some c → c.stage = 16 → bitOf s.saf.pRead 18 = false →
    Gives .closeSequenceStep s fun t => t.modes = { s.modes with mode := .m5 } ∧ t.saf = { s.saf with close := none } ∧
      t.unreported = { s.unreported with modes := t.modes, saf := t.saf }) ∧
  (∀ (s : State) (c : CloseSeq), s.saf.close = some c → c.stage = 14 → s.precharged = true →
    Gives .prechargeReached s fun t => t = { s with
      saf := { s.saf with
        close := some { c with stage := 15, hot := 0, high := false }, coil := s.saf.coil ||| 2 ^ 16, keep := s.saf.keep ||| 2 ^ 16 }
      out := [] }) ∧
  (∀ (s : State) (c : CloseSeq), s.saf.close = some c → c.stage = 14 → s.whole (src 3 51) (itemPath 18) →
    Gives .prechargeTimeout s fun t => t.present (src 3 51) (itemPath 18) ∧ t.saf.close = none ∧ t.saf.coil = 0 ∧ t.saf.keep = 0 ∧
      t.unacted = s.unacted) ∧
  (∀ s : State, s.prof.openWait = true → s.twin.orphanStop = false →
    Gives .openWaitEnd s fun t => t.prof = { s.prof with openWait := false } ∧ t.saf.opening = some 0 ∧
      bitOf t.saf.coil 16 = false ∧ bitOf t.saf.coil 17 = false ∧
      (∀ p, p ≠ 16 → p ≠ 17 → bitOf t.saf.coil p = bitOf s.saf.coil p) ∧ t = { s with prof := t.prof, saf := t.saf, out := [] }) ∧
  (∀ s : State, s.saf.opening = some 0 →
    Gives .controlledOpeningStep s fun t => t.saf.opening = some 1 ∧ (∀ p, p < 16 → bitOf t.saf.coil p = false) ∧
      (∀ p, 16 ≤ p → bitOf t.saf.coil p = bitOf s.saf.coil p) ∧ t = { s with saf := t.saf, out := [] }) ∧
  (∀ s : State, s.saf.opening = some 1 →
    Gives .controlledOpeningStep s fun t => t = { s with
      saf := { s.saf with opening := some 2, coil := s.saf.coil ||| 2 ^ 19, keep := s.saf.keep ||| 2 ^ 19 }, out := [] }) ∧
  (∀ s : State, s.saf.opening = some 2 → s.onString = true →
    Gives .controlledOpeningStep s fun t => t.saf.opening = none ∧ (∀ p, p < 20 → bitOf t.saf.coil p = false ∧ bitOf t.saf.keep p = false) ∧
      t.modes = { s.modes with mode := .m4 } ∧ t.prof = { s.prof with stopRamp := none, stopCause := 0 } ∧
      t.saf.disarmDue = true ∧ t.out = [] ∧ t.unreported = { s.unreported with saf := t.saf, modes := t.modes, prof := t.prof })

/-- The program's requests to the Guard core (R446, R567) that are placed and met: CLOSE starts the close sequence, STOP the stop
ramp, RAIL_CONNECT closes the poles of a rail left open, RAIL_DISCONNECT opens them; each answers as honoured. -/
def Obligations.GuardRequestsComplete : Prop :=
  (∀ s : State, s.prg.guardPlaced = [0] → s.prg.stopSeen = false → s.saf.opening = none → s.prof.openWait = false → s.modes.mode = .m4 →
    s.weldFindings = false → s.saf.close = none → s.closeUnmet = none →
    Gives .programCloseRequest s fun t => t.saf.close = some { weldOnly := false, rails := ofIdx ((List.range 8).filter s.railUsed) } ∧
      t.saf.coil = 2 ^ 19 ∧ t.out = [.strongroom 0x3C5A 0xFFFFF] ∧ (0, 1, 0) ∈ t.prg.guardAnswers ∧ t.prg.guardPlaced = [] ∧
      t.modes.mode = .m4 ∧ t.modes.dormantEntry = false ∧
      t = { s with saf := t.saf, prg := t.prg, power := t.power, prof := t.prof, modes := t.modes, wk := t.wk, out := t.out }) ∧
  (∀ s : State, s.prg.guardPlaced = [1] → s.onString = true → s.active = true → s.saf.close = none → s.prof.stopRamp = none →
    s.prof.openWait = false → s.saf.opening = none →
    Gives .programStopRequest s fun t => t.prof = { s.prof with
        stopRamp := some true, target := 0, moving := true, pendingOrder := none, stopCause := 0 } ∧ (1, 1, 0) ∈ t.prg.guardAnswers ∧
      t.prg.stopSeen = true ∧ t.prg.guardPlaced = [] ∧ t = { s with prg := t.prg, prof := t.prof, out := [] }) ∧
  (∀ (s : State) (r : Nat), r < 8 → s.prg.guardPlaced = [8 + r] → s.modes.mode = .m5 → bitOf s.saf.leftOpen r = true →
    s.sec.bus1.isSome = true → s.railMatches r = true → s.anyDemand = false →
    Gives (.railConnect r) s fun t => t.saf = { s.saf with
        leftOpen := putBit s.saf.leftOpen r false
        coil := s.saf.coil ||| (poleMask (2 ^ r) 0 ||| poleMask (2 ^ r) 1), keep := s.saf.keep ||| (poleMask (2 ^ r) 0 ||| poleMask (2 ^ r) 1) } ∧
      (8 + r, 1, 0) ∈ t.prg.guardAnswers ∧ t = { s with saf := t.saf, prg := t.prg, out := [] }) ∧
  (∀ (s : State) (r : Nat), r < 8 → s.prg.guardPlaced = [16 + r] → s.modes.mode = .m5 → (∃ q, q ∈ s.railsInUse ∧ q ≠ r) →
    1000 ≤ s.steer.zeroRun.getD r 0 →
    Gives (.railDisconnect r) s fun t => bitOf t.saf.coil (2 * r) = false ∧ bitOf t.saf.coil (2 * r + 1) = false ∧
      (∀ p, p ≠ 2 * r → p ≠ 2 * r + 1 → bitOf t.saf.coil p = bitOf s.saf.coil p) ∧ (16 + r, 1, 0) ∈ t.prg.guardAnswers ∧
      t = { s with saf := t.saf, prg := t.prg, out := [] })

/-- Broken signals (R453): an instance of its own is raised at G2 and the module's own instance keeps its state; when the signal is
whole again that instance's condition ends. -/
def Obligations.SignalIntegrityCompletes : Prop :=
  (∀ (s : State) (source i : Nat), Gives (.brokenSignal source i) s fun t =>
    t.flt.broken = (if (source, i) ∈ s.flt.broken then s.flt.broken else s.flt.broken ++ [(source, i)]) ∧
    (t.instOf source i).map (fun x => { x with listed := false }) = (s.instOf source i).map (fun x => { x with listed := false }) ∧
    t.flt.signalErrors = satU 32 (s.flt.signalErrors + 1) ∧ (t.instOf source i true).isSome = true ∧ t.unacted = s.unacted) ∧
  (∀ (s : State) (source i : Nat), Gives (.signalIntegrityRestored source i) s fun t => t.whole source i ∧
    (∀ a b, (a, b) ≠ (source, i) → (t.flt.broken.contains (a, b) = s.flt.broken.contains (a, b))) ∧
    (∀ x, t.instOf source i true = some x → x.cond = false) ∧ t = { s with flt := t.flt, out := [] })

/-- The partner's requests are served (R475, R65, R203, R223, R292, R434): matching straps are answered and kept, straps of another
string end every role and trip; position A's ENUMERATE is sent on the link, IDENTIFY asks hops 1 to m + 1, OFFSET and CHARGE_TOTAL
are answered, and an image or the settings wait for the BULK blocks. -/
def Obligations.TwinRequestsComplete : Prop :=
  (∀ s : State, s.twinUp = true →
    Gives (.twinRequestStraps s.stringNo (1 - s.pos) (variantCode s.ident)) s fun t =>
      t.twin = { s.twin with partnerStraps := some (s.stringNo, 1 - s.pos, variantCode s.ident) } ∧
      t.out = [.twin 0 true [s.stringNo, s.pos, variantCode s.ident]] ∧ t.modes = s.modes ∧
      t = { s with twin := t.twin, flt := t.flt, out := t.out }) ∧
  (∀ (s : State) (str pos variant : Nat), s.twinUp = true → str ≠ s.stringNo → s.whole (src 7 4) noItem →
    Gives (.twinRequestStraps str pos variant) s fun t => t.modes.strapConflict = true ∧
      t.twin = { s.twin with role := .none, partnerStraps := some (str, pos, variant) } ∧
      t.present (src 7 4) noItem ∧ (s.modes.mode = .m1 → s.modes.bootExit = none → t.modes.bootExit = some .m3) ∧
      t.unacted = { s.unacted with twin := t.twin }) ∧
  (∀ (s : State) (n : Nat), s.twinUp = true → s.formatsMatch = true → s.linkUsed n = true → s.pos = 1 → s.twin.role = .none →
    Gives (.twinRequestEnumerate n) s fun t => t.links.get n = { s.links.get n with
        enumByPartner := true, enumerating := true, enumList := [], enumCount := satU 16 ((s.links.get n).enumCount + 1)
        lastFrame := s.time.ns, hopCheck := none, hopFound := [], exchanges := wrapU 16 ((s.links.get n).exchanges % 2 ^ 16 + 1) } ∧
      t.out = [.line n 7 0x05 ((s.links.get n).exchanges % 2 ^ 16) 1 [0]] ∧ s.linkOnly t n) ∧
  (∀ (s : State) (n : Nat), s.twinUp = true → s.formatsMatch = true → s.active = true → s.linkUsed n = true →
    (s.links.get n).outstanding.isSome = true →
    Gives (.twinRequestIdentify [n]) s fun t => (t.links.get n).queue = (s.links.get n).queue ++
        (List.range (s.monCount n + 1)).map (fun h => { hop := h + 1, opcode := 0x02 }) ∧
      t.links.get n = { s.links.get n with queue := (t.links.get n).queue } ∧ s.linkOnly t n ∧ t.out = []) ∧
  (∀ (s : State) (rx : Nat), s.twinUp = true →
    Gives (.twinRequestOffset rx) s fun t => t.out = [.twin 4 true []] ∧ t.net = (s.awaitStamp 2 5 s.secs).net ∧
      t = { s with twin := { s.twin with offsetT2 := rx }, net := t.net, out := t.out }) ∧
  (∀ (s : State) (r b1 b2 : Nat) (v1 v2 : Int), r < 8 → s.twinUp = true → s.formatsMatch = true →
    (s.rails.get r).chargeLog.find? (fun x => x.1 == b1) = some (b1, v1) →
    (s.rails.get r).chargeLog.find? (fun x => x.1 == b2) = some (b2, v2) →
    exec (.twinRequestChargeTotal r b1 b2) s = .next { s with out := [.twin 3 true [r, 1, v1, v2]] }) ∧
  (∀ (s : State) (r b1 b2 : Nat), r < 8 → s.twinUp = true → s.formatsMatch = true → (∀ x ∈ (s.rails.get r).chargeLog, x.1 ≠ b1) →
    exec (.twinRequestChargeTotal r b1 b2) s = .next { s with out := [.twin 3 true [r, 0]] }) ∧
  (∀ (s : State) (kind : Nat), s.twinUp = true → s.formatsMatch = true → s.active = true → kind ≤ 4 →
    Gives (.twinRequestImage kind) s fun t => ∃ b, s.image kind = some b ∧
      t = { s with twin := { s.twin with bulkOut := s.twin.bulkOut ++ [b] }, out := [] }) ∧
  (∀ s : State, s.twinUp = true → s.formatsMatch = true →
    Gives .twinRequestSettings s fun t => .safetySet s.setCrc s.sealedTable ∈ t.twin.bulkOut ∧
      (∀ b ∈ s.twin.bulkOut, b ∈ t.twin.bulkOut) ∧
      t = { s with twin := { s.twin with bulkOut := t.twin.bulkOut }, out := [] })

/-- Rulings (R480 to R484): a newer one is kept; the active module that a TRANSFER takes the role from releases it at the next
boundary if the partner is READY, else refuses; a READY standby that it names waits to take the role, and takes it with its next
frame a first one, its parameters and stored charges as they stand. -/
def Obligations.RulingsComplete : Prop :=
  (∀ (s : State) (f : SectionFrame) (active : Nat), s.takesSection 6 f (rulingBytes 2 active) = true → s.twin.rulingEpoch < f.epoch → s.paired = true →
    s.active = true → active ≠ s.pos → s.twin.silentCycles < 3 →
    Gives (.ruling f 2 active) s fun t => t.twin = { s.twin with
        ruling := 2, rulingPos := active, rulingSeq := f.seq, rulingEpoch := f.epoch, rulings := satU 32 (s.twin.rulings + 1), managerAt := some s.time.ns
        releaseDue := s.twin.releaseDue || bitOf (s.twin.partner.getD {}).assess 2
        refused := if bitOf (s.twin.partner.getD {}).assess 2 then s.twin.refused else satU 32 (s.twin.refused + 1) } ∧
      t.unreported = { s.unreported with twin := t.twin, sec := { s.unreported.sec with epoch := f.epoch } }) ∧
  (∀ (s : State) (f : SectionFrame), s.takesSection 6 f (rulingBytes 2 s.pos) = true → s.twin.rulingEpoch < f.epoch → s.paired = true →
    s.twin.role = .standby → s.readyBar = true →
    Gives (.ruling f 2 s.pos) s fun t => t.twin = { s.twin with
        ruling := 2, rulingPos := s.pos, rulingSeq := f.seq, rulingEpoch := f.epoch, rulings := satU 32 (s.twin.rulings + 1), managerAt := some s.time.ns
        taking := true, heardSince := false, gap := some s.time.sweep } ∧
      t.unreported = { s.unreported with twin := t.twin, sec := { s.unreported.sec with epoch := f.epoch } }) ∧
  (∀ s : State, s.twin.taking = true → s.twin.heardSince = false → s.survey.state = 0 →
    Gives .roleTakeTimeout s fun t => t.twin.role = .active ∧ t.twin.taking = false ∧ t.prof.firstFrame = true ∧
      (∀ k, k < 16 → (t.loops.get k).handover = true ∧ (t.loops.get k).ran = false) ∧
      (s.twin.role = .standby → t.twin.switchovers = satU 32 (s.twin.switchovers + 1) ∧ t.twin.lastSwitchTime = s.sec32) ∧
      t.par = s.par ∧ t.bricks = s.bricks ∧ t.rails = s.rails ∧ t.saf = s.saf)

/-- The twin link (R475 to R479, R485, R490, R491, R45): a fragment's blocks wait for their boundary and a bad one is counted; an
OFFSET reply gives the pair offset; the link that comes up asks for the straps; a link down raises RT.10, a silent partner is counted,
an orphaned standby raises RT.12 and stops; a round begins; standing messages go out and the partner's is noted. -/
def Obligations.TwinEventsComplete : Prop :=
  (∀ (s : State) (x : MirrorFrame), s.twinUp = true → x.accepts = true → x.frag = 0 → x.format = s.upd.running.mirrorFormat →
    s.twin.role ≠ .coldStandby →
    Gives (.mirrorFragment x) s fun t => t.twin = { s.twin with
        partnerFormat := x.format, silentCycles := 0, heardSince := true, mirrorLate := t.twin.mirrorLate
        waiting := s.twin.waiting ++ x.blocks } ∧ t = { s with twin := t.twin, flt := t.flt, out := [] }) ∧
  (∀ (s : State) (x : MirrorFrame), s.twinUp = true → x.accepts = false → x.frag = 0 →
    Gives (.mirrorFragment x) s fun t => t = { s with
      twin := { s.twin with mirrorMissed := satU 32 (s.twin.mirrorMissed + 1) }, out := [] }) ∧
  (∀ (s : State) (t1 t2 t3 t4 : Nat), s.twinUp = true → s.twin.offsetT1 = some t1 →
    Gives (.twinReply (.offset t2 t3 t4)) s fun t => t.saf.pairOffset = divNear ((t2 : Int) - t1 + t3 - t4) 2 ∧
      t.saf.deferred = (s.flag P.twinPaired && decide (1000000 < t.saf.pairOffset.natAbs)) ∧
      t.unreported = { s.unreported with
        saf := { s.saf with pairOffset := t.saf.pairOffset, deferred := t.saf.deferred }, twin := { s.twin with offsetT1 := none } }) ∧
  (∀ (s : State) (n : Nat), s.twinUp = true → s.upd.partnerStage = 1 →
    Gives (.twinReply (.stage n)) s fun t => t.upd = { s.upd with partnerStage := if n = 0 then 2 else 3 } ∧
      t.unreported = { s.unreported with upd := t.upd }) ∧
  (∀ s : State, s.coreUp = true → Gives .twinLinkUp s fun t => t.twin = { s.twin with
        linkUp := true, settingsAsked := false, sync := if s.twin.sync = 5 then 5 else min s.twin.sync 1 } ∧
      t.saf = { s.saf with deferred := s.flag P.twinPaired && decide (1000000 < s.saf.pairOffset.natAbs) } ∧
      t.out = [.twin 0 false [s.stringNo, s.pos, variantCode s.ident]] ∧
      t.unreported = { s.unreported with twin := t.twin, saf := t.saf }) ∧
  (∀ s : State, exec .partnerSilent s = .next { s with
      twin := { s.twin with silentCycles := max s.twin.silentCycles 3 }, out := [] }) ∧
  (∀ s : State, s.paired = true → s.twin.standingAt = some s.time.ns → s.whole (src 7 10) itemTwin →
    Gives (.twinLinkDownTimeout true) s fun t => t.twin = { s.twin with linkUp := false } ∧ t.present (src 7 10) itemTwin ∧
      t.unacted = { s.unacted with twin := t.twin }) ∧
  (∀ s : State, s.standsBy = true → s.orphaned = true → s.twin.orphanStop = false → s.onString = true → s.whole (src 7 12) noItem →
    s.prof.openWait = false → s.saf.opening = none →
    Gives .orphanTimeout s fun t => t.present (src 7 12) noItem ∧ t.twin = { s.twin with orphanStop := true } ∧
      t.prof.stopRamp = some true ∧
      t.bus = { s.bus with can := s.bus.can.modify 0 fun c => { c with orphan := true } } ∧ t.unacted = { s.unacted with twin := t.twin, bus := t.bus }) ∧
  (∀ s : State, s.active = true → s.twin.linkUp = true →
    exec .reconcileRoundDue s = .next { s with twin := { s.twin with roundNext := some 0 }, out := [] }) ∧
  (∀ s : State, s.netUp = true →
    Gives .standingMessageDue s fun t =>
      t.out = (s.managers.filter s.reaches).map (fun a => .sectionFrame a 5 t.sec.seqStanding s.sec.epoch s.stringNo s.pos s.time.ns
        [(1, s.twin.role.num), (1, s.modes.mode.num), (1, s.worst.getD 0xFF), (1, s.trs.state), (2, s.assess), (1, s.twin.sync),
         (1, s.linksMissing), (1, match s.twin.partner with | some p => p.role | none => 0xFF), (1, 0), (2, s.twin.silentCycles),
         (4, s.twin.rulingEpoch), (2, s.twin.rulingSeq), (2, s.upd.running.mirrorFormat), (2, s.upd.running.number), (2, 0),
         (4, s.settingsCrc), (4, s.setCrc)]) ∧
      s.sentRct t (s.managers.filter s.reaches).length ∧
      t = { s with sec := { s.sec with seqStanding := wrapU 16 (s.sec.seqStanding + 1) }, net := t.net, out := t.out }) ∧
  (∀ (s : State) (f : SectionFrame) (payload : List Byte), s.netUp = true → s.hearsSection 5 f = true → f.accepts 5 payload = true →
    f.str = s.stringNo → f.position = 1 - s.pos → payload.length = 32 →
    Gives (.partnerStandingMessage f payload) s fun t => t = { s with
      twin := { s.twin with standingAt := some s.time.ns }, upd := { s.upd with partnerIssue := (payload.getD 20 0).toNat + 256 * (payload.getD 21 0).toNat }
      flt := (s.endFault (src 7 12) noItem).flt, out := [] })

/-- Thermal supervision (R394 to R397, R399): in each 100th sweep the mean of a thermistor's readings replaces its value, the Guard
core's own likewise, a hot one latches its shutdown; a thermistor well below its level returns to the slow rate, one that has failed
raises TH.04, a pack without any raises TH.05, which locks the module out in M5 and M6, and a sensor whose source is invalid TH.33. -/
def Obligations.ThermalSupervisionCompletes : Prop :=
  (∀ (s : State) (k : Nat), s.time.sweep % 100 = 0 → k ∈ s.usedTherms → 0 < (s.therm.therms.get k).valid →
    (s.therm.therms.get k).total ≤ 2 * (s.therm.therms.get k).valid →
    Gives .brickThermalEvaluation s fun t =>
      (t.therm.therms.get k).value = some (divNear (s.therm.therms.get k).sum (s.therm.therms.get k).valid) ∧
      (t.therm.therms.get k).sum = 0 ∧ (t.therm.therms.get k).valid = 0 ∧ (t.therm.therms.get k).total = 0 ∧
      (∀ j, j ∉ s.usedTherms → t.therm.therms.get j = s.therm.therms.get j) ∧ t.unacted = s.unacted) ∧
  (∀ (s : State) (k : Nat) (v : Int), k < 1024 → (s.therm.therms.get k).value = some v →
    v < s.val P.thBrickThrottle - s.val P.thBrickFastBand - s.val P.thBrickHysteresis →
    exec (.fastRateReturnTimer k) s = .next { s with
      therm := { s.therm with therms := s.therm.therms.modify k fun h => { h with fast := false } }, out := [] }) ∧
  (∀ (s : State) (k : Nat), s.arch.guardStopped = false → s.time.sweep % 10 = 0 → k ∈ s.usedTherms →
    0 < (s.therm.therms.get k).gValid → (s.therm.therms.get k).gTotal ≤ 2 * (s.therm.therms.get k).gValid →
    Gives .guardThermalEvaluation s fun t =>
      (t.therm.therms.get k).gValue = some (divNear (s.therm.therms.get k).gSum (s.therm.therms.get k).gValid) ∧
      (t.therm.therms.get k).shutdown = ((s.therm.therms.get k).shutdown ||
        (decide (s.val P.thBrickShutdown ≤ divNear (s.therm.therms.get k).gSum (s.therm.therms.get k).gValid) &&
          !(s.therm.therms.get k).failed)) ∧
      (∀ j, j ∉ s.usedTherms → t.therm.therms.get j = s.therm.therms.get j) ∧ t.unacted = s.unacted) ∧
  (∀ (s : State) (k : Nat), k < 1024 → s.whole (src 2 4) (item 7 (thermCode k)) →
    Gives (.thermistorFailedTimeout k) s fun t => (t.therm.therms.get k).failed = true ∧ t.present (src 2 4) (item 7 (thermCode k)) ∧
      (∀ j, j ≠ k → t.therm.therms.get j = s.therm.therms.get j) ∧ t.unacted = s.unacted) ∧
  (∀ (s : State) (n : Nat), n < 128 → s.packFailed n = true → s.onString = true → s.whole (src 2 5) (itemLink n) →
    s.instOf (src 2 5) (itemLink n) = none →
    Gives (.packThermistorGraceExpiry n) s fun t => t.present (src 2 5) (itemLink n) ∧ t.modes.mode = .m7 ∧
      t.modes.latchStrong = true ∧ t.modes.latchNight = true ∧ t.allOpen ∧ t.unacted = s.unacted) ∧
  (∀ (s : State) (n : Nat), n < 128 → s.packFailed n = true → s.onString = false → s.whole (src 2 5) (itemLink n) →
    Gives (.packThermistorGraceExpiry n) s fun t => t.present (src 2 5) (itemLink n) ∧ t.modes.latchStrong = s.modes.latchStrong ∧
      t.unacted = s.unacted) ∧
  (∀ (s : State) (i : Nat), i < 32 → s.nat (P.thsSource i) ≠ 0 → s.auxFeedback (s.nat (P.thsSource i)) = none →
    s.whole (src 2 33) (item 7 (0x0400 + i)) →
    Gives (.thsSourceInvalidTimeout i) s fun t => t.present (src 2 33) (item 7 (0x0400 + i)) ∧ (t.therm.ths.get i).lost = true ∧
      (t.therm.ths.get i).value = none ∧ (t.therm.ths.get i).last = s.val (P.thsThrottle i) + s.val (P.thsHysteresis i) ∧
      (t.therm.ths.get i).shutdown = (s.therm.ths.get i).shutdown ∧ (∀ j, j ≠ i → t.therm.ths.get j = s.therm.ths.get j) ∧
      t.unacted = s.unacted)

/-- PTP messages (R509, R512, R513, R517): an Announce becomes the port's best master, its timeout ends that, a two-step Sync waits
for its Follow_Up, either forms the port's offset from a usable peer delay, a new grandmaster that qualifies is followed, and a leap
second is applied at its day's end. -/
def Obligations.PtpMessagesComplete : Prop :=
  (∀ (s : State) (h : PtpHead) (a : Announce), s.takesPtp h = true → (s.port h.port).announced = false →
    Gives (.ptpAnnounce h a) s fun t => (t.port h.port).best = h.source ∧ (t.port h.port).vector = a.vector ∧
      (t.port h.port).announced = true ∧ t.unreported = { s.unreported with time := t.time }) ∧
  (∀ (s : State) (h : PtpHead) (a : Announce), s.takesPtp h = true → (s.port h.port).announced = true → (s.port h.port).best = h.source →
    s.time.followed = h.port →
    Gives (.ptpAnnounce h a) s fun t => (t.port h.port).vector = a.vector ∧
      (a.vector.getD 5 0 = s.time.gm → t.time.utcOffset = a.utc.getD s.time.utcOffset ∧
        t.time.leap = (if a.leap = 0 then none else some a.leap)) ∧
      (a.vector.getD 5 0 ≠ s.time.gm → t.time.followed = 0xFF ∧ t.time.utcOffset = s.time.utcOffset) ∧
      t.unreported = { s.unreported with time := t.time }) ∧
  (∀ (s : State) (i : Nat), i < 2 →
    Gives (.ptpAnnounceTimeout i) s fun t => t.port i = { (s.port i).restart with
        announced := false, best := 0, vector := [], master := (t.port i).master } ∧
      (s.time.followed = i → t.time.followed = 0xFF) ∧ t.unreported = { s.unreported with time := t.time }) ∧
  (∀ (s : State) (h : PtpHead) (rx origin : Nat) (corr : Int), s.takesPtp h = true → (s.port h.port).announced = true →
    (s.port h.port).best = h.source →
    exec (.ptpSync h true rx origin corr) s = .next { s with
      time := { s.time with ports := s.time.ports.modify h.port fun p => { p with sync := some (h.seq, rx, corr) } }, out := [] }) ∧
  (∀ (s : State) (h : PtpHead) (rx origin d : Nat) (corr : Int), s.takesPtp h = true → (s.port h.port).announced = true →
    (s.port h.port).best = h.source → (s.port h.port).peerDelay = some d → d ≤ s.nat P.ptpPdelayLimit →
    Gives (.ptpSync h false rx origin corr) s fun t => (t.port h.port).offset = some ((rx : Int) - (origin + corr + d)) ∧
      (t.port h.port).syncs = min 4 ((s.port h.port).syncs + 1) ∧ (t.port h.port).sync = none ∧
      t.unreported = { s.unreported with time := t.time, links := t.links, est := t.est, freeCtr := t.freeCtr }) ∧
  (∀ (s : State) (h : PtpHead) (rx origin d : Nat) (c corr : Int), s.takesPtp h = true → (s.port h.port).sync = some (h.seq, rx, c) →
    (s.port h.port).best = h.source → (s.port h.port).peerDelay = some d → d ≤ s.nat P.ptpPdelayLimit →
    Gives (.ptpFollowUp h origin corr) s fun t => (t.port h.port).offset = some ((rx : Int) - (origin + (c + corr) + d)) ∧
      (t.port h.port).syncs = min 4 ((s.port h.port).syncs + 1) ∧ (t.port h.port).sync = none ∧
      t.unreported = { s.unreported with time := t.time, links := t.links, est := t.est, freeCtr := t.freeCtr }) ∧
  (∀ (s : State) (g i : Nat) (lo hi : Int), s.time.qualify = some (g, lo, hi) →
    [0, 1].find? (fun i => (s.port i).synced && decide ((s.port i).gm = g)) = some i →
    Gives .gmQualifyComplete s fun t => t.time.followed = i ∧ t.time.gm = g ∧ t.time.state = 1 ∧ t.time.qualify = none ∧
      t.time.holdoverNs = 0 ∧ t.time.ports = s.time.ports ∧
      t.unreported = { s.unreported with time := t.time, links := t.links, est := t.est, freeCtr := t.freeCtr }) ∧
  (∀ (s : State) (l : Int), s.time.leap = some l →
    exec .leapSecond s = .next { s with
      time := { s.time with utcOffset := clampI (-1000) 1000 (s.time.utcOffset + l), leap := none }, out := [] }) ∧
  (∀ s : State, s.time.leap = none → exec .leapSecond s = .next { s with out := [] }) ∧
  (∀ s : State, s.power.mainUp = true → s.power.mainHeld = false →
    exec .nightSafeTimeCopy s = .next { s with night := { s.night with timeCopy := s.time.ns, timeValid := true }, out := [] })

/-- Peer delays, transmission and receipt queues (R512, R519, R523 to R525): a request is answered with its reception time and its
follow-up waits for the stamp, an own request goes out under a new number, its answers give the peer delay, a grandmaster candidate
sends Announce and Sync, and a stamp is kept, read for the frame that awaits it, or dropped at a full queue with RT.22. -/
def Obligations.PeerDelaysAndStampsComplete : Prop :=
  (∀ (s : State) (h : PtpHead) (rx : Nat), s.takesPtp h = true →
    exec (.ptpPdelayReq h rx) s = .next { s with
      net := { s.net with receipts := s.net.receipts.modify h.port fun r => { r with awaiting := r.awaiting ++ [4096 * 2 + h.seq % 4096] } }
      out := [.ptp h.port 3 h.seq [rx]] }) ∧
  (∀ (s : State) (i : Nat), i < 2 → s.ptpUp = true → bitOf s.net.links i = true →
    Gives (.ptpPdelayReqDue i) s fun t => t.port i = { s.port i with
        pdSeq := wrapU 16 ((s.port i).pdSeq + 1), pdT1 := none, pdT24 := none } ∧
      (∀ j, j ≠ i → t.port j = s.port j) ∧ t.out = [.ptp i 2 (t.port i).pdSeq []] ∧
      (t.net.receipts.get i).awaiting = (s.net.receipts.get i).awaiting ++ [4096 * 1 + (t.port i).pdSeq % 4096] ∧
      t = { s with
        time := { s.time with ports := t.time.ports }, net := { s.net with receipts := t.net.receipts }, out := t.out }) ∧
  (∀ (s : State) (h : PtpHead) (t2 rx : Nat), s.takesPtp h = true → (s.port h.port).pdSeq = h.seq →
    Gives (.ptpPdelayResp h t2 rx) s fun t => t.port h.port = { s.port h.port with pdT24 := some (t2, rx) } ∧
      (∀ j, j ≠ h.port → t.port j = s.port j) ∧ t = { s with time := { s.time with ports := t.time.ports }, out := [] }) ∧
  (∀ (s : State) (h : PtpHead) (t1 t2 t3 t4 : Nat) (corr : Int), s.takesPtp h = true → (s.port h.port).pdSeq = h.seq →
    (s.port h.port).pdT1 = some t1 → (s.port h.port).pdT24 = some (t2, t4) →
    Gives (.ptpPdelayRespFollowUp h t3 corr) s fun t =>
      (t.port h.port).peerDelay = some (divNear (((t4 : Int) - t1) - ((t3 : Int) - t2) - corr) 2).toNat ∧
      (t.port h.port).pdT1 = none ∧ (t.port h.port).pdT24 = none ∧ (∀ j, j ≠ h.port → t.port j = s.port j) ∧
      t.unreported = { s.unreported with time := t.time }) ∧
  (∀ (s : State) (i : Nat), i < 2 → s.ptpUp = true → (s.port i).master = true → bitOf s.net.links i = true →
    Gives (.ptpMasterSendDue i) s fun t => (t.port i).msSeq = wrapU 16 ((s.port i).msSeq + 1) ∧
      t.out = [.ptp i 11 (t.port i).msSeq (s.ownVector.map fun n => (n : Int)), .ptp i 0 (t.port i).msSeq []] ∧
      (t.net.receipts.get i).awaiting = (s.net.receipts.get i).awaiting ++ [4096 * 3 + (t.port i).msSeq % 4096] ∧
      t = { s with
        time := { s.time with ports := t.time.ports }, net := { s.net with receipts := t.net.receipts }, out := t.out }) ∧
  (∀ (s : State) (q tag stamp : Nat), q < 3 → tag < 2 ^ 16 → (s.net.receipts.get q).entries.length < 16 →
    (s.net.receipts.get q).awaiting = [] →
    exec (.receiptStamp q tag stamp) s = .next { s with
      net := { s.net with receipts := s.net.receipts.modify q fun r => { r with entries := r.entries ++ [(tag, stamp)] } }, out := [] }) ∧
  (∀ (s : State) (q stamp : Nat), q < 2 → (s.net.receipts.get q).entries = [] →
    (s.net.receipts.get q).awaiting = [4096 + (s.port q).pdSeq % 4096] → (s.arch.engines.get 7).inReset = false →
    Gives (.receiptStamp q (4096 + (s.port q).pdSeq % 4096) stamp) s fun t =>
      t.port q = { s.port q with pdT1 := some stamp } ∧ (t.net.receipts.get q).awaiting = [] ∧ (t.net.receipts.get q).entries = [] ∧
      t = { s with time := { s.time with ports := t.time.ports }, net := { s.net with receipts := t.net.receipts }, out := [] }) ∧
  (∀ (s : State) (q n stamp : Nat), q < 3 → n < 4096 → (s.net.receipts.get q).entries = [] →
    (s.net.receipts.get q).awaiting = [4096 * 2 + n] → (s.arch.engines.get 7).inReset = false →
    Gives (.receiptStamp q (4096 * 2 + n) stamp) s fun t => t.out = [.ptp q 10 n [stamp]] ∧
      (t.net.receipts.get q).awaiting = [] ∧ (t.net.receipts.get q).entries = [] ∧
      t = { s with net := { s.net with receipts := t.net.receipts }, out := t.out }) ∧
  (∀ (s : State) (q tag stamp : Nat), q < 3 → tag < 2 ^ 16 → 16 ≤ (s.net.receipts.get q).entries.length →
    s.whole (src 7 22) (itemQueue q) →
    Gives (.receiptStamp q tag stamp) s fun t => t.present (src 7 22) (itemQueue q) ∧
      (t.net.receipts.get q).drops = satU 32 ((s.net.receipts.get q).drops + 1) ∧
      (t.net.receipts.get q).entries = (s.net.receipts.get q).entries ∧ t.net.sticky = putBit s.net.sticky q true ∧
      t.unreported = { s.unreported with net := t.net, time := t.time })

/-- PRP and addresses (R498 to R504): supervision frames go out and are heard, second copies are discarded and counted, ARP and ICMP
echo requests on an address of the module are answered, a link change shows in the port's state, and the role address is announced
again after a take. -/
def Obligations.UplinksComplete : Prop :=
  (∀ s : State, s.addressed = true →
    Gives .prpSupervisionDue s fun t => t.out = [.supervision] ∧ s.sentRct t 1 ∧ t = { s with net := t.net, out := t.out }) ∧
  (∀ (s : State) (x : UplinkFrame), s.acceptsFrame x = true → x.rct = none →
    exec (.prpSupervisionFrame x) s = .next { s with net := { s.net with heard := putBit s.net.heard x.port true }, out := [] }) ∧
  (∀ (s : State) (x : UplinkFrame) (q lan : Nat), s.acceptsFrame x = true → x.rct = some (q, lan) →
    Gives (.prpSupervisionFrame x) s fun t => t.net.heard = putBit s.net.heard x.port true ∧
      (x.mac, q, x.port, s.time.ns) ∈ t.net.seen ∧
      t.net.wrongLan = (if lan = 0xA + x.port then s.net.wrongLan else updAt s.net.wrongLan x.port fun c => satU 32 (c + 1)) ∧
      t = { s with
        net := { s.net with heard := t.net.heard, seen := t.net.seen, wrongLan := t.net.wrongLan }, out := [] }) ∧
  (∀ (s : State) (x : UplinkFrame) (q lan : Nat), s.hearsFrame x = true → x.rct = some (q, lan) → s.hasCopy x.mac q = true →
    Gives (.prpSupervisionFrame x) s fun t => t.net.discards = updAt s.net.discards x.port (fun c => satU 32 (c + 1)) ∧
      t = { s with
        net := { s.net with discards := t.net.discards, seen := t.net.seen, wrongLan := t.net.wrongLan }, out := [] }) ∧
  (∀ (s : State) (i : Nat), i < 2 →
    exec (.prpSupervisionTimeout i) s = .next { s with net := { s.net with heard := putBit s.net.heard i false }, out := [] }) ∧
  (∀ (s : State) (i : Nat) (ok : Bool), i < 2 →
    Gives (.portLinkChange i false ok) s fun t => bitOf t.net.links i = false ∧ bitOf t.net.heard i = false ∧ t.portState i = 0 ∧
      t.port i = { (s.port i).restart with
        announced := false, best := 0, vector := [], peerDelay := none, master := (t.port i).master } ∧
      t.unreported = { s.unreported with
        net := { s.net with links := t.net.links, heard := t.net.heard, sfp := t.net.sfp }, time := t.time }) ∧
  (∀ (s : State) (i : Nat) (ok : Bool), i < 2 → s.ident.fibre = false ∨ ok = true →
    Gives (.portLinkChange i true ok) s fun t => bitOf t.net.links i = true ∧ t.net.heard = s.net.heard ∧
      (t.port i).announced = (s.port i).announced ∧
      t.unreported = { s.unreported with net := { s.net with links := t.net.links, sfp := t.net.sfp }, time := t.time }) ∧
  (∀ (s : State) (up ok : Bool),
    Gives (.portLinkChange 2 up ok) s fun t => bitOf t.net.links 2 = up ∧
      t = { s with net := { s.net with links := t.net.links, heard := t.net.heard }, out := [] }) ∧
  (∀ (s : State) (x : UplinkFrame) (addr : Nat), s.acceptsFrame x = true → s.answersOn addr = true →
    Gives (.arpRequest x addr) s fun t => t.out = [.arp 3 addr false] ∧
      t = { s with
        net := { s.net with seen := t.net.seen, wrongLan := t.net.wrongLan, rctSeq := wrapU 16 (s.net.rctSeq + 1) }, out := t.out }) ∧
  (∀ (s : State) (x : UplinkFrame) (addr sender : Nat), s.acceptsFrame x = true → s.answersOn addr = true → s.reaches sender = true →
    Gives (.icmpEchoRequest x addr sender) s fun t => t.out = [.echo x.port sender] ∧
      t = { s with
        net := { s.net with seen := t.net.seen, wrongLan := t.net.wrongLan, rctSeq := wrapU 16 (s.net.rctSeq + 1) }, out := t.out }) ∧
  (∀ s : State, s.net.roleHeld = true → s.active = true → 0 < s.net.arpLeft →
    exec .gratuitousArpRepeat s = .next { s with
      net := { s.net with arpLeft := s.net.arpLeft - 1, rctSeq := wrapU 16 (s.net.rctSeq + 1) }
      out := [.arp 3 (s.nat P.netRoleAddr) true] })

/-- The cyclic program (R547 to R549, R557, R559, R563, R570): a cycle start takes the input image and counts, a start that an overrun
skips does nothing, a stop and an exchange wait for a cycle start, an ended cycle keeps its data and writes its outputs, an overrun
raises its fault and skips the next start, a breakpoint holds the program, and an error of the run stops it. -/
def Obligations.ProgramCompletes : Prop :=
  (∀ s : State, s.cycleDue = true → s.active = true → s.prg.skip = false → s.prg.executing = false → s.prg.pending = 0 →
    s.prg.exchange = 0 → s.prg.state = 1 →
    Gives .programCycleStart s fun t => t.prg.executing = true ∧ t.prg.overrun = false ∧ t.prg.cycles = wrapU 32 (s.prg.cycles + 1) ∧
      t.prg.period = s.nat P.prgCycle ∧ t.prg.image.sweep = s.arch.readSweep ∧ t.prg.image.tai = s.time.lastEpoch ∧ t.prg.image.rows = s.readRows ∧
      t.prg.image.guard = s.prg.guardAnswers ∧ t.prg.canAnswers = [] ∧ t.prg.sdoAnswers = [] ∧ t.prg.readAnswers = [] ∧
      (t.can 0).rx = [] ∧ (t.can 1).rx = [] ∧ t.prg.inst = s.prg.inst ∧ t.prg.retained = s.prg.retained ∧ t.prg.state = 1 ∧
      t = { s with prg := t.prg, bus := { s.bus with can := t.bus.can }, out := [] }) ∧
  (∀ s : State, s.cycleDue = true → s.active = true → s.prg.skip = true →
    exec .programCycleStart s = .next { s with prg := { s.prg with skip := false, period := s.nat P.prgCycle }, out := [] }) ∧
  (∀ s : State, s.cycleDue = true → s.active = true → s.prg.skip = false → s.prg.executing = false → s.prg.pending = 3 → s.prg.state = 1 →
    Gives .programCycleStart s fun t => t.prg = { s.prg with
        state := 0, stopCause := 0, pending := 0, exchange := 0, overrun := false, period := s.nat P.prgCycle } ∧
      t.unreported = { s.unreported with prg := t.prg }) ∧
  (∀ (s : State) (p : ProgramImage), s.cycleDue = true → s.active = true → s.prg.skip = false → s.prg.executing = false →
    s.prg.pending = 0 → s.prg.exchange = 2 → s.prg.state = 1 → s.upd.stagedProgram = some p →
    Gives .programCycleStart s fun t =>
      t.upd = { s.upd with present := some p, stagedProgram := none, presentSlot := 1 - s.upd.presentSlot } ∧
      t.prg.instCrc = p.crc ∧ t.prg.inst = carryData s.prg.inst p.inst ∧ t.prg.retained = carryData s.prg.retained p.retained ∧
      t.prg.exchanges = satU 32 (s.prg.exchanges + 1) ∧ t.prg.exchange = 0 ∧ t.prg.executing = true ∧ t.prg.state = 1 ∧
      t.unreported = { s.unreported with prg := t.prg, upd := t.upd, vault := t.vault, par := t.par, bus := t.bus }) ∧
  (∀ s : State, s.upd.stagedProgram.isSome = true → s.prg.exchange = 1 →
    exec .exchangePrepared s = .next { s with prg := { s.prg with exchange := 2 }, out := [] }) ∧
  (∀ (s : State) (o : ProgramOutput), s.prg.executing = true → s.prg.state = 1 → s.active = true →
    Gives (.programExecutionEnd o) s fun t => t.prg.executing = false ∧ t.prg.overrun = false ∧ t.prg.inst = o.inst ∧
      t.prg.retained = o.retained ∧ t.prg.execMax = max s.prg.execMax (satU 32 o.execUs) ∧
      t.prg.cleanRun = (if s.prg.overrun then 0 else min 100 (s.prg.cleanRun + 1)) ∧ t.prg.guardBits = o.guard ∧
      t.prg.reads = o.reads.take 8 ∧
      (bitOf o.guard 1 = true → bitOf s.prg.guardBits 1 = false → 1 ∈ t.prg.guardPlaced) ∧
      (∀ k v, k < s.prg.duties.length → o.duties = [(k, v)] → k < 8 → bitOf (s.nat P.prgPwmClaim) k = true →
        f32Finite (BitVec.ofNat 32 v) = false → t.prg.duties.getD k 0 = 1000) ∧
      t.unreported = { s.unreported with prg := t.prg, therm := t.therm, bus := t.bus, freeCtr := t.freeCtr }) ∧
  (∀ s : State, s.prg.executing = true → s.prg.state = 1 → s.prg.overrun = false → s.whole (src 5 30) noItem →
    Gives .programDeadlineOverrun s fun t => t.prg = { s.prg with
        overrun := true, skip := true, overruns := satU 32 (s.prg.overruns + 1), cleanRun := 0 } ∧
      t.present (src 5 30) noItem ∧ t.unreported = { s.unreported with prg := t.prg }) ∧
  (∀ (s : State) (i : Nat), i < 4 → s.prg.executing = true → s.prg.state = 1 → s.nat (P.prgBreakpoint i) ≠ 0xFFFFFFFF →
    Gives (.programBreakpointHit i) s fun t => t.prg = { s.prg with state := 2 } ∧
      t.modes = { s.modes with
        holdCause := s.modes.holdCause || decide (s.modes.mode = .m5) && s.flag P.modeHoldEnable } ∧
      t.unreported = { s.unreported with prg := t.prg, modes := t.modes }) ∧
  (∀ (s : State) (offset : Nat), s.prg.executing = true → s.prg.state = 1 → s.whole (src 5 31) noItem →
    Gives (.programRuntimeError offset) s fun t => t.prg.state = 0 ∧ t.prg.stopCause = 2 ∧ t.prg.executing = false ∧
      t.prg.inst = s.prg.inst ∧ t.prg.retained = s.prg.retained ∧ t.present (src 5 31) noItem ∧ t.unacted = s.unacted)

/-- The Ledger (R586, R588, R589): a second adds one to the module record's words of its mode, of its power state and of its hottest die,
and to nothing but live values of the module, its bricks and its rails; a close of books is taken for the day that has begun, its
generation is queued with the stamp of that midnight, and the day's voltage range of each brick begins again; on the day already
taken nothing is due. -/
def Obligations.LedgerCompletes : Prop :=
  (∀ s : State, s.accrues = true → s.trs.state ≠ 2 → s.time.sweep % 1000 = 0 → (∀ n, n < 128 → s.nat (P.lnkBricks n) ≤ 24) →
    Gives .ledgerSecond s fun t =>
      (t.recs.live.get (ledKey 3 0)).words.get (76 + 4 * s.modes.mode.num) =
        min ((s.recs.live.get (ledKey 3 0)).words.get (76 + 4 * s.modes.mode.num) + 1) (2 ^ 32 - 1) ∧
      (t.recs.live.get (ledKey 3 0)).words.get (108 + 4 * s.trs.state) =
        min ((s.recs.live.get (ledKey 3 0)).words.get (108 + 4 * s.trs.state) + 1) (2 ^ 32 - 1) ∧
      (∀ d, s.hottestDie = some d → (t.recs.live.get (ledKey 3 0)).words.get (12 + 4 * dieBin d) =
        min ((s.recs.live.get (ledKey 3 0)).words.get (12 + 4 * dieBin d) + 1) (2 ^ 32 - 1)) ∧
      (∀ k, (∀ b, b ∈ s.usedBricks → k ≠ ledKey 1 b ∧ k ≠ ledKey 0 (2 * b) ∧ k ≠ ledKey 0 (2 * b + 1)) → (∀ r, r < 8 → k ≠ ledKey 2 r) →
        k ≠ ledKey 3 0 → t.recs.live.get k = s.recs.live.get k) ∧
      t = { s with recs := { s.recs with live := t.recs.live, adds := t.recs.adds }, out := [] }) ∧
  (∀ s : State, s.time.sweep % 1000 ≠ 0 → exec .ledgerSecond s = .next { s with out := [] }) ∧
  (∀ s : State, s.modes.mode.runs = true ∨ s.modes.mode = .m7 →
    (if s.recs.dayTaken then s.recs.closedDay else s.utcSecs / 86400 - 1) < s.utcSecs / 86400 →
    Gives .closeOfBooks s fun t => t.recs.closedDay = s.utcSecs / 86400 ∧ t.recs.dayTaken = true ∧
      t.recs.pending = (s.vault.writing.isSome || decide (s.trs.state = 2)) ∧ 
      t.recs.due = (match s.recs.due with
        | some (2, x) => some (2, x)
        | _ => some (1, if s.midnight (s.utcSecs / 86400) ≤ s.time.lastEpoch ∧
            s.time.lastEpoch < s.midnight (s.utcSecs / 86400) + 1000000 then s.time.lastEpoch else s.midnight (s.utcSecs / 86400))) ∧
      t.bricks = s.bricks.mapVals (fun b => { b with vMinDay := 0xFFFF, vMaxDay := 0xFFFF }) ∧
      t.rows = s.rows.mapVals (fun b => { b with vMinDay := 0xFFFF, vMaxDay := 0xFFFF }) ∧
      t.readRows = s.readRows.mapVals (fun b => { b with vMinDay := 0xFFFF, vMaxDay := 0xFFFF }) ∧
      t.vault = (s.queueVault 7).vault ∧ t.recs.live = s.recs.live ∧ t.flt = s.flt ∧
      t.unreported = { s.unreported with
        recs := { s.unreported.recs with
          closedDay := t.recs.closedDay, dayTaken := true, pending := t.recs.pending, due := t.recs.due }
        bricks := t.bricks, rows := t.rows, readRows := t.readRows, vault := t.vault }) ∧
  (∀ s : State, s.recs.dayTaken = true → s.utcSecs / 86400 ≤ s.recs.closedDay →
    exec .closeOfBooks s = .next { s with out := [] })

/-- The Treasury (R594 to R599): a budget period takes the energies measured, counts itself and begins with every allowance whole; an
engine that has used its allowance is held; the supply timer enters and leaves Thrift. -/
def Obligations.BudgetsComplete : Prop :=
  (∀ (s : State) (m : Metering), s.power.mainUp = true → s.power.mainHeld = false → s.time.sweep % 100 = 0 →
    Gives (.budgetPeriodStart m) s fun t => t.trs.shared = m.shared ∧ t.trs.period = wrapU 32 (s.trs.period + 1) ∧
      t.trs.modulePower = min (divNear (m.shared + (List.range 8).foldl (fun n i => n + (m.engines.getD i (0, [])).1) 0 : Nat) 100).toNat 1000 ∧
      (∀ i, i < 8 → (t.trs.engines.get (i + 1)).spent = false ∧
        (t.trs.engines.get (i + 1)).energy = satU 32 (m.engines.getD i (0, [])).1) ∧
      t = { s with trs := t.trs, freeCtr := t.freeCtr, out := [] }) ∧
  (∀ (s : State) (m : Metering), s.time.sweep % 100 ≠ 0 → exec (.budgetPeriodStart m) s = .next { s with out := [] }) ∧
  (∀ (s : State) (e : Nat), 1 ≤ e → e ≤ 8 →
    exec (.allowanceSpent e) s = .next { s with
      trs := { s.trs with engines := s.trs.engines.modify e fun b => { b with spent := true } }, out := [] }) ∧
  (∀ s : State, s.trs.state ≤ 1 → s.trs.stateSet = true → s.power.onBank = false → (s.power.supA || s.power.supB) = true →
    max (s.trs.monitors.get 0).value (s.trs.monitors.get 1).value < 10 * s.nat P.trsThriftSupply →
    Gives (.thriftSupplyTimer true) s fun t => t.trs = { s.trs with supplyLow := true, thriftCause := t.thriftCauses, state := 1 } ∧
      t.unreported = { s.unreported with trs := t.trs }) ∧
  (∀ s : State, s.trs.state ≤ 1 → s.trs.stateSet = true → s.power.onBank = false → (s.power.supA || s.power.supB) = true →
    10 * (s.nat P.trsThriftSupply + 50) < max (s.trs.monitors.get 0).value (s.trs.monitors.get 1).value →
    Gives (.thriftSupplyTimer false) s fun t => t.trs = { s.trs with
        supplyLow := false, thriftCause := t.thriftCauses, state := if t.thriftCauses = 0 then 0 else 1 } ∧
      t.unreported = { s.unreported with trs := t.trs })

/-- Ageing (R606 to R611): a measurement that falls due outside its conditions waits; else the slowdowns, the flash sample, the bank's
capacity and the TCXO's mean rate are taken; the re-plan period asks for a re-plan, and a waiting re-plan makes a plan whose core
step never rises and whose guard never falls, and queues it. -/
def Obligations.AgeingCompletes : Prop :=
  (∀ (s : State) (counts : List Nat), counts.length = 4 → s.ageingRuns = true →
    Gives (.ringOscillatorMeasure counts) s fun t => bitOf t.age.waiting 0 = false ∧
      t.age.slowdown = (List.range 4).map (fun b => clampI (-32768) 32767
        (divNear (((s.age.ro0.getD b 0 : Int) - counts.getD b 0) * 10000) (s.age.ro0.getD b 0))) ∧
      t = { s with
        age := { s.age with waiting := t.age.waiting, slowdown := t.age.slowdown, trigger := t.age.trigger }, out := [] }) ∧
  (∀ (s : State) (counts : List Nat), counts.length = 4 → s.ageingRuns = false →
    exec (.ringOscillatorMeasure counts) s = .next { s with age := { s.age with waiting := putBit s.age.waiting 0 true }, out := [] }) ∧
  (∀ (s : State) (errors : Nat), s.ageingRuns = true → errors ≤ 64 →
    Gives (.flashMarginTest errors) s fun t => t.age.flash = (errors :: s.age.flash).take 8 ∧
      t.age.flashNext = (s.age.flashNext + 1) % 64 ∧ bitOf t.age.waiting 1 = false ∧
      t = { s with
        age := { s.age with
          waiting := t.age.waiting, flash := t.age.flash, flashNext := t.age.flashNext, trigger := t.age.trigger }
        out := [] }) ∧
  (∀ (s : State) (errors : Nat), s.ageingRuns = true → 64 < errors → s.whole (src 6 6) (itemRegion (sampleRegion s.age.flashNext)) →
    Gives (.flashMarginTest errors) s fun t => t.present (src 6 6) (itemRegion (sampleRegion s.age.flashNext)) ∧
      t.age.flash = (satU 32 errors :: s.age.flash).take 8 ∧ t.age.flashNext = (s.age.flashNext + 1) % 64 ∧
      t.unreported = { s.unreported with
        age := { s.age with
          waiting := t.age.waiting, flash := t.age.flash, flashNext := t.age.flashNext, trigger := t.age.trigger } }) ∧
  (∀ s : State, s.ageingRuns = true → s.power.supA = true → s.power.supB = true → s.vault.writing = none →
    s.modes.startedAt + 60000000000 ≤ s.time.ns → 45000 ≤ s.power.bankMilliVolt →
    exec .holdupBankTestStart s = .next { s with
      age := { s.age with waiting := putBit s.age.waiting 2 false, bankTest := true }, out := [] }) ∧
  (∀ (s : State) (us : Nat), s.age.bankTest = true →
    Gives (.holdupBankTestEnd us) s fun t => t.age.bankTest = false ∧ t.age.cap = satU 16 (divNear us 40).toNat ∧
      t.age.energy = t.age.cap * 768 / 100 ∧ t.power = { s.power with bankMilliVolt := 44000 } ∧
      t.unreported = { s.unreported with
        age := { s.age with bankTest := false, cap := t.age.cap, energy := t.age.energy, trigger := t.age.trigger }
        power := t.power }) ∧
  (∀ s : State, s.ageingRuns = true → 72000 ≤ s.age.daySync →
    Gives .tcxoDaily s fun t => t.age = { s.age with
        waiting := putBit s.age.waiting 3 false, tcxo := satI 32 (divNear s.age.daySum s.age.daySecs)
        tcxoDrift := satI 32 (satI 32 (divNear s.age.daySum s.age.daySecs) - s.age.tcxoMade), daySum := 0, daySecs := 0, daySync := 0 } ∧
      t = { s with age := t.age, out := [] }) ∧
  (∀ s : State, exec .replanPeriodExpiry s = .next { s with
      age := { s.age with trigger := if s.age.trigger = 0 then 5 else s.age.trigger }, out := [] }) ∧
  (∀ s : State, s.age.trigger ≠ 0 → s.age.running = none → s.ageingRuns = true → s.survey.state = 0 → s.steer.tuneState ≠ 1 →
    s.vault.writing = none →
    Gives .replan s fun t => ∃ p, t.age = { s.age with running := some p, trigger := 0 } ∧ p.cause = s.age.trigger ∧
      p.generation = s.age.plan.generation + 1 ∧ p.time = s.secs ∧ p.coreStep ≤ s.planInForce.coreStep ∧
      s.planInForce.dieGuard ≤ p.dieGuard ∧ t.vault = (s.queueVault 6).vault ∧
      t = { s with age := t.age, vault := t.vault, out := [] })

/-- Writes of the Vault (R618 to R624, R405): the next queued order starts with its record, the erased slot holds no record, the energy
rule lets the pages begin or makes the write wait and counts it, 60 s of waiting raise ST.03, pages lead to the read-back, which leads
to the seal or ends the write with ST.03, and a sealed record stands in its slot; a refresh queues every region. -/
def Obligations.VaultWritesComplete : Prop :=
  (∀ (s : State) (o : Nat) (w : Writing), s.vault.writing = none → s.power.mainUp = true → s.power.mainHeld = false →
    s.nextOrder = some o → s.writeOf o = some w → (o = 1 → s.dieTooHot = false ∧ (s.therm.vaultHeld = false ∨ s.dieBelowShutdown = true)) →
    (8 ≤ o → s.vault.yielded = none) →
    Gives .vaultWriteStart s fun t => t.vault = { (s.dequeue o).vault with writing := some w } ∧
      t.recs = (if o = 7 then { s.recs with pending := false } else s.recs) ∧
      t.est = (if o = 5 then { s.est with holdoff := false } else s.est) ∧ t.flt = (s.endFault (src 2 14) noItem).flt ∧
      t = { s with vault := t.vault, recs := t.recs, est := t.est, flt := t.flt, out := [] }) ∧
  (∀ s : State, s.vault.writing = none → s.power.mainUp = true → s.power.mainHeld = false → s.nextOrder = some 1 → s.dieTooHot = true →
    s.whole (src 2 14) noItem →
    Gives .vaultWriteStart s fun t => t.present (src 2 14) noItem ∧ t.unreported = s.unreported) ∧
  (∀ s : State, s.vault.writing.isSome = true → exec .vaultWriteStart s = .next { s with out := [] }) ∧
  (∀ (s : State) (w : Writing), s.vault.writing = some w → w.phase = 0 → s.dieTooHot = false →
    (s.modes.mode = .m2 → s.power.supA = true ∨ s.power.supB = true) →
    (7 ≤ w.order ∨ w.done ≠ 0 ∨ s.permitted w.bytesLeft = true) →
    Gives .vaultEraseComplete s fun t => t.vault = { s.vault with
        records := s.vault.records.set (64 * w.region + w.slot) none, writing := some { w with phase := 2 }, refused := 0 } ∧
      t.flt = (s.endFault (src 6 3) (item 9 w.region)).flt ∧ t = { s with vault := t.vault, flt := t.flt, out := [] }) ∧
  (∀ (s : State) (w : Writing), s.vault.writing = some w → w.phase = 0 → s.dieTooHot = false →
    (s.modes.mode = .m2 → s.power.supA = true ∨ s.power.supB = true) → w.order ≤ 6 → w.done = 0 →
    s.permitted w.bytesLeft = false →
    Gives .vaultEraseComplete s fun t => t.vault = { s.vault with
        records := s.vault.records.set (64 * w.region + w.slot) none, writing := some { w with phase := 1 }
        refusals := satU 32 (s.vault.refusals + 1), refused := 0 } ∧ t.flt = s.flt ∧
      t.unreported = { s.unreported with vault := t.vault }) ∧
  (∀ (s : State) (w : Writing), s.vault.writing = some w → w.phase = 1 → s.dieTooHot = false →
    (s.modes.mode = .m2 → s.power.supA = true ∨ s.power.supB = true) → s.permitted w.bytesLeft = true →
    Gives .vaultEnergyRetest s fun t => t.vault = { s.vault with writing := some { w with phase := 2 }, refused := 0 } ∧
      t.flt = (s.endFault (src 6 3) (item 9 w.region)).flt ∧ t = { s with vault := t.vault, flt := t.flt, out := [] }) ∧
  (∀ (s : State) (w : Writing), s.vault.writing = some w → w.phase = 1 → s.dieTooHot = false →
    (s.modes.mode = .m2 → s.power.supA = true ∨ s.power.supB = true) → w.order ≤ 6 → w.done = 0 →
    s.permitted w.bytesLeft = false →
    exec .vaultEnergyRetest s = .next { s with
      vault := { s.vault with refusals := satU 32 (s.vault.refusals + 1), refused := s.vault.refused + 1 }, out := [] }) ∧
  (∀ (s : State) (w : Writing), s.vault.writing = some w → w.phase = 1 → 59 ≤ s.vault.refused → s.whole (src 6 3) (item 9 w.region) →
    Gives .vaultRefusalTimeout s fun t => t.present (src 6 3) (item 9 w.region) ∧ t.vault = s.vault ∧ t.unacted = s.unacted) ∧
  (∀ (s : State) (w : Writing), s.vault.writing = some w → w.phase = 2 → w.order ≤ 7 → w.done + 1 < w.pages → s.dieTooHot = false →
    (s.modes.mode = .m2 → s.power.supA = true ∨ s.power.supB = true) →
    Gives .vaultPageProgrammed s fun t => t.vault = { s.vault with
        writing := some { w with done := w.done + 1 }, pagesWritten := satU 32 (s.vault.pagesWritten + 1), refused := 0 } ∧
      t.flt = (s.endFault (src 6 3) (item 9 w.region)).flt ∧ t = { s with vault := t.vault, flt := t.flt, out := [] }) ∧
  (∀ (s : State) (w : Writing), s.vault.writing = some w → w.phase = 2 → w.order ≤ 7 → w.pages ≤ w.done + 1 →
    exec .vaultPageProgrammed s = .next { s with
      vault := { s.vault with
        writing := some { w with done := w.done + 1, phase := 3 }, pagesWritten := satU 32 (s.vault.pagesWritten + 1) }
      out := [] }) ∧
  (∀ (s : State) (w : Writing), s.vault.writing = some w → w.phase = 2 → w.order = 10 → w.done + 1 < w.pages → (w.done + 1) % 16 = 0 →
    s.power.onBank = false → s.vault.queued % 256 ≠ 0 →
    exec .vaultPageProgrammed s = .next { s with
      vault := { s.vault with
        writing := none, yielded := some { w with done := w.done + 1, yielded := true }
        pagesWritten := satU 32 (s.vault.pagesWritten + 1) }
      out := [] }) ∧
  (∀ (s : State) (w : Writing) (crc : Nat), s.vault.writing = some w → w.phase = 3 →
    exec (.vaultReadbackComplete { read := crc, source := crc }) s = .next { s with vault := { s.vault with writing := some { w with phase := 4 } }, out := [] }) ∧
  (∀ (s : State) (w : Writing) (read source : Nat), s.vault.writing = some w → w.phase = 3 → read ≠ source → s.vault.yielded = none → s.whole (src 6 3) (item 9 w.region) →
    Gives (.vaultReadbackComplete { read := read, source := source }) s fun t => t.present (src 6 3) (item 9 w.region) ∧ t.vault.writing = none ∧
      t.vault.abandoned = satU 32 (s.vault.abandoned + 1) ∧ t.vault.records = s.vault.records ∧ (w.order ≠ 5 → t.unacted = s.unacted)) ∧
  (∀ (s : State) (w : Writing), s.vault.writing = some w → w.phase = 4 → s.vault.yielded = none → w.slot < 64 →
    (w.region = 3 → w.slot = s.vault.lockNext) →
    Gives .vaultSealComplete s fun t => t.vault.records.get (64 * w.region + w.slot) =
        some { generation := w.generation, pages := w.pages, time := s.secs, content := w.content
               origin := if w.region = 9 then s.spareOrigin w.content else 0 } ∧
      t.vault.writing = none ∧ t.vault.pagesWritten = satU 32 (s.vault.pagesWritten + 1)) ∧
  (∀ s : State, s.power.mainUp = true → s.power.mainHeld = false → s.inRom = false → bitOf s.vault.queued 10 = false →
    exec .vaultRefreshDue s = .next { s with
      vault := { s.vault with refreshLeft := s.refreshItems, queued := putBit s.vault.queued 10 true }, out := [] }) ∧
  (∀ s : State, exec .dieCoolVaultResume s = .next { s with therm := { s.therm with vaultHeld := false }, out := [] })

/-- What a seal brings into force (R119, R167, R184, R494, R588, R609): the safety set waits for its boundary, committed settings begin
a warm restart, a plan waits for its boundary, and a Ledger generation becomes the last close. -/
def Obligations.SealsTakeForce : Prop :=
  (∀ (s : State) (w : Writing) (g : Nat) (e : Table (Option Int)) (v : List Nat), s.vault.writing = some w → w.phase = 4 → w.order = 2 →
    w.content = .safety g e v → s.modes.lockoutPending = none →
    Gives .vaultSealComplete s fun t => t.par = { s.par with confirmedSet := s.par.sealing.or s.par.confirmedSet, sealing := none } ∧
      t.unreported = { s.unreported with vault := t.vault, par := t.par }) ∧
  (∀ (s : State) (w : Writing) (x : Settings) (a : List (Option (List Byte))), s.vault.writing = some w → w.phase = 4 → w.order = 4 →
    w.content = .settings x a → s.par.committing = true → bitOf s.vault.queued 4 = false → s.upd.trial = false → s.modes.lockoutPending = none →
    Gives .vaultSealComplete s fun t => t.modes = { s.modes with restartPending := some true, restartCause := 0 } ∧
      t.par.committing = false ∧ t.upd = { s.upd with anchors := s.upd.anchorsWork } ∧
      t.unreported = { s.unreported with vault := t.vault, par := t.par, upd := t.upd, modes := t.modes, twin := t.twin }) ∧
  (∀ (s : State) (w : Writing) (p : Plan), s.vault.writing = some w → w.phase = 4 → w.order = 6 → w.content = .plan p →
    s.modes.lockoutPending = none →
    Gives .vaultSealComplete s fun t => t.age = { s.age with
        plan := p, planned := true, apply := true, running := none, request := s.age.request && decide (s.age.trigger = 6) } ∧
      t.unreported = { s.unreported with vault := t.vault, age := t.age }) ∧
  (∀ (s : State) (w : Writing) (g : LedgerGen), s.vault.writing = some w → w.phase = 4 → w.order = 7 → w.content = .ledger g →
    s.modes.lockoutPending = none →
    Gives .vaultSealComplete s fun t => t.recs.closeGen = satU 32 g.number ∧ t.recs.lastClose = g.stamp / 1000000000 ∧
      t.recs.lastKind = g.kind ∧ t.recs.due = none ∧ t.recs.pending = false ∧ t.recs.gap = false ∧ t.recs.live = s.recs.live ∧
      t.unreported = { s.unreported with vault := t.vault, recs := t.unreported.recs })

/-- Rows are published or stand (R42, R43, R187): a Tally core publishes the rows of its bricks from its measurements, without LATE,
and leaves the other rows alone; one that is late counts, marks its rows LATE and raises SF.08. -/
def Obligations.PublicationCompletes : Prop :=
  (∀ (s : State) (c : Nat), c < 2 → s.tallies c = true → s.fresh c = false →
    Gives (.tallyPublish c) s fun t => t.fresh c = true ∧ (if c = 0 then t.arch.published0 else t.arch.published1) = s.time.sweep ∧
      (∀ b, b ∈ s.coreBricks c → bitOf (t.rows.get b).status 5 = false ∧ (t.rows.get b).voltage = (t.bricks.get b).voltage ∧
        (t.rows.get b).temperature = (t.bricks.get b).temperature) ∧
      (∀ b, b ∉ s.coreBricks c → t.rows.get b = s.rows.get b) ∧ t.par = s.par ∧ t.time = s.time) ∧
  (∀ (s : State) (c : Nat), c < 2 → s.tallies c = true → s.fresh c = false → s.whole (src 5 8) (itemEngine (3 + c)) →
    Gives (.tallyLate c) s fun t => t.present (src 5 8) (itemEngine (3 + c)) ∧
      (if c = 0 then t.arch.late0 else t.arch.late1) = satU 32 ((if c = 0 then s.arch.late0 else s.arch.late1) + 1) ∧
      (∀ b, b ∈ s.coreBricks c → t.rows.get b = { s.rows.get b with status := putBit (s.rows.get b).status 5 true }) ∧
      (∀ b, b ∉ s.coreBricks c → t.rows.get b = s.rows.get b) ∧ t.par = s.par ∧ t.time = s.time)

/-- Starts of the main domain (R93, R100 to R104, R119): the first power-up, a restart and a wake begin the start of their kind, cold
where the control region has failed, with sessions closed, no program in run and no P-switch closed; with the bank at 44 V the button
leads to M2 and a lockout latch or a failed self-test to M7; a strap fault or a bank below 44 V keeps M1. -/
def Obligations.StartsComplete : Prop :=
  (∀ (s : State) (x : StartInputs), s.night.inCharge = false → s.power.mainUp = false →
    Gives (.mainPowerGood x) s fun t =>
      t.modes.startKind = (if bitOf s.arch.regionGood 4 && !bitOf x.bad 4 then .warmRestart
        else if s.arch.regionGood = 0 then .coldPowerUp else .coldRestart) ∧ s.started t x) ∧
  (∀ (s : State) (x : StartInputs), s.modes.restartPending = some true → s.power.mainUp = true → s.power.mainHeld = true →
    s.power.synthLocked = true → s.power.fabricClockGood = true →
    Gives (.warmRestart x) s fun t =>
      t.modes.startKind = (if bitOf s.arch.regionGood 4 && !bitOf x.bad 4 then
          (if s.modes.startKind = .wake then .wake else .warmRestart) else .coldRestart) ∧ s.started t x) ∧
  (∀ (s : State) (x : StartInputs), s.modes.restartPending = some false → s.power.mainUp = true → s.power.mainHeld = true →
    s.power.synthLocked = true → s.power.fabricClockGood = true →
    Gives (.coldRestart x) s fun t => t.modes.startKind = .coldRestart ∧ t.modes.previous = 1 ∧ s.started t x) ∧
  (∀ (s : State) (x : StartInputs), s.night.inCharge = false → s.power.mainUp = false → x.straps.faults = [] → x.button = true →
    44000 ≤ s.power.bankMilliVolt →
    Gives (.mainPowerGood x) s fun t => t.modes.mode = .m2 ∧ t.twin.role = .none ∧ t.upd.control.recovery ≠ 0) ∧
  (∀ (s : State) (x : StartInputs), s.night.inCharge = false → s.power.mainUp = false → x.straps.faults ≠ [] →
    Gives (.mainPowerGood x) s fun t => t.modes.mode = .m1 ∧ t.twin.role = .none) ∧
  (∀ (s : State) (x : StartInputs), s.night.inCharge = false → s.power.mainUp = false → x.straps.faults = [] → x.button = false →
    44000 ≤ s.power.bankMilliVolt →
    (s.selection x.verified).slot.isSome = true → s.modes.latchStrong = true ∨ s.modes.latchNight = true ∨ x.selfTest = false →
    Gives (.mainPowerGood x) s fun t => t.modes.mode = .m7 ∧ t.modes.latchStrong = true ∧ t.modes.latchNight = true) ∧
  (∀ (s : State) (x : StartInputs), s.night.inCharge = false → s.power.mainUp = false → s.power.bankMilliVolt < 44000 →
    Gives (.mainPowerGood x) s fun t => t.modes.mode = .m1 ∧
      (x.straps.faults = [] → x.button = true → t.modes.bootExit = some .m2))

/-- The Boot steps end (R96 to R99, R470): with every step complete the module enters M4, a single one as active; a failed step
raises its fault and is kept, a retry begins a warm restart while retries are left, and the settle count ends by itself or by its
time limit, with LK.04 for every link that missed a reply. -/
def Obligations.BootCompletes : Prop :=
  (∀ s : State, s.booted = true → s.modes.settled = true → s.therm.bootShutdown = none →
    Gives .bootComplete s fun t => t.modes.mode = .m4 ∧ t.modes.bootFails = 0 ∧
      (s.flag P.twinPaired = false → s.modes.strapConflict = false → t.twin.role = .active) ∧ t.saf = s.saf ∧ t.par = s.par) ∧
  (∀ (s : State) (n : Nat), 1 ≤ n → n ≤ 11 → n ≠ 3 → s.modes.mode = .m1 → s.modes.bootFailed = 0 → s.power.mainHeld = false →
    s.whole (src 5 5) (item 0 0 n) →
    Gives (.bootStepFailed n) s fun t => t.present (src 5 5) (item 0 0 n) ∧ t.modes.bootFailed = n ∧
      t.modes.bootFails = s.modes.bootFails + 1 ∧ t.modes.mode = .m1 ∧ t.unacted = s.unacted) ∧
  (∀ s : State, s.modes.mode = .m1 → s.modes.bootFailed ≠ 0 → s.modes.bootFails < s.nat P.modeBootRetries →
    Gives .bootRetryTimer s fun t => t.modes.restartPending = some true ∧ t.modes.startKind = .warmRestart ∧
      t.power = { s.power with mainHeld := true } ∧ t.saf.coil = 0 ∧ t.saf.keep = 0 ∧ t.flt = s.flt ∧ t.par = s.par) ∧
  (∀ s : State, s.modes.mode = .m1 → s.modes.bootFailed ≠ 0 → s.nat P.modeBootRetries ≤ s.modes.bootFails →
    exec .bootRetryTimer s = .next { s with out := [] }) ∧
  (∀ s : State, s.modes.sweeping = true → s.nat P.modeSettleSweeps ≤ s.modes.settle →
    Gives .settleCountComplete s fun t => t = { s with
      modes := { s.modes with settled := true }, flt := s.endSettleFaults.flt, out := [] }) ∧
  (∀ s : State, s.modes.sweeping = true → s.modes.settled = false → s.booted = false → s.flt.broken = [] →
    Gives .settleTimeout s fun t => t.modes.settled = true ∧
      (∀ n, n ∈ s.usedLinks → bitOf s.modes.settleMissed n = true → t.present (src 1 4) (itemLink n)) ∧
      t.unacted = s.unacted) ∧
  (∀ s : State, s.modes.sweeping = true → s.modes.settled = false → s.booted = true → s.therm.bootShutdown = none →
    Gives .settleTimeout s fun t => t.modes.mode = .m4 ∧ t.modes.settled = true ∧ t.modes.bootFails = 0)

/-- An engine returns from its own reset (R26, R143, R289): it runs again with an empty buffer, a Tally core publishes from the next
epoch, and no switch, mode or parameter changes by it. -/
def Obligations.EngineReturnCompletes : Prop :=
  (∀ (s : State) (e : Nat), 1 ≤ e → e ≤ 8 → (s.arch.engines.get e).inReset = true → s.power.mainHeld = false →
    (∀ d, d ∈ s.wk.fabric → d.engine ≠ e) → (s.arch.engines.get e).buffer = [] →
    Gives (.engineResetReturn e) s fun t =>
      t.arch.engines.get e = { s.arch.engines.get e with inReset := false, discards := satU 32 (s.arch.engines.get e).discards } ∧
      (∀ j, j ≠ e → t.arch.engines.get j = s.arch.engines.get j) ∧ (e = 3 → t.arch.fresh0 = true) ∧ (e = 4 → t.arch.fresh1 = true) ∧
      t.saf = s.saf ∧ t.modes = s.modes ∧ t.par = s.par ∧ t.wk.fabric = s.wk.fabric) ∧
  (∀ (s : State) (e : Nat), 1 ≤ e → e ≤ 8 → (s.arch.engines.get e).inReset = true → s.power.mainHeld = false →
    (∀ d, d ∈ s.wk.fabric → d.engine ≠ e) → (∀ m, m ∈ (s.arch.engines.get e).buffer → m.expected ≠ (s.arch.engines.get e).epoch) →
    Gives (.engineResetReturn e) s fun t => t.arch.engines.get e = { s.arch.engines.get e with
        inReset := false, buffer := []
        discards := satU 32 ((s.arch.engines.get e).discards + (s.arch.engines.get e).buffer.length) } ∧
      (∀ j, j ≠ e → t.arch.engines.get j = s.arch.engines.get j) ∧ t.saf = s.saf ∧ t.modes = s.modes ∧ t.par = s.par)

/-- A sweep epoch (R42, R507, R508): while the main domain runs in a mode with sweeps, the cycle ends and the next begins at the next
epoch, with the sweep counter one higher, no rows published yet, the bus voltages and the switches read back as the sweep found them; a module
on its way to Recovery leaves M1 with the bank charged; no sweep runs otherwise. -/
def Obligations.SweepCompletes : Prop :=
  (∀ (s : State) (x : SweepInputs), s.power.mainUp = true → s.power.mainHeld = false → s.modes.mode ≠ .m0 → s.modes.mode ≠ .m2 →
    s.modes.bootExit ≠ some .m2 →
    s.time.step = none → s.time.sweepSet = true →
    Gives (.sweepEpoch x) s fun t => t.time.ns = s.time.nextEpoch ∧ t.time.lastEpoch = s.time.nextEpoch ∧ t.time.gridEnd = none ∧
      t.time.began = true ∧ t.time.sweep = wrapU 32 (s.time.sweep + 1) ∧ t.arch.fresh0 = false ∧ t.arch.fresh1 = false ∧
      t.saf.pRead = ofIdx ((List.range 20).filter fun p => pReadsOn (x.pDrop.getD p 24000)) ∧
      t.saf.hRead = ofIdx ((List.range 20).filter fun p =>
        hReadsClosed (x.hVolt.getD p 24000) || (!hReadsOpen (x.hVolt.getD p 24000) && bitOf s.saf.hRead p)) ∧
      (bitOf s.arch.modFailed 16 = false → t.sec.bus0 = x.bus0) ∧ (bitOf s.arch.modFailed 17 = false → t.sec.bus1 = x.bus1)) ∧
  (∀ (s : State) (x : SweepInputs), s.power.mainUp = false ∨ s.power.mainHeld = true ∨ s.modes.mode = .m0 ∨ s.modes.mode = .m2 →
    exec (.sweepEpoch x) s = .next { s with out := [] }) ∧
  (∀ (s : State) (x : SweepInputs), s.power.mainUp = true → s.power.mainHeld = false → s.modes.mode = .m1 → s.modes.bootExit = some .m2 →
    s.power.straps.faults = [] → s.modes.restartPending = none → 44000 ≤ x.monitors.getD 3 s.power.bankMilliVolt →
    Gives (.sweepEpoch x) s fun t => t.modes = { s.modes with mode := .m2, bootExit := none } ∧ t.time = s.time ∧ t.par = s.par)

/-- R130 whole: a request refused under R129 has no effect (its discard or reject is counted, or its refusal answered, the session
and slot of its address stay in use, and nothing else changes), a count that does not fit its payload and its buffer rejects the whole
request, and none is truncated. -/
def Obligations.RefusedRequestsHaveNoEffect : Prop :=
  (∀ (s : State) (f : Frame) (c : Cmd) (req : Instr) (bad : Option Reply) (body : State → Answer) (also opens inM2 : Bool),
    s.hears f = true →
    (f.bytes < 28 ∨ f.head = false → s.wicket f c req bad body also opens inM2 =
      { s with wk := { s.wk with frameDiscards := satU 32 (s.wk.frameDiscards + 1) } }) ∧
    (28 ≤ f.bytes → f.head = true → f.crcOk = false → s.wicket f c req bad body also opens inM2 =
      { s with wk := { s.wk with crcDiscards := satU 32 (s.wk.crcDiscards + 1) } }) ∧
    (28 ≤ f.bytes → f.head = true → f.crcOk = true → f.length = 0xFFFF ∨ 1024 < f.length ∨ f.length ≠ f.bytes - 28 →
      s.wicket f c req bad body also opens inM2 =
        ((s.touch f).modWk fun w => { w with lengthRejects := satU 32 (w.lengthRejects + 1) }).answer f f.code
          (lengthInvalid f.length (min 1024 (f.bytes - 28))) c.engine) ∧
    (s.arrives f = true → ∀ r, (s.touch f).frameRefused f c opens inM2 = some r →
      s.wicket f c req bad body also opens inM2 = (s.touch f).answer f f.code r c.engine) ∧
    (s.arrives f = true → (s.touch f).frameRefused f c opens inM2 = none → ∀ r, bad = some r →
      s.wicket f c req bad body also opens inM2 = (s.touch f).answer f c.code r c.engine)) ∧
  (∀ (s : State) (f : Frame), (s.touch f).unreported = s.unreported ∧ (s.touch f).flt = s.flt ∧ (s.touch f).recs = s.recs ∧
    ∀ i, ((s.touch f).slot i).slips = (s.slot i).slips ∧
      ((s.touch f).slot i).session.map (fun x => (x.token, x.wickets)) = (s.slot i).session.map fun x => (x.token, x.wickets)) ∧
  (∀ (s : State) (f : Frame) (code e : Nat) (r : Reply), (s.answer f code r e).out =
      s.out ++ (if f.via = 2 ∨ s.reaches f.src = true then [.wicketReply f code (s.stamp e r)] else []) ∧
    s.sentRct (s.answer f code r e) (s.replyRct f) ∧
    s.answer f code r e = { s with out := (s.answer f code r e).out, net := (s.answer f code r e).net }) ∧
  (∀ (f : Frame) (off head size most count : Nat), countedLen f off head size most count = none ↔
    1 ≤ count ∧ count ≤ most ∧ f.length = head + size * count)

/-- R139 whole: every command has its catalogue class; a request at that class or a less urgent one passes the check of classes, and
a more urgent one gets ACCESS_DENIED. -/
def Obligations.CommandClassesAreChecked : Prop :=
  ∀ (s : State) (f : Frame) (c : Cmd) (x : Session) (inM2 : Bool), f.host < 4 → (s.slot f.host).session = some x → x.token = f.session →
    (∀ i y, i < 4 → (s.slot i).session = some y → y.token = f.session → i = f.host) → (s.slot f.host).addr = some f.src →
    f.wicket < 16 → (x.wickets.get f.wicket).isOpen = true → knownCodes.contains f.code = true → s.modes.mode ≠ .m2 ∨ inM2 = true →
    (f.priority < c.cls → s.frameRefused f c false inM2 = some (refusal 0x0D 4 c.code)) ∧
    (c.cls ≤ f.priority → f.priority ≤ 4 → x.control = true → s.roleRefuses c = none → (c.kind = .u → f.via = 2) →
      s.frameRefused f c false inM2 = none)

/-- R534 whole: a frame written to a full FIFO of either bus is not queued, raises the bus's drop count and changes nothing else, and
its writer is told that it was refused; an auxiliary process value that is due finds it so too. -/
def Obligations.FullFifoRefusesFrames : Prop :=
  (∀ (s : State) (b : Nat) (x : CanFrame), 32 ≤ (s.can b).fifo.length →
    (s.canFifo b x).1 = false ∧ ((s.canFifo b x).2.can b).fifo = (s.can b).fifo ∧
    ((s.canFifo b x).2.can b).txDrops = satU 32 ((s.can b).txDrops + 1) ∧
    (∀ k, k ≠ b → (s.canFifo b x).2.can k = s.can k) ∧ (s.canFifo b x).2 = { s with bus := { s.bus with can := (s.canFifo b x).2.bus.can } }) ∧
  (∀ (s : State) (id i : Nat), s.canMode 1 = 2 → i ∈ s.mappings true → s.pdoId i = id → s.pdoWithheld id = false →
    32 ≤ (s.can 1).fifo.length →
    Gives (.txPdoRefreshDue id) s fun t => (t.can 1).fifo = (s.can 1).fifo ∧ (t.can 1).txDrops = satU 32 ((s.can 1).txDrops + 1) ∧
      t = { s with bus := { s.bus with can := t.bus.can, pdo := t.bus.pdo }, freeCtr := t.freeCtr, out := [] }) ∧
  (∀ (s : State) (n b : Nat) (x : CanFrame), s.canMode b = 2 → n < 16 → 32 ≤ (s.can b).fifo.length → (s.writeFrame n b none x).1 = 1)
end

