-- ==== Sys2Proof/Laws/State.lean ====
section
/-! SUPPORT. What each updater changes and what it leaves: one lemma per field and updater. -/

namespace Sys2Proof.Machine

open Sys2Proof

@[simp] theorem State.modIdent_pending (s : State) (f : Identity → Identity) : (s.modIdent f).pending = s.pending := rfl
@[simp] theorem State.modIdent_out (s : State) (f : Identity → Identity) : (s.modIdent f).out = s.out := rfl
@[simp] theorem State.modIdent_freeCtr (s : State) (f : Identity → Identity) : (s.modIdent f).freeCtr = s.freeCtr := rfl
@[simp] theorem State.modIdent_ident (s : State) (f : Identity → Identity) : (s.modIdent f).ident = f s.ident := rfl
@[simp] theorem State.modIdent_power (s : State) (f : Identity → Identity) : (s.modIdent f).power = s.power := rfl
@[simp] theorem State.modIdent_arch (s : State) (f : Identity → Identity) : (s.modIdent f).arch = s.arch := rfl
@[simp] theorem State.modIdent_modes (s : State) (f : Identity → Identity) : (s.modIdent f).modes = s.modes := rfl
@[simp] theorem State.modIdent_night (s : State) (f : Identity → Identity) : (s.modIdent f).night = s.night := rfl
@[simp] theorem State.modIdent_wk (s : State) (f : Identity → Identity) : (s.modIdent f).wk = s.wk := rfl
@[simp] theorem State.modIdent_par (s : State) (f : Identity → Identity) : (s.modIdent f).par = s.par := rfl
@[simp] theorem State.modIdent_est (s : State) (f : Identity → Identity) : (s.modIdent f).est = s.est := rfl
@[simp] theorem State.modIdent_survey (s : State) (f : Identity → Identity) : (s.modIdent f).survey = s.survey := rfl
@[simp] theorem State.modIdent_steer (s : State) (f : Identity → Identity) : (s.modIdent f).steer = s.steer := rfl
@[simp] theorem State.modIdent_prof (s : State) (f : Identity → Identity) : (s.modIdent f).prof = s.prof := rfl
@[simp] theorem State.modIdent_sec (s : State) (f : Identity → Identity) : (s.modIdent f).sec = s.sec := rfl
@[simp] theorem State.modIdent_therm (s : State) (f : Identity → Identity) : (s.modIdent f).therm = s.therm := rfl
@[simp] theorem State.modIdent_saf (s : State) (f : Identity → Identity) : (s.modIdent f).saf = s.saf := rfl
@[simp] theorem State.modIdent_flt (s : State) (f : Identity → Identity) : (s.modIdent f).flt = s.flt := rfl
@[simp] theorem State.modIdent_twin (s : State) (f : Identity → Identity) : (s.modIdent f).twin = s.twin := rfl
@[simp] theorem State.modIdent_time (s : State) (f : Identity → Identity) : (s.modIdent f).time = s.time := rfl
@[simp] theorem State.modIdent_net (s : State) (f : Identity → Identity) : (s.modIdent f).net = s.net := rfl
@[simp] theorem State.modIdent_bus (s : State) (f : Identity → Identity) : (s.modIdent f).bus = s.bus := rfl
@[simp] theorem State.modIdent_prg (s : State) (f : Identity → Identity) : (s.modIdent f).prg = s.prg := rfl
@[simp] theorem State.modIdent_recs (s : State) (f : Identity → Identity) : (s.modIdent f).recs = s.recs := rfl
@[simp] theorem State.modIdent_trs (s : State) (f : Identity → Identity) : (s.modIdent f).trs = s.trs := rfl
@[simp] theorem State.modIdent_age (s : State) (f : Identity → Identity) : (s.modIdent f).age = s.age := rfl
@[simp] theorem State.modIdent_vault (s : State) (f : Identity → Identity) : (s.modIdent f).vault = s.vault := rfl
@[simp] theorem State.modIdent_upd (s : State) (f : Identity → Identity) : (s.modIdent f).upd = s.upd := rfl
@[simp] theorem State.modIdent_links (s : State) (f : Identity → Identity) : (s.modIdent f).links = s.links := rfl
@[simp] theorem State.modIdent_bricks (s : State) (f : Identity → Identity) : (s.modIdent f).bricks = s.bricks := rfl
@[simp] theorem State.modIdent_rows (s : State) (f : Identity → Identity) : (s.modIdent f).rows = s.rows := rfl
@[simp] theorem State.modIdent_rails (s : State) (f : Identity → Identity) : (s.modIdent f).rails = s.rails := rfl
@[simp] theorem State.modIdent_loops (s : State) (f : Identity → Identity) : (s.modIdent f).loops = s.loops := rfl
@[simp] theorem State.modIdent_trims (s : State) (f : Identity → Identity) : (s.modIdent f).trims = s.trims := rfl

@[simp] theorem State.modPower_pending (s : State) (f : Power → Power) : (s.modPower f).pending = s.pending := rfl
@[simp] theorem State.modPower_out (s : State) (f : Power → Power) : (s.modPower f).out = s.out := rfl
@[simp] theorem State.modPower_freeCtr (s : State) (f : Power → Power) : (s.modPower f).freeCtr = s.freeCtr := rfl
@[simp] theorem State.modPower_ident (s : State) (f : Power → Power) : (s.modPower f).ident = s.ident := rfl
@[simp] theorem State.modPower_power (s : State) (f : Power → Power) : (s.modPower f).power = f s.power := rfl
@[simp] theorem State.modPower_arch (s : State) (f : Power → Power) : (s.modPower f).arch = s.arch := rfl
@[simp] theorem State.modPower_modes (s : State) (f : Power → Power) : (s.modPower f).modes = s.modes := rfl
@[simp] theorem State.modPower_night (s : State) (f : Power → Power) : (s.modPower f).night = s.night := rfl
@[simp] theorem State.modPower_wk (s : State) (f : Power → Power) : (s.modPower f).wk = s.wk := rfl
@[simp] theorem State.modPower_par (s : State) (f : Power → Power) : (s.modPower f).par = s.par := rfl
@[simp] theorem State.modPower_est (s : State) (f : Power → Power) : (s.modPower f).est = s.est := rfl
@[simp] theorem State.modPower_survey (s : State) (f : Power → Power) : (s.modPower f).survey = s.survey := rfl
@[simp] theorem State.modPower_steer (s : State) (f : Power → Power) : (s.modPower f).steer = s.steer := rfl
@[simp] theorem State.modPower_prof (s : State) (f : Power → Power) : (s.modPower f).prof = s.prof := rfl
@[simp] theorem State.modPower_sec (s : State) (f : Power → Power) : (s.modPower f).sec = s.sec := rfl
@[simp] theorem State.modPower_therm (s : State) (f : Power → Power) : (s.modPower f).therm = s.therm := rfl
@[simp] theorem State.modPower_saf (s : State) (f : Power → Power) : (s.modPower f).saf = s.saf := rfl
@[simp] theorem State.modPower_flt (s : State) (f : Power → Power) : (s.modPower f).flt = s.flt := rfl
@[simp] theorem State.modPower_twin (s : State) (f : Power → Power) : (s.modPower f).twin = s.twin := rfl
@[simp] theorem State.modPower_time (s : State) (f : Power → Power) : (s.modPower f).time = s.time := rfl
@[simp] theorem State.modPower_net (s : State) (f : Power → Power) : (s.modPower f).net = s.net := rfl
@[simp] theorem State.modPower_bus (s : State) (f : Power → Power) : (s.modPower f).bus = s.bus := rfl
@[simp] theorem State.modPower_prg (s : State) (f : Power → Power) : (s.modPower f).prg = s.prg := rfl
@[simp] theorem State.modPower_recs (s : State) (f : Power → Power) : (s.modPower f).recs = s.recs := rfl
@[simp] theorem State.modPower_trs (s : State) (f : Power → Power) : (s.modPower f).trs = s.trs := rfl
@[simp] theorem State.modPower_age (s : State) (f : Power → Power) : (s.modPower f).age = s.age := rfl
@[simp] theorem State.modPower_vault (s : State) (f : Power → Power) : (s.modPower f).vault = s.vault := rfl
@[simp] theorem State.modPower_upd (s : State) (f : Power → Power) : (s.modPower f).upd = s.upd := rfl
@[simp] theorem State.modPower_links (s : State) (f : Power → Power) : (s.modPower f).links = s.links := rfl
@[simp] theorem State.modPower_bricks (s : State) (f : Power → Power) : (s.modPower f).bricks = s.bricks := rfl
@[simp] theorem State.modPower_rows (s : State) (f : Power → Power) : (s.modPower f).rows = s.rows := rfl
@[simp] theorem State.modPower_rails (s : State) (f : Power → Power) : (s.modPower f).rails = s.rails := rfl
@[simp] theorem State.modPower_loops (s : State) (f : Power → Power) : (s.modPower f).loops = s.loops := rfl
@[simp] theorem State.modPower_trims (s : State) (f : Power → Power) : (s.modPower f).trims = s.trims := rfl

@[simp] theorem State.modArch_pending (s : State) (f : Arch → Arch) : (s.modArch f).pending = s.pending := rfl
@[simp] theorem State.modArch_out (s : State) (f : Arch → Arch) : (s.modArch f).out = s.out := rfl
@[simp] theorem State.modArch_freeCtr (s : State) (f : Arch → Arch) : (s.modArch f).freeCtr = s.freeCtr := rfl
@[simp] theorem State.modArch_ident (s : State) (f : Arch → Arch) : (s.modArch f).ident = s.ident := rfl
@[simp] theorem State.modArch_power (s : State) (f : Arch → Arch) : (s.modArch f).power = s.power := rfl
@[simp] theorem State.modArch_arch (s : State) (f : Arch → Arch) : (s.modArch f).arch = f s.arch := rfl
@[simp] theorem State.modArch_modes (s : State) (f : Arch → Arch) : (s.modArch f).modes = s.modes := rfl
@[simp] theorem State.modArch_night (s : State) (f : Arch → Arch) : (s.modArch f).night = s.night := rfl
@[simp] theorem State.modArch_wk (s : State) (f : Arch → Arch) : (s.modArch f).wk = s.wk := rfl
@[simp] theorem State.modArch_par (s : State) (f : Arch → Arch) : (s.modArch f).par = s.par := rfl
@[simp] theorem State.modArch_est (s : State) (f : Arch → Arch) : (s.modArch f).est = s.est := rfl
@[simp] theorem State.modArch_survey (s : State) (f : Arch → Arch) : (s.modArch f).survey = s.survey := rfl
@[simp] theorem State.modArch_steer (s : State) (f : Arch → Arch) : (s.modArch f).steer = s.steer := rfl
@[simp] theorem State.modArch_prof (s : State) (f : Arch → Arch) : (s.modArch f).prof = s.prof := rfl
@[simp] theorem State.modArch_sec (s : State) (f : Arch → Arch) : (s.modArch f).sec = s.sec := rfl
@[simp] theorem State.modArch_therm (s : State) (f : Arch → Arch) : (s.modArch f).therm = s.therm := rfl
@[simp] theorem State.modArch_saf (s : State) (f : Arch → Arch) : (s.modArch f).saf = s.saf := rfl
@[simp] theorem State.modArch_flt (s : State) (f : Arch → Arch) : (s.modArch f).flt = s.flt := rfl
@[simp] theorem State.modArch_twin (s : State) (f : Arch → Arch) : (s.modArch f).twin = s.twin := rfl
@[simp] theorem State.modArch_time (s : State) (f : Arch → Arch) : (s.modArch f).time = s.time := rfl
@[simp] theorem State.modArch_net (s : State) (f : Arch → Arch) : (s.modArch f).net = s.net := rfl
@[simp] theorem State.modArch_bus (s : State) (f : Arch → Arch) : (s.modArch f).bus = s.bus := rfl
@[simp] theorem State.modArch_prg (s : State) (f : Arch → Arch) : (s.modArch f).prg = s.prg := rfl
@[simp] theorem State.modArch_recs (s : State) (f : Arch → Arch) : (s.modArch f).recs = s.recs := rfl
@[simp] theorem State.modArch_trs (s : State) (f : Arch → Arch) : (s.modArch f).trs = s.trs := rfl
@[simp] theorem State.modArch_age (s : State) (f : Arch → Arch) : (s.modArch f).age = s.age := rfl
@[simp] theorem State.modArch_vault (s : State) (f : Arch → Arch) : (s.modArch f).vault = s.vault := rfl
@[simp] theorem State.modArch_upd (s : State) (f : Arch → Arch) : (s.modArch f).upd = s.upd := rfl
@[simp] theorem State.modArch_links (s : State) (f : Arch → Arch) : (s.modArch f).links = s.links := rfl
@[simp] theorem State.modArch_bricks (s : State) (f : Arch → Arch) : (s.modArch f).bricks = s.bricks := rfl
@[simp] theorem State.modArch_rows (s : State) (f : Arch → Arch) : (s.modArch f).rows = s.rows := rfl
@[simp] theorem State.modArch_rails (s : State) (f : Arch → Arch) : (s.modArch f).rails = s.rails := rfl
@[simp] theorem State.modArch_loops (s : State) (f : Arch → Arch) : (s.modArch f).loops = s.loops := rfl
@[simp] theorem State.modArch_trims (s : State) (f : Arch → Arch) : (s.modArch f).trims = s.trims := rfl

@[simp] theorem State.modModes_pending (s : State) (f : Modes → Modes) : (s.modModes f).pending = s.pending := rfl
@[simp] theorem State.modModes_out (s : State) (f : Modes → Modes) : (s.modModes f).out = s.out := rfl
@[simp] theorem State.modModes_freeCtr (s : State) (f : Modes → Modes) : (s.modModes f).freeCtr = s.freeCtr := rfl
@[simp] theorem State.modModes_ident (s : State) (f : Modes → Modes) : (s.modModes f).ident = s.ident := rfl
@[simp] theorem State.modModes_power (s : State) (f : Modes → Modes) : (s.modModes f).power = s.power := rfl
@[simp] theorem State.modModes_arch (s : State) (f : Modes → Modes) : (s.modModes f).arch = s.arch := rfl
@[simp] theorem State.modModes_modes (s : State) (f : Modes → Modes) : (s.modModes f).modes = f s.modes := rfl
@[simp] theorem State.modModes_night (s : State) (f : Modes → Modes) : (s.modModes f).night = s.night := rfl
@[simp] theorem State.modModes_wk (s : State) (f : Modes → Modes) : (s.modModes f).wk = s.wk := rfl
@[simp] theorem State.modModes_par (s : State) (f : Modes → Modes) : (s.modModes f).par = s.par := rfl
@[simp] theorem State.modModes_est (s : State) (f : Modes → Modes) : (s.modModes f).est = s.est := rfl
@[simp] theorem State.modModes_survey (s : State) (f : Modes → Modes) : (s.modModes f).survey = s.survey := rfl
@[simp] theorem State.modModes_steer (s : State) (f : Modes → Modes) : (s.modModes f).steer = s.steer := rfl
@[simp] theorem State.modModes_prof (s : State) (f : Modes → Modes) : (s.modModes f).prof = s.prof := rfl
@[simp] theorem State.modModes_sec (s : State) (f : Modes → Modes) : (s.modModes f).sec = s.sec := rfl
@[simp] theorem State.modModes_therm (s : State) (f : Modes → Modes) : (s.modModes f).therm = s.therm := rfl
@[simp] theorem State.modModes_saf (s : State) (f : Modes → Modes) : (s.modModes f).saf = s.saf := rfl
@[simp] theorem State.modModes_flt (s : State) (f : Modes → Modes) : (s.modModes f).flt = s.flt := rfl
@[simp] theorem State.modModes_twin (s : State) (f : Modes → Modes) : (s.modModes f).twin = s.twin := rfl
@[simp] theorem State.modModes_time (s : State) (f : Modes → Modes) : (s.modModes f).time = s.time := rfl
@[simp] theorem State.modModes_net (s : State) (f : Modes → Modes) : (s.modModes f).net = s.net := rfl
@[simp] theorem State.modModes_bus (s : State) (f : Modes → Modes) : (s.modModes f).bus = s.bus := rfl
@[simp] theorem State.modModes_prg (s : State) (f : Modes → Modes) : (s.modModes f).prg = s.prg := rfl
@[simp] theorem State.modModes_recs (s : State) (f : Modes → Modes) : (s.modModes f).recs = s.recs := rfl
@[simp] theorem State.modModes_trs (s : State) (f : Modes → Modes) : (s.modModes f).trs = s.trs := rfl
@[simp] theorem State.modModes_age (s : State) (f : Modes → Modes) : (s.modModes f).age = s.age := rfl
@[simp] theorem State.modModes_vault (s : State) (f : Modes → Modes) : (s.modModes f).vault = s.vault := rfl
@[simp] theorem State.modModes_upd (s : State) (f : Modes → Modes) : (s.modModes f).upd = s.upd := rfl
@[simp] theorem State.modModes_links (s : State) (f : Modes → Modes) : (s.modModes f).links = s.links := rfl
@[simp] theorem State.modModes_bricks (s : State) (f : Modes → Modes) : (s.modModes f).bricks = s.bricks := rfl
@[simp] theorem State.modModes_rows (s : State) (f : Modes → Modes) : (s.modModes f).rows = s.rows := rfl
@[simp] theorem State.modModes_rails (s : State) (f : Modes → Modes) : (s.modModes f).rails = s.rails := rfl
@[simp] theorem State.modModes_loops (s : State) (f : Modes → Modes) : (s.modModes f).loops = s.loops := rfl
@[simp] theorem State.modModes_trims (s : State) (f : Modes → Modes) : (s.modModes f).trims = s.trims := rfl

@[simp] theorem State.modNight_pending (s : State) (f : NightSafe → NightSafe) : (s.modNight f).pending = s.pending := rfl
@[simp] theorem State.modNight_out (s : State) (f : NightSafe → NightSafe) : (s.modNight f).out = s.out := rfl
@[simp] theorem State.modNight_freeCtr (s : State) (f : NightSafe → NightSafe) : (s.modNight f).freeCtr = s.freeCtr := rfl
@[simp] theorem State.modNight_ident (s : State) (f : NightSafe → NightSafe) : (s.modNight f).ident = s.ident := rfl
@[simp] theorem State.modNight_power (s : State) (f : NightSafe → NightSafe) : (s.modNight f).power = s.power := rfl
@[simp] theorem State.modNight_arch (s : State) (f : NightSafe → NightSafe) : (s.modNight f).arch = s.arch := rfl
@[simp] theorem State.modNight_modes (s : State) (f : NightSafe → NightSafe) : (s.modNight f).modes = s.modes := rfl
@[simp] theorem State.modNight_night (s : State) (f : NightSafe → NightSafe) : (s.modNight f).night = f s.night := rfl
@[simp] theorem State.modNight_wk (s : State) (f : NightSafe → NightSafe) : (s.modNight f).wk = s.wk := rfl
@[simp] theorem State.modNight_par (s : State) (f : NightSafe → NightSafe) : (s.modNight f).par = s.par := rfl
@[simp] theorem State.modNight_est (s : State) (f : NightSafe → NightSafe) : (s.modNight f).est = s.est := rfl
@[simp] theorem State.modNight_survey (s : State) (f : NightSafe → NightSafe) : (s.modNight f).survey = s.survey := rfl
@[simp] theorem State.modNight_steer (s : State) (f : NightSafe → NightSafe) : (s.modNight f).steer = s.steer := rfl
@[simp] theorem State.modNight_prof (s : State) (f : NightSafe → NightSafe) : (s.modNight f).prof = s.prof := rfl
@[simp] theorem State.modNight_sec (s : State) (f : NightSafe → NightSafe) : (s.modNight f).sec = s.sec := rfl
@[simp] theorem State.modNight_therm (s : State) (f : NightSafe → NightSafe) : (s.modNight f).therm = s.therm := rfl
@[simp] theorem State.modNight_saf (s : State) (f : NightSafe → NightSafe) : (s.modNight f).saf = s.saf := rfl
@[simp] theorem State.modNight_flt (s : State) (f : NightSafe → NightSafe) : (s.modNight f).flt = s.flt := rfl
@[simp] theorem State.modNight_twin (s : State) (f : NightSafe → NightSafe) : (s.modNight f).twin = s.twin := rfl
@[simp] theorem State.modNight_time (s : State) (f : NightSafe → NightSafe) : (s.modNight f).time = s.time := rfl
@[simp] theorem State.modNight_net (s : State) (f : NightSafe → NightSafe) : (s.modNight f).net = s.net := rfl
@[simp] theorem State.modNight_bus (s : State) (f : NightSafe → NightSafe) : (s.modNight f).bus = s.bus := rfl
@[simp] theorem State.modNight_prg (s : State) (f : NightSafe → NightSafe) : (s.modNight f).prg = s.prg := rfl
@[simp] theorem State.modNight_recs (s : State) (f : NightSafe → NightSafe) : (s.modNight f).recs = s.recs := rfl
@[simp] theorem State.modNight_trs (s : State) (f : NightSafe → NightSafe) : (s.modNight f).trs = s.trs := rfl
@[simp] theorem State.modNight_age (s : State) (f : NightSafe → NightSafe) : (s.modNight f).age = s.age := rfl
@[simp] theorem State.modNight_vault (s : State) (f : NightSafe → NightSafe) : (s.modNight f).vault = s.vault := rfl
@[simp] theorem State.modNight_upd (s : State) (f : NightSafe → NightSafe) : (s.modNight f).upd = s.upd := rfl
@[simp] theorem State.modNight_links (s : State) (f : NightSafe → NightSafe) : (s.modNight f).links = s.links := rfl
@[simp] theorem State.modNight_bricks (s : State) (f : NightSafe → NightSafe) : (s.modNight f).bricks = s.bricks := rfl
@[simp] theorem State.modNight_rows (s : State) (f : NightSafe → NightSafe) : (s.modNight f).rows = s.rows := rfl
@[simp] theorem State.modNight_rails (s : State) (f : NightSafe → NightSafe) : (s.modNight f).rails = s.rails := rfl
@[simp] theorem State.modNight_loops (s : State) (f : NightSafe → NightSafe) : (s.modNight f).loops = s.loops := rfl
@[simp] theorem State.modNight_trims (s : State) (f : NightSafe → NightSafe) : (s.modNight f).trims = s.trims := rfl

@[simp] theorem State.modWk_pending (s : State) (f : Wickets → Wickets) : (s.modWk f).pending = s.pending := rfl
@[simp] theorem State.modWk_out (s : State) (f : Wickets → Wickets) : (s.modWk f).out = s.out := rfl
@[simp] theorem State.modWk_freeCtr (s : State) (f : Wickets → Wickets) : (s.modWk f).freeCtr = s.freeCtr := rfl
@[simp] theorem State.modWk_ident (s : State) (f : Wickets → Wickets) : (s.modWk f).ident = s.ident := rfl
@[simp] theorem State.modWk_power (s : State) (f : Wickets → Wickets) : (s.modWk f).power = s.power := rfl
@[simp] theorem State.modWk_arch (s : State) (f : Wickets → Wickets) : (s.modWk f).arch = s.arch := rfl
@[simp] theorem State.modWk_modes (s : State) (f : Wickets → Wickets) : (s.modWk f).modes = s.modes := rfl
@[simp] theorem State.modWk_night (s : State) (f : Wickets → Wickets) : (s.modWk f).night = s.night := rfl
@[simp] theorem State.modWk_wk (s : State) (f : Wickets → Wickets) : (s.modWk f).wk = f s.wk := rfl
@[simp] theorem State.modWk_par (s : State) (f : Wickets → Wickets) : (s.modWk f).par = s.par := rfl
@[simp] theorem State.modWk_est (s : State) (f : Wickets → Wickets) : (s.modWk f).est = s.est := rfl
@[simp] theorem State.modWk_survey (s : State) (f : Wickets → Wickets) : (s.modWk f).survey = s.survey := rfl
@[simp] theorem State.modWk_steer (s : State) (f : Wickets → Wickets) : (s.modWk f).steer = s.steer := rfl
@[simp] theorem State.modWk_prof (s : State) (f : Wickets → Wickets) : (s.modWk f).prof = s.prof := rfl
@[simp] theorem State.modWk_sec (s : State) (f : Wickets → Wickets) : (s.modWk f).sec = s.sec := rfl
@[simp] theorem State.modWk_therm (s : State) (f : Wickets → Wickets) : (s.modWk f).therm = s.therm := rfl
@[simp] theorem State.modWk_saf (s : State) (f : Wickets → Wickets) : (s.modWk f).saf = s.saf := rfl
@[simp] theorem State.modWk_flt (s : State) (f : Wickets → Wickets) : (s.modWk f).flt = s.flt := rfl
@[simp] theorem State.modWk_twin (s : State) (f : Wickets → Wickets) : (s.modWk f).twin = s.twin := rfl
@[simp] theorem State.modWk_time (s : State) (f : Wickets → Wickets) : (s.modWk f).time = s.time := rfl
@[simp] theorem State.modWk_net (s : State) (f : Wickets → Wickets) : (s.modWk f).net = s.net := rfl
@[simp] theorem State.modWk_bus (s : State) (f : Wickets → Wickets) : (s.modWk f).bus = s.bus := rfl
@[simp] theorem State.modWk_prg (s : State) (f : Wickets → Wickets) : (s.modWk f).prg = s.prg := rfl
@[simp] theorem State.modWk_recs (s : State) (f : Wickets → Wickets) : (s.modWk f).recs = s.recs := rfl
@[simp] theorem State.modWk_trs (s : State) (f : Wickets → Wickets) : (s.modWk f).trs = s.trs := rfl
@[simp] theorem State.modWk_age (s : State) (f : Wickets → Wickets) : (s.modWk f).age = s.age := rfl
@[simp] theorem State.modWk_vault (s : State) (f : Wickets → Wickets) : (s.modWk f).vault = s.vault := rfl
@[simp] theorem State.modWk_upd (s : State) (f : Wickets → Wickets) : (s.modWk f).upd = s.upd := rfl
@[simp] theorem State.modWk_links (s : State) (f : Wickets → Wickets) : (s.modWk f).links = s.links := rfl
@[simp] theorem State.modWk_bricks (s : State) (f : Wickets → Wickets) : (s.modWk f).bricks = s.bricks := rfl
@[simp] theorem State.modWk_rows (s : State) (f : Wickets → Wickets) : (s.modWk f).rows = s.rows := rfl
@[simp] theorem State.modWk_rails (s : State) (f : Wickets → Wickets) : (s.modWk f).rails = s.rails := rfl
@[simp] theorem State.modWk_loops (s : State) (f : Wickets → Wickets) : (s.modWk f).loops = s.loops := rfl
@[simp] theorem State.modWk_trims (s : State) (f : Wickets → Wickets) : (s.modWk f).trims = s.trims := rfl

@[simp] theorem State.modPar_pending (s : State) (f : Params → Params) : (s.modPar f).pending = s.pending := rfl
@[simp] theorem State.modPar_out (s : State) (f : Params → Params) : (s.modPar f).out = s.out := rfl
@[simp] theorem State.modPar_freeCtr (s : State) (f : Params → Params) : (s.modPar f).freeCtr = s.freeCtr := rfl
@[simp] theorem State.modPar_ident (s : State) (f : Params → Params) : (s.modPar f).ident = s.ident := rfl
@[simp] theorem State.modPar_power (s : State) (f : Params → Params) : (s.modPar f).power = s.power := rfl
@[simp] theorem State.modPar_arch (s : State) (f : Params → Params) : (s.modPar f).arch = s.arch := rfl
@[simp] theorem State.modPar_modes (s : State) (f : Params → Params) : (s.modPar f).modes = s.modes := rfl
@[simp] theorem State.modPar_night (s : State) (f : Params → Params) : (s.modPar f).night = s.night := rfl
@[simp] theorem State.modPar_wk (s : State) (f : Params → Params) : (s.modPar f).wk = s.wk := rfl
@[simp] theorem State.modPar_par (s : State) (f : Params → Params) : (s.modPar f).par = f s.par := rfl
@[simp] theorem State.modPar_est (s : State) (f : Params → Params) : (s.modPar f).est = s.est := rfl
@[simp] theorem State.modPar_survey (s : State) (f : Params → Params) : (s.modPar f).survey = s.survey := rfl
@[simp] theorem State.modPar_steer (s : State) (f : Params → Params) : (s.modPar f).steer = s.steer := rfl
@[simp] theorem State.modPar_prof (s : State) (f : Params → Params) : (s.modPar f).prof = s.prof := rfl
@[simp] theorem State.modPar_sec (s : State) (f : Params → Params) : (s.modPar f).sec = s.sec := rfl
@[simp] theorem State.modPar_therm (s : State) (f : Params → Params) : (s.modPar f).therm = s.therm := rfl
@[simp] theorem State.modPar_saf (s : State) (f : Params → Params) : (s.modPar f).saf = s.saf := rfl
@[simp] theorem State.modPar_flt (s : State) (f : Params → Params) : (s.modPar f).flt = s.flt := rfl
@[simp] theorem State.modPar_twin (s : State) (f : Params → Params) : (s.modPar f).twin = s.twin := rfl
@[simp] theorem State.modPar_time (s : State) (f : Params → Params) : (s.modPar f).time = s.time := rfl
@[simp] theorem State.modPar_net (s : State) (f : Params → Params) : (s.modPar f).net = s.net := rfl
@[simp] theorem State.modPar_bus (s : State) (f : Params → Params) : (s.modPar f).bus = s.bus := rfl
@[simp] theorem State.modPar_prg (s : State) (f : Params → Params) : (s.modPar f).prg = s.prg := rfl
@[simp] theorem State.modPar_recs (s : State) (f : Params → Params) : (s.modPar f).recs = s.recs := rfl
@[simp] theorem State.modPar_trs (s : State) (f : Params → Params) : (s.modPar f).trs = s.trs := rfl
@[simp] theorem State.modPar_age (s : State) (f : Params → Params) : (s.modPar f).age = s.age := rfl
@[simp] theorem State.modPar_vault (s : State) (f : Params → Params) : (s.modPar f).vault = s.vault := rfl
@[simp] theorem State.modPar_upd (s : State) (f : Params → Params) : (s.modPar f).upd = s.upd := rfl
@[simp] theorem State.modPar_links (s : State) (f : Params → Params) : (s.modPar f).links = s.links := rfl
@[simp] theorem State.modPar_bricks (s : State) (f : Params → Params) : (s.modPar f).bricks = s.bricks := rfl
@[simp] theorem State.modPar_rows (s : State) (f : Params → Params) : (s.modPar f).rows = s.rows := rfl
@[simp] theorem State.modPar_rails (s : State) (f : Params → Params) : (s.modPar f).rails = s.rails := rfl
@[simp] theorem State.modPar_loops (s : State) (f : Params → Params) : (s.modPar f).loops = s.loops := rfl
@[simp] theorem State.modPar_trims (s : State) (f : Params → Params) : (s.modPar f).trims = s.trims := rfl

@[simp] theorem State.modEst_pending (s : State) (f : Estimate → Estimate) : (s.modEst f).pending = s.pending := rfl
@[simp] theorem State.modEst_out (s : State) (f : Estimate → Estimate) : (s.modEst f).out = s.out := rfl
@[simp] theorem State.modEst_freeCtr (s : State) (f : Estimate → Estimate) : (s.modEst f).freeCtr = s.freeCtr := rfl
@[simp] theorem State.modEst_ident (s : State) (f : Estimate → Estimate) : (s.modEst f).ident = s.ident := rfl
@[simp] theorem State.modEst_power (s : State) (f : Estimate → Estimate) : (s.modEst f).power = s.power := rfl
@[simp] theorem State.modEst_arch (s : State) (f : Estimate → Estimate) : (s.modEst f).arch = s.arch := rfl
@[simp] theorem State.modEst_modes (s : State) (f : Estimate → Estimate) : (s.modEst f).modes = s.modes := rfl
@[simp] theorem State.modEst_night (s : State) (f : Estimate → Estimate) : (s.modEst f).night = s.night := rfl
@[simp] theorem State.modEst_wk (s : State) (f : Estimate → Estimate) : (s.modEst f).wk = s.wk := rfl
@[simp] theorem State.modEst_par (s : State) (f : Estimate → Estimate) : (s.modEst f).par = s.par := rfl
@[simp] theorem State.modEst_est (s : State) (f : Estimate → Estimate) : (s.modEst f).est = f s.est := rfl
@[simp] theorem State.modEst_survey (s : State) (f : Estimate → Estimate) : (s.modEst f).survey = s.survey := rfl
@[simp] theorem State.modEst_steer (s : State) (f : Estimate → Estimate) : (s.modEst f).steer = s.steer := rfl
@[simp] theorem State.modEst_prof (s : State) (f : Estimate → Estimate) : (s.modEst f).prof = s.prof := rfl
@[simp] theorem State.modEst_sec (s : State) (f : Estimate → Estimate) : (s.modEst f).sec = s.sec := rfl
@[simp] theorem State.modEst_therm (s : State) (f : Estimate → Estimate) : (s.modEst f).therm = s.therm := rfl
@[simp] theorem State.modEst_saf (s : State) (f : Estimate → Estimate) : (s.modEst f).saf = s.saf := rfl
@[simp] theorem State.modEst_flt (s : State) (f : Estimate → Estimate) : (s.modEst f).flt = s.flt := rfl
@[simp] theorem State.modEst_twin (s : State) (f : Estimate → Estimate) : (s.modEst f).twin = s.twin := rfl
@[simp] theorem State.modEst_time (s : State) (f : Estimate → Estimate) : (s.modEst f).time = s.time := rfl
@[simp] theorem State.modEst_net (s : State) (f : Estimate → Estimate) : (s.modEst f).net = s.net := rfl
@[simp] theorem State.modEst_bus (s : State) (f : Estimate → Estimate) : (s.modEst f).bus = s.bus := rfl
@[simp] theorem State.modEst_prg (s : State) (f : Estimate → Estimate) : (s.modEst f).prg = s.prg := rfl
@[simp] theorem State.modEst_recs (s : State) (f : Estimate → Estimate) : (s.modEst f).recs = s.recs := rfl
@[simp] theorem State.modEst_trs (s : State) (f : Estimate → Estimate) : (s.modEst f).trs = s.trs := rfl
@[simp] theorem State.modEst_age (s : State) (f : Estimate → Estimate) : (s.modEst f).age = s.age := rfl
@[simp] theorem State.modEst_vault (s : State) (f : Estimate → Estimate) : (s.modEst f).vault = s.vault := rfl
@[simp] theorem State.modEst_upd (s : State) (f : Estimate → Estimate) : (s.modEst f).upd = s.upd := rfl
@[simp] theorem State.modEst_links (s : State) (f : Estimate → Estimate) : (s.modEst f).links = s.links := rfl
@[simp] theorem State.modEst_bricks (s : State) (f : Estimate → Estimate) : (s.modEst f).bricks = s.bricks := rfl
@[simp] theorem State.modEst_rows (s : State) (f : Estimate → Estimate) : (s.modEst f).rows = s.rows := rfl
@[simp] theorem State.modEst_rails (s : State) (f : Estimate → Estimate) : (s.modEst f).rails = s.rails := rfl
@[simp] theorem State.modEst_loops (s : State) (f : Estimate → Estimate) : (s.modEst f).loops = s.loops := rfl
@[simp] theorem State.modEst_trims (s : State) (f : Estimate → Estimate) : (s.modEst f).trims = s.trims := rfl

@[simp] theorem State.modSurvey_pending (s : State) (f : Survey → Survey) : (s.modSurvey f).pending = s.pending := rfl
@[simp] theorem State.modSurvey_out (s : State) (f : Survey → Survey) : (s.modSurvey f).out = s.out := rfl
@[simp] theorem State.modSurvey_freeCtr (s : State) (f : Survey → Survey) : (s.modSurvey f).freeCtr = s.freeCtr := rfl
@[simp] theorem State.modSurvey_ident (s : State) (f : Survey → Survey) : (s.modSurvey f).ident = s.ident := rfl
@[simp] theorem State.modSurvey_power (s : State) (f : Survey → Survey) : (s.modSurvey f).power = s.power := rfl
@[simp] theorem State.modSurvey_arch (s : State) (f : Survey → Survey) : (s.modSurvey f).arch = s.arch := rfl
@[simp] theorem State.modSurvey_modes (s : State) (f : Survey → Survey) : (s.modSurvey f).modes = s.modes := rfl
@[simp] theorem State.modSurvey_night (s : State) (f : Survey → Survey) : (s.modSurvey f).night = s.night := rfl
@[simp] theorem State.modSurvey_wk (s : State) (f : Survey → Survey) : (s.modSurvey f).wk = s.wk := rfl
@[simp] theorem State.modSurvey_par (s : State) (f : Survey → Survey) : (s.modSurvey f).par = s.par := rfl
@[simp] theorem State.modSurvey_est (s : State) (f : Survey → Survey) : (s.modSurvey f).est = s.est := rfl
@[simp] theorem State.modSurvey_survey (s : State) (f : Survey → Survey) : (s.modSurvey f).survey = f s.survey := rfl
@[simp] theorem State.modSurvey_steer (s : State) (f : Survey → Survey) : (s.modSurvey f).steer = s.steer := rfl
@[simp] theorem State.modSurvey_prof (s : State) (f : Survey → Survey) : (s.modSurvey f).prof = s.prof := rfl
@[simp] theorem State.modSurvey_sec (s : State) (f : Survey → Survey) : (s.modSurvey f).sec = s.sec := rfl
@[simp] theorem State.modSurvey_therm (s : State) (f : Survey → Survey) : (s.modSurvey f).therm = s.therm := rfl
@[simp] theorem State.modSurvey_saf (s : State) (f : Survey → Survey) : (s.modSurvey f).saf = s.saf := rfl
@[simp] theorem State.modSurvey_flt (s : State) (f : Survey → Survey) : (s.modSurvey f).flt = s.flt := rfl
@[simp] theorem State.modSurvey_twin (s : State) (f : Survey → Survey) : (s.modSurvey f).twin = s.twin := rfl
@[simp] theorem State.modSurvey_time (s : State) (f : Survey → Survey) : (s.modSurvey f).time = s.time := rfl
@[simp] theorem State.modSurvey_net (s : State) (f : Survey → Survey) : (s.modSurvey f).net = s.net := rfl
@[simp] theorem State.modSurvey_bus (s : State) (f : Survey → Survey) : (s.modSurvey f).bus = s.bus := rfl
@[simp] theorem State.modSurvey_prg (s : State) (f : Survey → Survey) : (s.modSurvey f).prg = s.prg := rfl
@[simp] theorem State.modSurvey_recs (s : State) (f : Survey → Survey) : (s.modSurvey f).recs = s.recs := rfl
@[simp] theorem State.modSurvey_trs (s : State) (f : Survey → Survey) : (s.modSurvey f).trs = s.trs := rfl
@[simp] theorem State.modSurvey_age (s : State) (f : Survey → Survey) : (s.modSurvey f).age = s.age := rfl
@[simp] theorem State.modSurvey_vault (s : State) (f : Survey → Survey) : (s.modSurvey f).vault = s.vault := rfl
@[simp] theorem State.modSurvey_upd (s : State) (f : Survey → Survey) : (s.modSurvey f).upd = s.upd := rfl
@[simp] theorem State.modSurvey_links (s : State) (f : Survey → Survey) : (s.modSurvey f).links = s.links := rfl
@[simp] theorem State.modSurvey_bricks (s : State) (f : Survey → Survey) : (s.modSurvey f).bricks = s.bricks := rfl
@[simp] theorem State.modSurvey_rows (s : State) (f : Survey → Survey) : (s.modSurvey f).rows = s.rows := rfl
@[simp] theorem State.modSurvey_rails (s : State) (f : Survey → Survey) : (s.modSurvey f).rails = s.rails := rfl
@[simp] theorem State.modSurvey_loops (s : State) (f : Survey → Survey) : (s.modSurvey f).loops = s.loops := rfl
@[simp] theorem State.modSurvey_trims (s : State) (f : Survey → Survey) : (s.modSurvey f).trims = s.trims := rfl

@[simp] theorem State.modSteer_pending (s : State) (f : Steer → Steer) : (s.modSteer f).pending = s.pending := rfl
@[simp] theorem State.modSteer_out (s : State) (f : Steer → Steer) : (s.modSteer f).out = s.out := rfl
@[simp] theorem State.modSteer_freeCtr (s : State) (f : Steer → Steer) : (s.modSteer f).freeCtr = s.freeCtr := rfl
@[simp] theorem State.modSteer_ident (s : State) (f : Steer → Steer) : (s.modSteer f).ident = s.ident := rfl
@[simp] theorem State.modSteer_power (s : State) (f : Steer → Steer) : (s.modSteer f).power = s.power := rfl
@[simp] theorem State.modSteer_arch (s : State) (f : Steer → Steer) : (s.modSteer f).arch = s.arch := rfl
@[simp] theorem State.modSteer_modes (s : State) (f : Steer → Steer) : (s.modSteer f).modes = s.modes := rfl
@[simp] theorem State.modSteer_night (s : State) (f : Steer → Steer) : (s.modSteer f).night = s.night := rfl
@[simp] theorem State.modSteer_wk (s : State) (f : Steer → Steer) : (s.modSteer f).wk = s.wk := rfl
@[simp] theorem State.modSteer_par (s : State) (f : Steer → Steer) : (s.modSteer f).par = s.par := rfl
@[simp] theorem State.modSteer_est (s : State) (f : Steer → Steer) : (s.modSteer f).est = s.est := rfl
@[simp] theorem State.modSteer_survey (s : State) (f : Steer → Steer) : (s.modSteer f).survey = s.survey := rfl
@[simp] theorem State.modSteer_steer (s : State) (f : Steer → Steer) : (s.modSteer f).steer = f s.steer := rfl
@[simp] theorem State.modSteer_prof (s : State) (f : Steer → Steer) : (s.modSteer f).prof = s.prof := rfl
@[simp] theorem State.modSteer_sec (s : State) (f : Steer → Steer) : (s.modSteer f).sec = s.sec := rfl
@[simp] theorem State.modSteer_therm (s : State) (f : Steer → Steer) : (s.modSteer f).therm = s.therm := rfl
@[simp] theorem State.modSteer_saf (s : State) (f : Steer → Steer) : (s.modSteer f).saf = s.saf := rfl
@[simp] theorem State.modSteer_flt (s : State) (f : Steer → Steer) : (s.modSteer f).flt = s.flt := rfl
@[simp] theorem State.modSteer_twin (s : State) (f : Steer → Steer) : (s.modSteer f).twin = s.twin := rfl
@[simp] theorem State.modSteer_time (s : State) (f : Steer → Steer) : (s.modSteer f).time = s.time := rfl
@[simp] theorem State.modSteer_net (s : State) (f : Steer → Steer) : (s.modSteer f).net = s.net := rfl
@[simp] theorem State.modSteer_bus (s : State) (f : Steer → Steer) : (s.modSteer f).bus = s.bus := rfl
@[simp] theorem State.modSteer_prg (s : State) (f : Steer → Steer) : (s.modSteer f).prg = s.prg := rfl
@[simp] theorem State.modSteer_recs (s : State) (f : Steer → Steer) : (s.modSteer f).recs = s.recs := rfl
@[simp] theorem State.modSteer_trs (s : State) (f : Steer → Steer) : (s.modSteer f).trs = s.trs := rfl
@[simp] theorem State.modSteer_age (s : State) (f : Steer → Steer) : (s.modSteer f).age = s.age := rfl
@[simp] theorem State.modSteer_vault (s : State) (f : Steer → Steer) : (s.modSteer f).vault = s.vault := rfl
@[simp] theorem State.modSteer_upd (s : State) (f : Steer → Steer) : (s.modSteer f).upd = s.upd := rfl
@[simp] theorem State.modSteer_links (s : State) (f : Steer → Steer) : (s.modSteer f).links = s.links := rfl
@[simp] theorem State.modSteer_bricks (s : State) (f : Steer → Steer) : (s.modSteer f).bricks = s.bricks := rfl
@[simp] theorem State.modSteer_rows (s : State) (f : Steer → Steer) : (s.modSteer f).rows = s.rows := rfl
@[simp] theorem State.modSteer_rails (s : State) (f : Steer → Steer) : (s.modSteer f).rails = s.rails := rfl
@[simp] theorem State.modSteer_loops (s : State) (f : Steer → Steer) : (s.modSteer f).loops = s.loops := rfl
@[simp] theorem State.modSteer_trims (s : State) (f : Steer → Steer) : (s.modSteer f).trims = s.trims := rfl

@[simp] theorem State.modProf_pending (s : State) (f : Profile → Profile) : (s.modProf f).pending = s.pending := rfl
@[simp] theorem State.modProf_out (s : State) (f : Profile → Profile) : (s.modProf f).out = s.out := rfl
@[simp] theorem State.modProf_freeCtr (s : State) (f : Profile → Profile) : (s.modProf f).freeCtr = s.freeCtr := rfl
@[simp] theorem State.modProf_ident (s : State) (f : Profile → Profile) : (s.modProf f).ident = s.ident := rfl
@[simp] theorem State.modProf_power (s : State) (f : Profile → Profile) : (s.modProf f).power = s.power := rfl
@[simp] theorem State.modProf_arch (s : State) (f : Profile → Profile) : (s.modProf f).arch = s.arch := rfl
@[simp] theorem State.modProf_modes (s : State) (f : Profile → Profile) : (s.modProf f).modes = s.modes := rfl
@[simp] theorem State.modProf_night (s : State) (f : Profile → Profile) : (s.modProf f).night = s.night := rfl
@[simp] theorem State.modProf_wk (s : State) (f : Profile → Profile) : (s.modProf f).wk = s.wk := rfl
@[simp] theorem State.modProf_par (s : State) (f : Profile → Profile) : (s.modProf f).par = s.par := rfl
@[simp] theorem State.modProf_est (s : State) (f : Profile → Profile) : (s.modProf f).est = s.est := rfl
@[simp] theorem State.modProf_survey (s : State) (f : Profile → Profile) : (s.modProf f).survey = s.survey := rfl
@[simp] theorem State.modProf_steer (s : State) (f : Profile → Profile) : (s.modProf f).steer = s.steer := rfl
@[simp] theorem State.modProf_prof (s : State) (f : Profile → Profile) : (s.modProf f).prof = f s.prof := rfl
@[simp] theorem State.modProf_sec (s : State) (f : Profile → Profile) : (s.modProf f).sec = s.sec := rfl
@[simp] theorem State.modProf_therm (s : State) (f : Profile → Profile) : (s.modProf f).therm = s.therm := rfl
@[simp] theorem State.modProf_saf (s : State) (f : Profile → Profile) : (s.modProf f).saf = s.saf := rfl
@[simp] theorem State.modProf_flt (s : State) (f : Profile → Profile) : (s.modProf f).flt = s.flt := rfl
@[simp] theorem State.modProf_twin (s : State) (f : Profile → Profile) : (s.modProf f).twin = s.twin := rfl
@[simp] theorem State.modProf_time (s : State) (f : Profile → Profile) : (s.modProf f).time = s.time := rfl
@[simp] theorem State.modProf_net (s : State) (f : Profile → Profile) : (s.modProf f).net = s.net := rfl
@[simp] theorem State.modProf_bus (s : State) (f : Profile → Profile) : (s.modProf f).bus = s.bus := rfl
@[simp] theorem State.modProf_prg (s : State) (f : Profile → Profile) : (s.modProf f).prg = s.prg := rfl
@[simp] theorem State.modProf_recs (s : State) (f : Profile → Profile) : (s.modProf f).recs = s.recs := rfl
@[simp] theorem State.modProf_trs (s : State) (f : Profile → Profile) : (s.modProf f).trs = s.trs := rfl
@[simp] theorem State.modProf_age (s : State) (f : Profile → Profile) : (s.modProf f).age = s.age := rfl
@[simp] theorem State.modProf_vault (s : State) (f : Profile → Profile) : (s.modProf f).vault = s.vault := rfl
@[simp] theorem State.modProf_upd (s : State) (f : Profile → Profile) : (s.modProf f).upd = s.upd := rfl
@[simp] theorem State.modProf_links (s : State) (f : Profile → Profile) : (s.modProf f).links = s.links := rfl
@[simp] theorem State.modProf_bricks (s : State) (f : Profile → Profile) : (s.modProf f).bricks = s.bricks := rfl
@[simp] theorem State.modProf_rows (s : State) (f : Profile → Profile) : (s.modProf f).rows = s.rows := rfl
@[simp] theorem State.modProf_rails (s : State) (f : Profile → Profile) : (s.modProf f).rails = s.rails := rfl
@[simp] theorem State.modProf_loops (s : State) (f : Profile → Profile) : (s.modProf f).loops = s.loops := rfl
@[simp] theorem State.modProf_trims (s : State) (f : Profile → Profile) : (s.modProf f).trims = s.trims := rfl

@[simp] theorem State.modSec_pending (s : State) (f : Sectionm → Sectionm) : (s.modSec f).pending = s.pending := rfl
@[simp] theorem State.modSec_out (s : State) (f : Sectionm → Sectionm) : (s.modSec f).out = s.out := rfl
@[simp] theorem State.modSec_freeCtr (s : State) (f : Sectionm → Sectionm) : (s.modSec f).freeCtr = s.freeCtr := rfl
@[simp] theorem State.modSec_ident (s : State) (f : Sectionm → Sectionm) : (s.modSec f).ident = s.ident := rfl
@[simp] theorem State.modSec_power (s : State) (f : Sectionm → Sectionm) : (s.modSec f).power = s.power := rfl
@[simp] theorem State.modSec_arch (s : State) (f : Sectionm → Sectionm) : (s.modSec f).arch = s.arch := rfl
@[simp] theorem State.modSec_modes (s : State) (f : Sectionm → Sectionm) : (s.modSec f).modes = s.modes := rfl
@[simp] theorem State.modSec_night (s : State) (f : Sectionm → Sectionm) : (s.modSec f).night = s.night := rfl
@[simp] theorem State.modSec_wk (s : State) (f : Sectionm → Sectionm) : (s.modSec f).wk = s.wk := rfl
@[simp] theorem State.modSec_par (s : State) (f : Sectionm → Sectionm) : (s.modSec f).par = s.par := rfl
@[simp] theorem State.modSec_est (s : State) (f : Sectionm → Sectionm) : (s.modSec f).est = s.est := rfl
@[simp] theorem State.modSec_survey (s : State) (f : Sectionm → Sectionm) : (s.modSec f).survey = s.survey := rfl
@[simp] theorem State.modSec_steer (s : State) (f : Sectionm → Sectionm) : (s.modSec f).steer = s.steer := rfl
@[simp] theorem State.modSec_prof (s : State) (f : Sectionm → Sectionm) : (s.modSec f).prof = s.prof := rfl
@[simp] theorem State.modSec_sec (s : State) (f : Sectionm → Sectionm) : (s.modSec f).sec = f s.sec := rfl
@[simp] theorem State.modSec_therm (s : State) (f : Sectionm → Sectionm) : (s.modSec f).therm = s.therm := rfl
@[simp] theorem State.modSec_saf (s : State) (f : Sectionm → Sectionm) : (s.modSec f).saf = s.saf := rfl
@[simp] theorem State.modSec_flt (s : State) (f : Sectionm → Sectionm) : (s.modSec f).flt = s.flt := rfl
@[simp] theorem State.modSec_twin (s : State) (f : Sectionm → Sectionm) : (s.modSec f).twin = s.twin := rfl
@[simp] theorem State.modSec_time (s : State) (f : Sectionm → Sectionm) : (s.modSec f).time = s.time := rfl
@[simp] theorem State.modSec_net (s : State) (f : Sectionm → Sectionm) : (s.modSec f).net = s.net := rfl
@[simp] theorem State.modSec_bus (s : State) (f : Sectionm → Sectionm) : (s.modSec f).bus = s.bus := rfl
@[simp] theorem State.modSec_prg (s : State) (f : Sectionm → Sectionm) : (s.modSec f).prg = s.prg := rfl
@[simp] theorem State.modSec_recs (s : State) (f : Sectionm → Sectionm) : (s.modSec f).recs = s.recs := rfl
@[simp] theorem State.modSec_trs (s : State) (f : Sectionm → Sectionm) : (s.modSec f).trs = s.trs := rfl
@[simp] theorem State.modSec_age (s : State) (f : Sectionm → Sectionm) : (s.modSec f).age = s.age := rfl
@[simp] theorem State.modSec_vault (s : State) (f : Sectionm → Sectionm) : (s.modSec f).vault = s.vault := rfl
@[simp] theorem State.modSec_upd (s : State) (f : Sectionm → Sectionm) : (s.modSec f).upd = s.upd := rfl
@[simp] theorem State.modSec_links (s : State) (f : Sectionm → Sectionm) : (s.modSec f).links = s.links := rfl
@[simp] theorem State.modSec_bricks (s : State) (f : Sectionm → Sectionm) : (s.modSec f).bricks = s.bricks := rfl
@[simp] theorem State.modSec_rows (s : State) (f : Sectionm → Sectionm) : (s.modSec f).rows = s.rows := rfl
@[simp] theorem State.modSec_rails (s : State) (f : Sectionm → Sectionm) : (s.modSec f).rails = s.rails := rfl
@[simp] theorem State.modSec_loops (s : State) (f : Sectionm → Sectionm) : (s.modSec f).loops = s.loops := rfl
@[simp] theorem State.modSec_trims (s : State) (f : Sectionm → Sectionm) : (s.modSec f).trims = s.trims := rfl

@[simp] theorem State.modTherm_pending (s : State) (f : Thermal → Thermal) : (s.modTherm f).pending = s.pending := rfl
@[simp] theorem State.modTherm_out (s : State) (f : Thermal → Thermal) : (s.modTherm f).out = s.out := rfl
@[simp] theorem State.modTherm_freeCtr (s : State) (f : Thermal → Thermal) : (s.modTherm f).freeCtr = s.freeCtr := rfl
@[simp] theorem State.modTherm_ident (s : State) (f : Thermal → Thermal) : (s.modTherm f).ident = s.ident := rfl
@[simp] theorem State.modTherm_power (s : State) (f : Thermal → Thermal) : (s.modTherm f).power = s.power := rfl
@[simp] theorem State.modTherm_arch (s : State) (f : Thermal → Thermal) : (s.modTherm f).arch = s.arch := rfl
@[simp] theorem State.modTherm_modes (s : State) (f : Thermal → Thermal) : (s.modTherm f).modes = s.modes := rfl
@[simp] theorem State.modTherm_night (s : State) (f : Thermal → Thermal) : (s.modTherm f).night = s.night := rfl
@[simp] theorem State.modTherm_wk (s : State) (f : Thermal → Thermal) : (s.modTherm f).wk = s.wk := rfl
@[simp] theorem State.modTherm_par (s : State) (f : Thermal → Thermal) : (s.modTherm f).par = s.par := rfl
@[simp] theorem State.modTherm_est (s : State) (f : Thermal → Thermal) : (s.modTherm f).est = s.est := rfl
@[simp] theorem State.modTherm_survey (s : State) (f : Thermal → Thermal) : (s.modTherm f).survey = s.survey := rfl
@[simp] theorem State.modTherm_steer (s : State) (f : Thermal → Thermal) : (s.modTherm f).steer = s.steer := rfl
@[simp] theorem State.modTherm_prof (s : State) (f : Thermal → Thermal) : (s.modTherm f).prof = s.prof := rfl
@[simp] theorem State.modTherm_sec (s : State) (f : Thermal → Thermal) : (s.modTherm f).sec = s.sec := rfl
@[simp] theorem State.modTherm_therm (s : State) (f : Thermal → Thermal) : (s.modTherm f).therm = f s.therm := rfl
@[simp] theorem State.modTherm_saf (s : State) (f : Thermal → Thermal) : (s.modTherm f).saf = s.saf := rfl
@[simp] theorem State.modTherm_flt (s : State) (f : Thermal → Thermal) : (s.modTherm f).flt = s.flt := rfl
@[simp] theorem State.modTherm_twin (s : State) (f : Thermal → Thermal) : (s.modTherm f).twin = s.twin := rfl
@[simp] theorem State.modTherm_time (s : State) (f : Thermal → Thermal) : (s.modTherm f).time = s.time := rfl
@[simp] theorem State.modTherm_net (s : State) (f : Thermal → Thermal) : (s.modTherm f).net = s.net := rfl
@[simp] theorem State.modTherm_bus (s : State) (f : Thermal → Thermal) : (s.modTherm f).bus = s.bus := rfl
@[simp] theorem State.modTherm_prg (s : State) (f : Thermal → Thermal) : (s.modTherm f).prg = s.prg := rfl
@[simp] theorem State.modTherm_recs (s : State) (f : Thermal → Thermal) : (s.modTherm f).recs = s.recs := rfl
@[simp] theorem State.modTherm_trs (s : State) (f : Thermal → Thermal) : (s.modTherm f).trs = s.trs := rfl
@[simp] theorem State.modTherm_age (s : State) (f : Thermal → Thermal) : (s.modTherm f).age = s.age := rfl
@[simp] theorem State.modTherm_vault (s : State) (f : Thermal → Thermal) : (s.modTherm f).vault = s.vault := rfl
@[simp] theorem State.modTherm_upd (s : State) (f : Thermal → Thermal) : (s.modTherm f).upd = s.upd := rfl
@[simp] theorem State.modTherm_links (s : State) (f : Thermal → Thermal) : (s.modTherm f).links = s.links := rfl
@[simp] theorem State.modTherm_bricks (s : State) (f : Thermal → Thermal) : (s.modTherm f).bricks = s.bricks := rfl
@[simp] theorem State.modTherm_rows (s : State) (f : Thermal → Thermal) : (s.modTherm f).rows = s.rows := rfl
@[simp] theorem State.modTherm_rails (s : State) (f : Thermal → Thermal) : (s.modTherm f).rails = s.rails := rfl
@[simp] theorem State.modTherm_loops (s : State) (f : Thermal → Thermal) : (s.modTherm f).loops = s.loops := rfl
@[simp] theorem State.modTherm_trims (s : State) (f : Thermal → Thermal) : (s.modTherm f).trims = s.trims := rfl

@[simp] theorem State.modSaf_pending (s : State) (f : Safety → Safety) : (s.modSaf f).pending = s.pending := rfl
@[simp] theorem State.modSaf_out (s : State) (f : Safety → Safety) : (s.modSaf f).out = s.out := rfl
@[simp] theorem State.modSaf_freeCtr (s : State) (f : Safety → Safety) : (s.modSaf f).freeCtr = s.freeCtr := rfl
@[simp] theorem State.modSaf_ident (s : State) (f : Safety → Safety) : (s.modSaf f).ident = s.ident := rfl
@[simp] theorem State.modSaf_power (s : State) (f : Safety → Safety) : (s.modSaf f).power = s.power := rfl
@[simp] theorem State.modSaf_arch (s : State) (f : Safety → Safety) : (s.modSaf f).arch = s.arch := rfl
@[simp] theorem State.modSaf_modes (s : State) (f : Safety → Safety) : (s.modSaf f).modes = s.modes := rfl
@[simp] theorem State.modSaf_night (s : State) (f : Safety → Safety) : (s.modSaf f).night = s.night := rfl
@[simp] theorem State.modSaf_wk (s : State) (f : Safety → Safety) : (s.modSaf f).wk = s.wk := rfl
@[simp] theorem State.modSaf_par (s : State) (f : Safety → Safety) : (s.modSaf f).par = s.par := rfl
@[simp] theorem State.modSaf_est (s : State) (f : Safety → Safety) : (s.modSaf f).est = s.est := rfl
@[simp] theorem State.modSaf_survey (s : State) (f : Safety → Safety) : (s.modSaf f).survey = s.survey := rfl
@[simp] theorem State.modSaf_steer (s : State) (f : Safety → Safety) : (s.modSaf f).steer = s.steer := rfl
@[simp] theorem State.modSaf_prof (s : State) (f : Safety → Safety) : (s.modSaf f).prof = s.prof := rfl
@[simp] theorem State.modSaf_sec (s : State) (f : Safety → Safety) : (s.modSaf f).sec = s.sec := rfl
@[simp] theorem State.modSaf_therm (s : State) (f : Safety → Safety) : (s.modSaf f).therm = s.therm := rfl
@[simp] theorem State.modSaf_saf (s : State) (f : Safety → Safety) : (s.modSaf f).saf = f s.saf := rfl
@[simp] theorem State.modSaf_flt (s : State) (f : Safety → Safety) : (s.modSaf f).flt = s.flt := rfl
@[simp] theorem State.modSaf_twin (s : State) (f : Safety → Safety) : (s.modSaf f).twin = s.twin := rfl
@[simp] theorem State.modSaf_time (s : State) (f : Safety → Safety) : (s.modSaf f).time = s.time := rfl
@[simp] theorem State.modSaf_net (s : State) (f : Safety → Safety) : (s.modSaf f).net = s.net := rfl
@[simp] theorem State.modSaf_bus (s : State) (f : Safety → Safety) : (s.modSaf f).bus = s.bus := rfl
@[simp] theorem State.modSaf_prg (s : State) (f : Safety → Safety) : (s.modSaf f).prg = s.prg := rfl
@[simp] theorem State.modSaf_recs (s : State) (f : Safety → Safety) : (s.modSaf f).recs = s.recs := rfl
@[simp] theorem State.modSaf_trs (s : State) (f : Safety → Safety) : (s.modSaf f).trs = s.trs := rfl
@[simp] theorem State.modSaf_age (s : State) (f : Safety → Safety) : (s.modSaf f).age = s.age := rfl
@[simp] theorem State.modSaf_vault (s : State) (f : Safety → Safety) : (s.modSaf f).vault = s.vault := rfl
@[simp] theorem State.modSaf_upd (s : State) (f : Safety → Safety) : (s.modSaf f).upd = s.upd := rfl
@[simp] theorem State.modSaf_links (s : State) (f : Safety → Safety) : (s.modSaf f).links = s.links := rfl
@[simp] theorem State.modSaf_bricks (s : State) (f : Safety → Safety) : (s.modSaf f).bricks = s.bricks := rfl
@[simp] theorem State.modSaf_rows (s : State) (f : Safety → Safety) : (s.modSaf f).rows = s.rows := rfl
@[simp] theorem State.modSaf_rails (s : State) (f : Safety → Safety) : (s.modSaf f).rails = s.rails := rfl
@[simp] theorem State.modSaf_loops (s : State) (f : Safety → Safety) : (s.modSaf f).loops = s.loops := rfl
@[simp] theorem State.modSaf_trims (s : State) (f : Safety → Safety) : (s.modSaf f).trims = s.trims := rfl

@[simp] theorem State.modFlt_pending (s : State) (f : Faults → Faults) : (s.modFlt f).pending = s.pending := rfl
@[simp] theorem State.modFlt_out (s : State) (f : Faults → Faults) : (s.modFlt f).out = s.out := rfl
@[simp] theorem State.modFlt_freeCtr (s : State) (f : Faults → Faults) : (s.modFlt f).freeCtr = s.freeCtr := rfl
@[simp] theorem State.modFlt_ident (s : State) (f : Faults → Faults) : (s.modFlt f).ident = s.ident := rfl
@[simp] theorem State.modFlt_power (s : State) (f : Faults → Faults) : (s.modFlt f).power = s.power := rfl
@[simp] theorem State.modFlt_arch (s : State) (f : Faults → Faults) : (s.modFlt f).arch = s.arch := rfl
@[simp] theorem State.modFlt_modes (s : State) (f : Faults → Faults) : (s.modFlt f).modes = s.modes := rfl
@[simp] theorem State.modFlt_night (s : State) (f : Faults → Faults) : (s.modFlt f).night = s.night := rfl
@[simp] theorem State.modFlt_wk (s : State) (f : Faults → Faults) : (s.modFlt f).wk = s.wk := rfl
@[simp] theorem State.modFlt_par (s : State) (f : Faults → Faults) : (s.modFlt f).par = s.par := rfl
@[simp] theorem State.modFlt_est (s : State) (f : Faults → Faults) : (s.modFlt f).est = s.est := rfl
@[simp] theorem State.modFlt_survey (s : State) (f : Faults → Faults) : (s.modFlt f).survey = s.survey := rfl
@[simp] theorem State.modFlt_steer (s : State) (f : Faults → Faults) : (s.modFlt f).steer = s.steer := rfl
@[simp] theorem State.modFlt_prof (s : State) (f : Faults → Faults) : (s.modFlt f).prof = s.prof := rfl
@[simp] theorem State.modFlt_sec (s : State) (f : Faults → Faults) : (s.modFlt f).sec = s.sec := rfl
@[simp] theorem State.modFlt_therm (s : State) (f : Faults → Faults) : (s.modFlt f).therm = s.therm := rfl
@[simp] theorem State.modFlt_saf (s : State) (f : Faults → Faults) : (s.modFlt f).saf = s.saf := rfl
@[simp] theorem State.modFlt_flt (s : State) (f : Faults → Faults) : (s.modFlt f).flt = f s.flt := rfl
@[simp] theorem State.modFlt_twin (s : State) (f : Faults → Faults) : (s.modFlt f).twin = s.twin := rfl
@[simp] theorem State.modFlt_time (s : State) (f : Faults → Faults) : (s.modFlt f).time = s.time := rfl
@[simp] theorem State.modFlt_net (s : State) (f : Faults → Faults) : (s.modFlt f).net = s.net := rfl
@[simp] theorem State.modFlt_bus (s : State) (f : Faults → Faults) : (s.modFlt f).bus = s.bus := rfl
@[simp] theorem State.modFlt_prg (s : State) (f : Faults → Faults) : (s.modFlt f).prg = s.prg := rfl
@[simp] theorem State.modFlt_recs (s : State) (f : Faults → Faults) : (s.modFlt f).recs = s.recs := rfl
@[simp] theorem State.modFlt_trs (s : State) (f : Faults → Faults) : (s.modFlt f).trs = s.trs := rfl
@[simp] theorem State.modFlt_age (s : State) (f : Faults → Faults) : (s.modFlt f).age = s.age := rfl
@[simp] theorem State.modFlt_vault (s : State) (f : Faults → Faults) : (s.modFlt f).vault = s.vault := rfl
@[simp] theorem State.modFlt_upd (s : State) (f : Faults → Faults) : (s.modFlt f).upd = s.upd := rfl
@[simp] theorem State.modFlt_links (s : State) (f : Faults → Faults) : (s.modFlt f).links = s.links := rfl
@[simp] theorem State.modFlt_bricks (s : State) (f : Faults → Faults) : (s.modFlt f).bricks = s.bricks := rfl
@[simp] theorem State.modFlt_rows (s : State) (f : Faults → Faults) : (s.modFlt f).rows = s.rows := rfl
@[simp] theorem State.modFlt_rails (s : State) (f : Faults → Faults) : (s.modFlt f).rails = s.rails := rfl
@[simp] theorem State.modFlt_loops (s : State) (f : Faults → Faults) : (s.modFlt f).loops = s.loops := rfl
@[simp] theorem State.modFlt_trims (s : State) (f : Faults → Faults) : (s.modFlt f).trims = s.trims := rfl

@[simp] theorem State.modTwin_pending (s : State) (f : Twin → Twin) : (s.modTwin f).pending = s.pending := rfl
@[simp] theorem State.modTwin_out (s : State) (f : Twin → Twin) : (s.modTwin f).out = s.out := rfl
@[simp] theorem State.modTwin_freeCtr (s : State) (f : Twin → Twin) : (s.modTwin f).freeCtr = s.freeCtr := rfl
@[simp] theorem State.modTwin_ident (s : State) (f : Twin → Twin) : (s.modTwin f).ident = s.ident := rfl
@[simp] theorem State.modTwin_power (s : State) (f : Twin → Twin) : (s.modTwin f).power = s.power := rfl
@[simp] theorem State.modTwin_arch (s : State) (f : Twin → Twin) : (s.modTwin f).arch = s.arch := rfl
@[simp] theorem State.modTwin_modes (s : State) (f : Twin → Twin) : (s.modTwin f).modes = s.modes := rfl
@[simp] theorem State.modTwin_night (s : State) (f : Twin → Twin) : (s.modTwin f).night = s.night := rfl
@[simp] theorem State.modTwin_wk (s : State) (f : Twin → Twin) : (s.modTwin f).wk = s.wk := rfl
@[simp] theorem State.modTwin_par (s : State) (f : Twin → Twin) : (s.modTwin f).par = s.par := rfl
@[simp] theorem State.modTwin_est (s : State) (f : Twin → Twin) : (s.modTwin f).est = s.est := rfl
@[simp] theorem State.modTwin_survey (s : State) (f : Twin → Twin) : (s.modTwin f).survey = s.survey := rfl
@[simp] theorem State.modTwin_steer (s : State) (f : Twin → Twin) : (s.modTwin f).steer = s.steer := rfl
@[simp] theorem State.modTwin_prof (s : State) (f : Twin → Twin) : (s.modTwin f).prof = s.prof := rfl
@[simp] theorem State.modTwin_sec (s : State) (f : Twin → Twin) : (s.modTwin f).sec = s.sec := rfl
@[simp] theorem State.modTwin_therm (s : State) (f : Twin → Twin) : (s.modTwin f).therm = s.therm := rfl
@[simp] theorem State.modTwin_saf (s : State) (f : Twin → Twin) : (s.modTwin f).saf = s.saf := rfl
@[simp] theorem State.modTwin_flt (s : State) (f : Twin → Twin) : (s.modTwin f).flt = s.flt := rfl
@[simp] theorem State.modTwin_twin (s : State) (f : Twin → Twin) : (s.modTwin f).twin = f s.twin := rfl
@[simp] theorem State.modTwin_time (s : State) (f : Twin → Twin) : (s.modTwin f).time = s.time := rfl
@[simp] theorem State.modTwin_net (s : State) (f : Twin → Twin) : (s.modTwin f).net = s.net := rfl
@[simp] theorem State.modTwin_bus (s : State) (f : Twin → Twin) : (s.modTwin f).bus = s.bus := rfl
@[simp] theorem State.modTwin_prg (s : State) (f : Twin → Twin) : (s.modTwin f).prg = s.prg := rfl
@[simp] theorem State.modTwin_recs (s : State) (f : Twin → Twin) : (s.modTwin f).recs = s.recs := rfl
@[simp] theorem State.modTwin_trs (s : State) (f : Twin → Twin) : (s.modTwin f).trs = s.trs := rfl
@[simp] theorem State.modTwin_age (s : State) (f : Twin → Twin) : (s.modTwin f).age = s.age := rfl
@[simp] theorem State.modTwin_vault (s : State) (f : Twin → Twin) : (s.modTwin f).vault = s.vault := rfl
@[simp] theorem State.modTwin_upd (s : State) (f : Twin → Twin) : (s.modTwin f).upd = s.upd := rfl
@[simp] theorem State.modTwin_links (s : State) (f : Twin → Twin) : (s.modTwin f).links = s.links := rfl
@[simp] theorem State.modTwin_bricks (s : State) (f : Twin → Twin) : (s.modTwin f).bricks = s.bricks := rfl
@[simp] theorem State.modTwin_rows (s : State) (f : Twin → Twin) : (s.modTwin f).rows = s.rows := rfl
@[simp] theorem State.modTwin_rails (s : State) (f : Twin → Twin) : (s.modTwin f).rails = s.rails := rfl
@[simp] theorem State.modTwin_loops (s : State) (f : Twin → Twin) : (s.modTwin f).loops = s.loops := rfl
@[simp] theorem State.modTwin_trims (s : State) (f : Twin → Twin) : (s.modTwin f).trims = s.trims := rfl

@[simp] theorem State.modTime_pending (s : State) (f : TimeBase → TimeBase) : (s.modTime f).pending = s.pending := rfl
@[simp] theorem State.modTime_out (s : State) (f : TimeBase → TimeBase) : (s.modTime f).out = s.out := rfl
@[simp] theorem State.modTime_freeCtr (s : State) (f : TimeBase → TimeBase) : (s.modTime f).freeCtr = s.freeCtr := rfl
@[simp] theorem State.modTime_ident (s : State) (f : TimeBase → TimeBase) : (s.modTime f).ident = s.ident := rfl
@[simp] theorem State.modTime_power (s : State) (f : TimeBase → TimeBase) : (s.modTime f).power = s.power := rfl
@[simp] theorem State.modTime_arch (s : State) (f : TimeBase → TimeBase) : (s.modTime f).arch = s.arch := rfl
@[simp] theorem State.modTime_modes (s : State) (f : TimeBase → TimeBase) : (s.modTime f).modes = s.modes := rfl
@[simp] theorem State.modTime_night (s : State) (f : TimeBase → TimeBase) : (s.modTime f).night = s.night := rfl
@[simp] theorem State.modTime_wk (s : State) (f : TimeBase → TimeBase) : (s.modTime f).wk = s.wk := rfl
@[simp] theorem State.modTime_par (s : State) (f : TimeBase → TimeBase) : (s.modTime f).par = s.par := rfl
@[simp] theorem State.modTime_est (s : State) (f : TimeBase → TimeBase) : (s.modTime f).est = s.est := rfl
@[simp] theorem State.modTime_survey (s : State) (f : TimeBase → TimeBase) : (s.modTime f).survey = s.survey := rfl
@[simp] theorem State.modTime_steer (s : State) (f : TimeBase → TimeBase) : (s.modTime f).steer = s.steer := rfl
@[simp] theorem State.modTime_prof (s : State) (f : TimeBase → TimeBase) : (s.modTime f).prof = s.prof := rfl
@[simp] theorem State.modTime_sec (s : State) (f : TimeBase → TimeBase) : (s.modTime f).sec = s.sec := rfl
@[simp] theorem State.modTime_therm (s : State) (f : TimeBase → TimeBase) : (s.modTime f).therm = s.therm := rfl
@[simp] theorem State.modTime_saf (s : State) (f : TimeBase → TimeBase) : (s.modTime f).saf = s.saf := rfl
@[simp] theorem State.modTime_flt (s : State) (f : TimeBase → TimeBase) : (s.modTime f).flt = s.flt := rfl
@[simp] theorem State.modTime_twin (s : State) (f : TimeBase → TimeBase) : (s.modTime f).twin = s.twin := rfl
@[simp] theorem State.modTime_time (s : State) (f : TimeBase → TimeBase) : (s.modTime f).time = f s.time := rfl
@[simp] theorem State.modTime_net (s : State) (f : TimeBase → TimeBase) : (s.modTime f).net = s.net := rfl
@[simp] theorem State.modTime_bus (s : State) (f : TimeBase → TimeBase) : (s.modTime f).bus = s.bus := rfl
@[simp] theorem State.modTime_prg (s : State) (f : TimeBase → TimeBase) : (s.modTime f).prg = s.prg := rfl
@[simp] theorem State.modTime_recs (s : State) (f : TimeBase → TimeBase) : (s.modTime f).recs = s.recs := rfl
@[simp] theorem State.modTime_trs (s : State) (f : TimeBase → TimeBase) : (s.modTime f).trs = s.trs := rfl
@[simp] theorem State.modTime_age (s : State) (f : TimeBase → TimeBase) : (s.modTime f).age = s.age := rfl
@[simp] theorem State.modTime_vault (s : State) (f : TimeBase → TimeBase) : (s.modTime f).vault = s.vault := rfl
@[simp] theorem State.modTime_upd (s : State) (f : TimeBase → TimeBase) : (s.modTime f).upd = s.upd := rfl
@[simp] theorem State.modTime_links (s : State) (f : TimeBase → TimeBase) : (s.modTime f).links = s.links := rfl
@[simp] theorem State.modTime_bricks (s : State) (f : TimeBase → TimeBase) : (s.modTime f).bricks = s.bricks := rfl
@[simp] theorem State.modTime_rows (s : State) (f : TimeBase → TimeBase) : (s.modTime f).rows = s.rows := rfl
@[simp] theorem State.modTime_rails (s : State) (f : TimeBase → TimeBase) : (s.modTime f).rails = s.rails := rfl
@[simp] theorem State.modTime_loops (s : State) (f : TimeBase → TimeBase) : (s.modTime f).loops = s.loops := rfl
@[simp] theorem State.modTime_trims (s : State) (f : TimeBase → TimeBase) : (s.modTime f).trims = s.trims := rfl

@[simp] theorem State.modNet_pending (s : State) (f : Net → Net) : (s.modNet f).pending = s.pending := rfl
@[simp] theorem State.modNet_out (s : State) (f : Net → Net) : (s.modNet f).out = s.out := rfl
@[simp] theorem State.modNet_freeCtr (s : State) (f : Net → Net) : (s.modNet f).freeCtr = s.freeCtr := rfl
@[simp] theorem State.modNet_ident (s : State) (f : Net → Net) : (s.modNet f).ident = s.ident := rfl
@[simp] theorem State.modNet_power (s : State) (f : Net → Net) : (s.modNet f).power = s.power := rfl
@[simp] theorem State.modNet_arch (s : State) (f : Net → Net) : (s.modNet f).arch = s.arch := rfl
@[simp] theorem State.modNet_modes (s : State) (f : Net → Net) : (s.modNet f).modes = s.modes := rfl
@[simp] theorem State.modNet_night (s : State) (f : Net → Net) : (s.modNet f).night = s.night := rfl
@[simp] theorem State.modNet_wk (s : State) (f : Net → Net) : (s.modNet f).wk = s.wk := rfl
@[simp] theorem State.modNet_par (s : State) (f : Net → Net) : (s.modNet f).par = s.par := rfl
@[simp] theorem State.modNet_est (s : State) (f : Net → Net) : (s.modNet f).est = s.est := rfl
@[simp] theorem State.modNet_survey (s : State) (f : Net → Net) : (s.modNet f).survey = s.survey := rfl
@[simp] theorem State.modNet_steer (s : State) (f : Net → Net) : (s.modNet f).steer = s.steer := rfl
@[simp] theorem State.modNet_prof (s : State) (f : Net → Net) : (s.modNet f).prof = s.prof := rfl
@[simp] theorem State.modNet_sec (s : State) (f : Net → Net) : (s.modNet f).sec = s.sec := rfl
@[simp] theorem State.modNet_therm (s : State) (f : Net → Net) : (s.modNet f).therm = s.therm := rfl
@[simp] theorem State.modNet_saf (s : State) (f : Net → Net) : (s.modNet f).saf = s.saf := rfl
@[simp] theorem State.modNet_flt (s : State) (f : Net → Net) : (s.modNet f).flt = s.flt := rfl
@[simp] theorem State.modNet_twin (s : State) (f : Net → Net) : (s.modNet f).twin = s.twin := rfl
@[simp] theorem State.modNet_time (s : State) (f : Net → Net) : (s.modNet f).time = s.time := rfl
@[simp] theorem State.modNet_net (s : State) (f : Net → Net) : (s.modNet f).net = f s.net := rfl
@[simp] theorem State.modNet_bus (s : State) (f : Net → Net) : (s.modNet f).bus = s.bus := rfl
@[simp] theorem State.modNet_prg (s : State) (f : Net → Net) : (s.modNet f).prg = s.prg := rfl
@[simp] theorem State.modNet_recs (s : State) (f : Net → Net) : (s.modNet f).recs = s.recs := rfl
@[simp] theorem State.modNet_trs (s : State) (f : Net → Net) : (s.modNet f).trs = s.trs := rfl
@[simp] theorem State.modNet_age (s : State) (f : Net → Net) : (s.modNet f).age = s.age := rfl
@[simp] theorem State.modNet_vault (s : State) (f : Net → Net) : (s.modNet f).vault = s.vault := rfl
@[simp] theorem State.modNet_upd (s : State) (f : Net → Net) : (s.modNet f).upd = s.upd := rfl
@[simp] theorem State.modNet_links (s : State) (f : Net → Net) : (s.modNet f).links = s.links := rfl
@[simp] theorem State.modNet_bricks (s : State) (f : Net → Net) : (s.modNet f).bricks = s.bricks := rfl
@[simp] theorem State.modNet_rows (s : State) (f : Net → Net) : (s.modNet f).rows = s.rows := rfl
@[simp] theorem State.modNet_rails (s : State) (f : Net → Net) : (s.modNet f).rails = s.rails := rfl
@[simp] theorem State.modNet_loops (s : State) (f : Net → Net) : (s.modNet f).loops = s.loops := rfl
@[simp] theorem State.modNet_trims (s : State) (f : Net → Net) : (s.modNet f).trims = s.trims := rfl

@[simp] theorem State.modBus_pending (s : State) (f : Buses → Buses) : (s.modBus f).pending = s.pending := rfl
@[simp] theorem State.modBus_out (s : State) (f : Buses → Buses) : (s.modBus f).out = s.out := rfl
@[simp] theorem State.modBus_freeCtr (s : State) (f : Buses → Buses) : (s.modBus f).freeCtr = s.freeCtr := rfl
@[simp] theorem State.modBus_ident (s : State) (f : Buses → Buses) : (s.modBus f).ident = s.ident := rfl
@[simp] theorem State.modBus_power (s : State) (f : Buses → Buses) : (s.modBus f).power = s.power := rfl
@[simp] theorem State.modBus_arch (s : State) (f : Buses → Buses) : (s.modBus f).arch = s.arch := rfl
@[simp] theorem State.modBus_modes (s : State) (f : Buses → Buses) : (s.modBus f).modes = s.modes := rfl
@[simp] theorem State.modBus_night (s : State) (f : Buses → Buses) : (s.modBus f).night = s.night := rfl
@[simp] theorem State.modBus_wk (s : State) (f : Buses → Buses) : (s.modBus f).wk = s.wk := rfl
@[simp] theorem State.modBus_par (s : State) (f : Buses → Buses) : (s.modBus f).par = s.par := rfl
@[simp] theorem State.modBus_est (s : State) (f : Buses → Buses) : (s.modBus f).est = s.est := rfl
@[simp] theorem State.modBus_survey (s : State) (f : Buses → Buses) : (s.modBus f).survey = s.survey := rfl
@[simp] theorem State.modBus_steer (s : State) (f : Buses → Buses) : (s.modBus f).steer = s.steer := rfl
@[simp] theorem State.modBus_prof (s : State) (f : Buses → Buses) : (s.modBus f).prof = s.prof := rfl
@[simp] theorem State.modBus_sec (s : State) (f : Buses → Buses) : (s.modBus f).sec = s.sec := rfl
@[simp] theorem State.modBus_therm (s : State) (f : Buses → Buses) : (s.modBus f).therm = s.therm := rfl
@[simp] theorem State.modBus_saf (s : State) (f : Buses → Buses) : (s.modBus f).saf = s.saf := rfl
@[simp] theorem State.modBus_flt (s : State) (f : Buses → Buses) : (s.modBus f).flt = s.flt := rfl
@[simp] theorem State.modBus_twin (s : State) (f : Buses → Buses) : (s.modBus f).twin = s.twin := rfl
@[simp] theorem State.modBus_time (s : State) (f : Buses → Buses) : (s.modBus f).time = s.time := rfl
@[simp] theorem State.modBus_net (s : State) (f : Buses → Buses) : (s.modBus f).net = s.net := rfl
@[simp] theorem State.modBus_bus (s : State) (f : Buses → Buses) : (s.modBus f).bus = f s.bus := rfl
@[simp] theorem State.modBus_prg (s : State) (f : Buses → Buses) : (s.modBus f).prg = s.prg := rfl
@[simp] theorem State.modBus_recs (s : State) (f : Buses → Buses) : (s.modBus f).recs = s.recs := rfl
@[simp] theorem State.modBus_trs (s : State) (f : Buses → Buses) : (s.modBus f).trs = s.trs := rfl
@[simp] theorem State.modBus_age (s : State) (f : Buses → Buses) : (s.modBus f).age = s.age := rfl
@[simp] theorem State.modBus_vault (s : State) (f : Buses → Buses) : (s.modBus f).vault = s.vault := rfl
@[simp] theorem State.modBus_upd (s : State) (f : Buses → Buses) : (s.modBus f).upd = s.upd := rfl
@[simp] theorem State.modBus_links (s : State) (f : Buses → Buses) : (s.modBus f).links = s.links := rfl
@[simp] theorem State.modBus_bricks (s : State) (f : Buses → Buses) : (s.modBus f).bricks = s.bricks := rfl
@[simp] theorem State.modBus_rows (s : State) (f : Buses → Buses) : (s.modBus f).rows = s.rows := rfl
@[simp] theorem State.modBus_rails (s : State) (f : Buses → Buses) : (s.modBus f).rails = s.rails := rfl
@[simp] theorem State.modBus_loops (s : State) (f : Buses → Buses) : (s.modBus f).loops = s.loops := rfl
@[simp] theorem State.modBus_trims (s : State) (f : Buses → Buses) : (s.modBus f).trims = s.trims := rfl

@[simp] theorem State.modPrg_pending (s : State) (f : Program → Program) : (s.modPrg f).pending = s.pending := rfl
@[simp] theorem State.modPrg_out (s : State) (f : Program → Program) : (s.modPrg f).out = s.out := rfl
@[simp] theorem State.modPrg_freeCtr (s : State) (f : Program → Program) : (s.modPrg f).freeCtr = s.freeCtr := rfl
@[simp] theorem State.modPrg_ident (s : State) (f : Program → Program) : (s.modPrg f).ident = s.ident := rfl
@[simp] theorem State.modPrg_power (s : State) (f : Program → Program) : (s.modPrg f).power = s.power := rfl
@[simp] theorem State.modPrg_arch (s : State) (f : Program → Program) : (s.modPrg f).arch = s.arch := rfl
@[simp] theorem State.modPrg_modes (s : State) (f : Program → Program) : (s.modPrg f).modes = s.modes := rfl
@[simp] theorem State.modPrg_night (s : State) (f : Program → Program) : (s.modPrg f).night = s.night := rfl
@[simp] theorem State.modPrg_wk (s : State) (f : Program → Program) : (s.modPrg f).wk = s.wk := rfl
@[simp] theorem State.modPrg_par (s : State) (f : Program → Program) : (s.modPrg f).par = s.par := rfl
@[simp] theorem State.modPrg_est (s : State) (f : Program → Program) : (s.modPrg f).est = s.est := rfl
@[simp] theorem State.modPrg_survey (s : State) (f : Program → Program) : (s.modPrg f).survey = s.survey := rfl
@[simp] theorem State.modPrg_steer (s : State) (f : Program → Program) : (s.modPrg f).steer = s.steer := rfl
@[simp] theorem State.modPrg_prof (s : State) (f : Program → Program) : (s.modPrg f).prof = s.prof := rfl
@[simp] theorem State.modPrg_sec (s : State) (f : Program → Program) : (s.modPrg f).sec = s.sec := rfl
@[simp] theorem State.modPrg_therm (s : State) (f : Program → Program) : (s.modPrg f).therm = s.therm := rfl
@[simp] theorem State.modPrg_saf (s : State) (f : Program → Program) : (s.modPrg f).saf = s.saf := rfl
@[simp] theorem State.modPrg_flt (s : State) (f : Program → Program) : (s.modPrg f).flt = s.flt := rfl
@[simp] theorem State.modPrg_twin (s : State) (f : Program → Program) : (s.modPrg f).twin = s.twin := rfl
@[simp] theorem State.modPrg_time (s : State) (f : Program → Program) : (s.modPrg f).time = s.time := rfl
@[simp] theorem State.modPrg_net (s : State) (f : Program → Program) : (s.modPrg f).net = s.net := rfl
@[simp] theorem State.modPrg_bus (s : State) (f : Program → Program) : (s.modPrg f).bus = s.bus := rfl
@[simp] theorem State.modPrg_prg (s : State) (f : Program → Program) : (s.modPrg f).prg = f s.prg := rfl
@[simp] theorem State.modPrg_recs (s : State) (f : Program → Program) : (s.modPrg f).recs = s.recs := rfl
@[simp] theorem State.modPrg_trs (s : State) (f : Program → Program) : (s.modPrg f).trs = s.trs := rfl
@[simp] theorem State.modPrg_age (s : State) (f : Program → Program) : (s.modPrg f).age = s.age := rfl
@[simp] theorem State.modPrg_vault (s : State) (f : Program → Program) : (s.modPrg f).vault = s.vault := rfl
@[simp] theorem State.modPrg_upd (s : State) (f : Program → Program) : (s.modPrg f).upd = s.upd := rfl
@[simp] theorem State.modPrg_links (s : State) (f : Program → Program) : (s.modPrg f).links = s.links := rfl
@[simp] theorem State.modPrg_bricks (s : State) (f : Program → Program) : (s.modPrg f).bricks = s.bricks := rfl
@[simp] theorem State.modPrg_rows (s : State) (f : Program → Program) : (s.modPrg f).rows = s.rows := rfl
@[simp] theorem State.modPrg_rails (s : State) (f : Program → Program) : (s.modPrg f).rails = s.rails := rfl
@[simp] theorem State.modPrg_loops (s : State) (f : Program → Program) : (s.modPrg f).loops = s.loops := rfl
@[simp] theorem State.modPrg_trims (s : State) (f : Program → Program) : (s.modPrg f).trims = s.trims := rfl

@[simp] theorem State.modRecs_pending (s : State) (f : Records → Records) : (s.modRecs f).pending = s.pending := rfl
@[simp] theorem State.modRecs_out (s : State) (f : Records → Records) : (s.modRecs f).out = s.out := rfl
@[simp] theorem State.modRecs_freeCtr (s : State) (f : Records → Records) : (s.modRecs f).freeCtr = s.freeCtr := rfl
@[simp] theorem State.modRecs_ident (s : State) (f : Records → Records) : (s.modRecs f).ident = s.ident := rfl
@[simp] theorem State.modRecs_power (s : State) (f : Records → Records) : (s.modRecs f).power = s.power := rfl
@[simp] theorem State.modRecs_arch (s : State) (f : Records → Records) : (s.modRecs f).arch = s.arch := rfl
@[simp] theorem State.modRecs_modes (s : State) (f : Records → Records) : (s.modRecs f).modes = s.modes := rfl
@[simp] theorem State.modRecs_night (s : State) (f : Records → Records) : (s.modRecs f).night = s.night := rfl
@[simp] theorem State.modRecs_wk (s : State) (f : Records → Records) : (s.modRecs f).wk = s.wk := rfl
@[simp] theorem State.modRecs_par (s : State) (f : Records → Records) : (s.modRecs f).par = s.par := rfl
@[simp] theorem State.modRecs_est (s : State) (f : Records → Records) : (s.modRecs f).est = s.est := rfl
@[simp] theorem State.modRecs_survey (s : State) (f : Records → Records) : (s.modRecs f).survey = s.survey := rfl
@[simp] theorem State.modRecs_steer (s : State) (f : Records → Records) : (s.modRecs f).steer = s.steer := rfl
@[simp] theorem State.modRecs_prof (s : State) (f : Records → Records) : (s.modRecs f).prof = s.prof := rfl
@[simp] theorem State.modRecs_sec (s : State) (f : Records → Records) : (s.modRecs f).sec = s.sec := rfl
@[simp] theorem State.modRecs_therm (s : State) (f : Records → Records) : (s.modRecs f).therm = s.therm := rfl
@[simp] theorem State.modRecs_saf (s : State) (f : Records → Records) : (s.modRecs f).saf = s.saf := rfl
@[simp] theorem State.modRecs_flt (s : State) (f : Records → Records) : (s.modRecs f).flt = s.flt := rfl
@[simp] theorem State.modRecs_twin (s : State) (f : Records → Records) : (s.modRecs f).twin = s.twin := rfl
@[simp] theorem State.modRecs_time (s : State) (f : Records → Records) : (s.modRecs f).time = s.time := rfl
@[simp] theorem State.modRecs_net (s : State) (f : Records → Records) : (s.modRecs f).net = s.net := rfl
@[simp] theorem State.modRecs_bus (s : State) (f : Records → Records) : (s.modRecs f).bus = s.bus := rfl
@[simp] theorem State.modRecs_prg (s : State) (f : Records → Records) : (s.modRecs f).prg = s.prg := rfl
@[simp] theorem State.modRecs_recs (s : State) (f : Records → Records) : (s.modRecs f).recs = f s.recs := rfl
@[simp] theorem State.modRecs_trs (s : State) (f : Records → Records) : (s.modRecs f).trs = s.trs := rfl
@[simp] theorem State.modRecs_age (s : State) (f : Records → Records) : (s.modRecs f).age = s.age := rfl
@[simp] theorem State.modRecs_vault (s : State) (f : Records → Records) : (s.modRecs f).vault = s.vault := rfl
@[simp] theorem State.modRecs_upd (s : State) (f : Records → Records) : (s.modRecs f).upd = s.upd := rfl
@[simp] theorem State.modRecs_links (s : State) (f : Records → Records) : (s.modRecs f).links = s.links := rfl
@[simp] theorem State.modRecs_bricks (s : State) (f : Records → Records) : (s.modRecs f).bricks = s.bricks := rfl
@[simp] theorem State.modRecs_rows (s : State) (f : Records → Records) : (s.modRecs f).rows = s.rows := rfl
@[simp] theorem State.modRecs_rails (s : State) (f : Records → Records) : (s.modRecs f).rails = s.rails := rfl
@[simp] theorem State.modRecs_loops (s : State) (f : Records → Records) : (s.modRecs f).loops = s.loops := rfl
@[simp] theorem State.modRecs_trims (s : State) (f : Records → Records) : (s.modRecs f).trims = s.trims := rfl

@[simp] theorem State.modTrs_pending (s : State) (f : Treasury → Treasury) : (s.modTrs f).pending = s.pending := rfl
@[simp] theorem State.modTrs_out (s : State) (f : Treasury → Treasury) : (s.modTrs f).out = s.out := rfl
@[simp] theorem State.modTrs_freeCtr (s : State) (f : Treasury → Treasury) : (s.modTrs f).freeCtr = s.freeCtr := rfl
@[simp] theorem State.modTrs_ident (s : State) (f : Treasury → Treasury) : (s.modTrs f).ident = s.ident := rfl
@[simp] theorem State.modTrs_power (s : State) (f : Treasury → Treasury) : (s.modTrs f).power = s.power := rfl
@[simp] theorem State.modTrs_arch (s : State) (f : Treasury → Treasury) : (s.modTrs f).arch = s.arch := rfl
@[simp] theorem State.modTrs_modes (s : State) (f : Treasury → Treasury) : (s.modTrs f).modes = s.modes := rfl
@[simp] theorem State.modTrs_night (s : State) (f : Treasury → Treasury) : (s.modTrs f).night = s.night := rfl
@[simp] theorem State.modTrs_wk (s : State) (f : Treasury → Treasury) : (s.modTrs f).wk = s.wk := rfl
@[simp] theorem State.modTrs_par (s : State) (f : Treasury → Treasury) : (s.modTrs f).par = s.par := rfl
@[simp] theorem State.modTrs_est (s : State) (f : Treasury → Treasury) : (s.modTrs f).est = s.est := rfl
@[simp] theorem State.modTrs_survey (s : State) (f : Treasury → Treasury) : (s.modTrs f).survey = s.survey := rfl
@[simp] theorem State.modTrs_steer (s : State) (f : Treasury → Treasury) : (s.modTrs f).steer = s.steer := rfl
@[simp] theorem State.modTrs_prof (s : State) (f : Treasury → Treasury) : (s.modTrs f).prof = s.prof := rfl
@[simp] theorem State.modTrs_sec (s : State) (f : Treasury → Treasury) : (s.modTrs f).sec = s.sec := rfl
@[simp] theorem State.modTrs_therm (s : State) (f : Treasury → Treasury) : (s.modTrs f).therm = s.therm := rfl
@[simp] theorem State.modTrs_saf (s : State) (f : Treasury → Treasury) : (s.modTrs f).saf = s.saf := rfl
@[simp] theorem State.modTrs_flt (s : State) (f : Treasury → Treasury) : (s.modTrs f).flt = s.flt := rfl
@[simp] theorem State.modTrs_twin (s : State) (f : Treasury → Treasury) : (s.modTrs f).twin = s.twin := rfl
@[simp] theorem State.modTrs_time (s : State) (f : Treasury → Treasury) : (s.modTrs f).time = s.time := rfl
@[simp] theorem State.modTrs_net (s : State) (f : Treasury → Treasury) : (s.modTrs f).net = s.net := rfl
@[simp] theorem State.modTrs_bus (s : State) (f : Treasury → Treasury) : (s.modTrs f).bus = s.bus := rfl
@[simp] theorem State.modTrs_prg (s : State) (f : Treasury → Treasury) : (s.modTrs f).prg = s.prg := rfl
@[simp] theorem State.modTrs_recs (s : State) (f : Treasury → Treasury) : (s.modTrs f).recs = s.recs := rfl
@[simp] theorem State.modTrs_trs (s : State) (f : Treasury → Treasury) : (s.modTrs f).trs = f s.trs := rfl
@[simp] theorem State.modTrs_age (s : State) (f : Treasury → Treasury) : (s.modTrs f).age = s.age := rfl
@[simp] theorem State.modTrs_vault (s : State) (f : Treasury → Treasury) : (s.modTrs f).vault = s.vault := rfl
@[simp] theorem State.modTrs_upd (s : State) (f : Treasury → Treasury) : (s.modTrs f).upd = s.upd := rfl
@[simp] theorem State.modTrs_links (s : State) (f : Treasury → Treasury) : (s.modTrs f).links = s.links := rfl
@[simp] theorem State.modTrs_bricks (s : State) (f : Treasury → Treasury) : (s.modTrs f).bricks = s.bricks := rfl
@[simp] theorem State.modTrs_rows (s : State) (f : Treasury → Treasury) : (s.modTrs f).rows = s.rows := rfl
@[simp] theorem State.modTrs_rails (s : State) (f : Treasury → Treasury) : (s.modTrs f).rails = s.rails := rfl
@[simp] theorem State.modTrs_loops (s : State) (f : Treasury → Treasury) : (s.modTrs f).loops = s.loops := rfl
@[simp] theorem State.modTrs_trims (s : State) (f : Treasury → Treasury) : (s.modTrs f).trims = s.trims := rfl

@[simp] theorem State.modAge_pending (s : State) (f : Ageing → Ageing) : (s.modAge f).pending = s.pending := rfl
@[simp] theorem State.modAge_out (s : State) (f : Ageing → Ageing) : (s.modAge f).out = s.out := rfl
@[simp] theorem State.modAge_freeCtr (s : State) (f : Ageing → Ageing) : (s.modAge f).freeCtr = s.freeCtr := rfl
@[simp] theorem State.modAge_ident (s : State) (f : Ageing → Ageing) : (s.modAge f).ident = s.ident := rfl
@[simp] theorem State.modAge_power (s : State) (f : Ageing → Ageing) : (s.modAge f).power = s.power := rfl
@[simp] theorem State.modAge_arch (s : State) (f : Ageing → Ageing) : (s.modAge f).arch = s.arch := rfl
@[simp] theorem State.modAge_modes (s : State) (f : Ageing → Ageing) : (s.modAge f).modes = s.modes := rfl
@[simp] theorem State.modAge_night (s : State) (f : Ageing → Ageing) : (s.modAge f).night = s.night := rfl
@[simp] theorem State.modAge_wk (s : State) (f : Ageing → Ageing) : (s.modAge f).wk = s.wk := rfl
@[simp] theorem State.modAge_par (s : State) (f : Ageing → Ageing) : (s.modAge f).par = s.par := rfl
@[simp] theorem State.modAge_est (s : State) (f : Ageing → Ageing) : (s.modAge f).est = s.est := rfl
@[simp] theorem State.modAge_survey (s : State) (f : Ageing → Ageing) : (s.modAge f).survey = s.survey := rfl
@[simp] theorem State.modAge_steer (s : State) (f : Ageing → Ageing) : (s.modAge f).steer = s.steer := rfl
@[simp] theorem State.modAge_prof (s : State) (f : Ageing → Ageing) : (s.modAge f).prof = s.prof := rfl
@[simp] theorem State.modAge_sec (s : State) (f : Ageing → Ageing) : (s.modAge f).sec = s.sec := rfl
@[simp] theorem State.modAge_therm (s : State) (f : Ageing → Ageing) : (s.modAge f).therm = s.therm := rfl
@[simp] theorem State.modAge_saf (s : State) (f : Ageing → Ageing) : (s.modAge f).saf = s.saf := rfl
@[simp] theorem State.modAge_flt (s : State) (f : Ageing → Ageing) : (s.modAge f).flt = s.flt := rfl
@[simp] theorem State.modAge_twin (s : State) (f : Ageing → Ageing) : (s.modAge f).twin = s.twin := rfl
@[simp] theorem State.modAge_time (s : State) (f : Ageing → Ageing) : (s.modAge f).time = s.time := rfl
@[simp] theorem State.modAge_net (s : State) (f : Ageing → Ageing) : (s.modAge f).net = s.net := rfl
@[simp] theorem State.modAge_bus (s : State) (f : Ageing → Ageing) : (s.modAge f).bus = s.bus := rfl
@[simp] theorem State.modAge_prg (s : State) (f : Ageing → Ageing) : (s.modAge f).prg = s.prg := rfl
@[simp] theorem State.modAge_recs (s : State) (f : Ageing → Ageing) : (s.modAge f).recs = s.recs := rfl
@[simp] theorem State.modAge_trs (s : State) (f : Ageing → Ageing) : (s.modAge f).trs = s.trs := rfl
@[simp] theorem State.modAge_age (s : State) (f : Ageing → Ageing) : (s.modAge f).age = f s.age := rfl
@[simp] theorem State.modAge_vault (s : State) (f : Ageing → Ageing) : (s.modAge f).vault = s.vault := rfl
@[simp] theorem State.modAge_upd (s : State) (f : Ageing → Ageing) : (s.modAge f).upd = s.upd := rfl
@[simp] theorem State.modAge_links (s : State) (f : Ageing → Ageing) : (s.modAge f).links = s.links := rfl
@[simp] theorem State.modAge_bricks (s : State) (f : Ageing → Ageing) : (s.modAge f).bricks = s.bricks := rfl
@[simp] theorem State.modAge_rows (s : State) (f : Ageing → Ageing) : (s.modAge f).rows = s.rows := rfl
@[simp] theorem State.modAge_rails (s : State) (f : Ageing → Ageing) : (s.modAge f).rails = s.rails := rfl
@[simp] theorem State.modAge_loops (s : State) (f : Ageing → Ageing) : (s.modAge f).loops = s.loops := rfl
@[simp] theorem State.modAge_trims (s : State) (f : Ageing → Ageing) : (s.modAge f).trims = s.trims := rfl

@[simp] theorem State.modVault_pending (s : State) (f : Vault → Vault) : (s.modVault f).pending = s.pending := rfl
@[simp] theorem State.modVault_out (s : State) (f : Vault → Vault) : (s.modVault f).out = s.out := rfl
@[simp] theorem State.modVault_freeCtr (s : State) (f : Vault → Vault) : (s.modVault f).freeCtr = s.freeCtr := rfl
@[simp] theorem State.modVault_ident (s : State) (f : Vault → Vault) : (s.modVault f).ident = s.ident := rfl
@[simp] theorem State.modVault_power (s : State) (f : Vault → Vault) : (s.modVault f).power = s.power := rfl
@[simp] theorem State.modVault_arch (s : State) (f : Vault → Vault) : (s.modVault f).arch = s.arch := rfl
@[simp] theorem State.modVault_modes (s : State) (f : Vault → Vault) : (s.modVault f).modes = s.modes := rfl
@[simp] theorem State.modVault_night (s : State) (f : Vault → Vault) : (s.modVault f).night = s.night := rfl
@[simp] theorem State.modVault_wk (s : State) (f : Vault → Vault) : (s.modVault f).wk = s.wk := rfl
@[simp] theorem State.modVault_par (s : State) (f : Vault → Vault) : (s.modVault f).par = s.par := rfl
@[simp] theorem State.modVault_est (s : State) (f : Vault → Vault) : (s.modVault f).est = s.est := rfl
@[simp] theorem State.modVault_survey (s : State) (f : Vault → Vault) : (s.modVault f).survey = s.survey := rfl
@[simp] theorem State.modVault_steer (s : State) (f : Vault → Vault) : (s.modVault f).steer = s.steer := rfl
@[simp] theorem State.modVault_prof (s : State) (f : Vault → Vault) : (s.modVault f).prof = s.prof := rfl
@[simp] theorem State.modVault_sec (s : State) (f : Vault → Vault) : (s.modVault f).sec = s.sec := rfl
@[simp] theorem State.modVault_therm (s : State) (f : Vault → Vault) : (s.modVault f).therm = s.therm := rfl
@[simp] theorem State.modVault_saf (s : State) (f : Vault → Vault) : (s.modVault f).saf = s.saf := rfl
@[simp] theorem State.modVault_flt (s : State) (f : Vault → Vault) : (s.modVault f).flt = s.flt := rfl
@[simp] theorem State.modVault_twin (s : State) (f : Vault → Vault) : (s.modVault f).twin = s.twin := rfl
@[simp] theorem State.modVault_time (s : State) (f : Vault → Vault) : (s.modVault f).time = s.time := rfl
@[simp] theorem State.modVault_net (s : State) (f : Vault → Vault) : (s.modVault f).net = s.net := rfl
@[simp] theorem State.modVault_bus (s : State) (f : Vault → Vault) : (s.modVault f).bus = s.bus := rfl
@[simp] theorem State.modVault_prg (s : State) (f : Vault → Vault) : (s.modVault f).prg = s.prg := rfl
@[simp] theorem State.modVault_recs (s : State) (f : Vault → Vault) : (s.modVault f).recs = s.recs := rfl
@[simp] theorem State.modVault_trs (s : State) (f : Vault → Vault) : (s.modVault f).trs = s.trs := rfl
@[simp] theorem State.modVault_age (s : State) (f : Vault → Vault) : (s.modVault f).age = s.age := rfl
@[simp] theorem State.modVault_vault (s : State) (f : Vault → Vault) : (s.modVault f).vault = f s.vault := rfl
@[simp] theorem State.modVault_upd (s : State) (f : Vault → Vault) : (s.modVault f).upd = s.upd := rfl
@[simp] theorem State.modVault_links (s : State) (f : Vault → Vault) : (s.modVault f).links = s.links := rfl
@[simp] theorem State.modVault_bricks (s : State) (f : Vault → Vault) : (s.modVault f).bricks = s.bricks := rfl
@[simp] theorem State.modVault_rows (s : State) (f : Vault → Vault) : (s.modVault f).rows = s.rows := rfl
@[simp] theorem State.modVault_rails (s : State) (f : Vault → Vault) : (s.modVault f).rails = s.rails := rfl
@[simp] theorem State.modVault_loops (s : State) (f : Vault → Vault) : (s.modVault f).loops = s.loops := rfl
@[simp] theorem State.modVault_trims (s : State) (f : Vault → Vault) : (s.modVault f).trims = s.trims := rfl

@[simp] theorem State.modUpd_pending (s : State) (f : Update → Update) : (s.modUpd f).pending = s.pending := rfl
@[simp] theorem State.modUpd_out (s : State) (f : Update → Update) : (s.modUpd f).out = s.out := rfl
@[simp] theorem State.modUpd_freeCtr (s : State) (f : Update → Update) : (s.modUpd f).freeCtr = s.freeCtr := rfl
@[simp] theorem State.modUpd_ident (s : State) (f : Update → Update) : (s.modUpd f).ident = s.ident := rfl
@[simp] theorem State.modUpd_power (s : State) (f : Update → Update) : (s.modUpd f).power = s.power := rfl
@[simp] theorem State.modUpd_arch (s : State) (f : Update → Update) : (s.modUpd f).arch = s.arch := rfl
@[simp] theorem State.modUpd_modes (s : State) (f : Update → Update) : (s.modUpd f).modes = s.modes := rfl
@[simp] theorem State.modUpd_night (s : State) (f : Update → Update) : (s.modUpd f).night = s.night := rfl
@[simp] theorem State.modUpd_wk (s : State) (f : Update → Update) : (s.modUpd f).wk = s.wk := rfl
@[simp] theorem State.modUpd_par (s : State) (f : Update → Update) : (s.modUpd f).par = s.par := rfl
@[simp] theorem State.modUpd_est (s : State) (f : Update → Update) : (s.modUpd f).est = s.est := rfl
@[simp] theorem State.modUpd_survey (s : State) (f : Update → Update) : (s.modUpd f).survey = s.survey := rfl
@[simp] theorem State.modUpd_steer (s : State) (f : Update → Update) : (s.modUpd f).steer = s.steer := rfl
@[simp] theorem State.modUpd_prof (s : State) (f : Update → Update) : (s.modUpd f).prof = s.prof := rfl
@[simp] theorem State.modUpd_sec (s : State) (f : Update → Update) : (s.modUpd f).sec = s.sec := rfl
@[simp] theorem State.modUpd_therm (s : State) (f : Update → Update) : (s.modUpd f).therm = s.therm := rfl
@[simp] theorem State.modUpd_saf (s : State) (f : Update → Update) : (s.modUpd f).saf = s.saf := rfl
@[simp] theorem State.modUpd_flt (s : State) (f : Update → Update) : (s.modUpd f).flt = s.flt := rfl
@[simp] theorem State.modUpd_twin (s : State) (f : Update → Update) : (s.modUpd f).twin = s.twin := rfl
@[simp] theorem State.modUpd_time (s : State) (f : Update → Update) : (s.modUpd f).time = s.time := rfl
@[simp] theorem State.modUpd_net (s : State) (f : Update → Update) : (s.modUpd f).net = s.net := rfl
@[simp] theorem State.modUpd_bus (s : State) (f : Update → Update) : (s.modUpd f).bus = s.bus := rfl
@[simp] theorem State.modUpd_prg (s : State) (f : Update → Update) : (s.modUpd f).prg = s.prg := rfl
@[simp] theorem State.modUpd_recs (s : State) (f : Update → Update) : (s.modUpd f).recs = s.recs := rfl
@[simp] theorem State.modUpd_trs (s : State) (f : Update → Update) : (s.modUpd f).trs = s.trs := rfl
@[simp] theorem State.modUpd_age (s : State) (f : Update → Update) : (s.modUpd f).age = s.age := rfl
@[simp] theorem State.modUpd_vault (s : State) (f : Update → Update) : (s.modUpd f).vault = s.vault := rfl
@[simp] theorem State.modUpd_upd (s : State) (f : Update → Update) : (s.modUpd f).upd = f s.upd := rfl
@[simp] theorem State.modUpd_links (s : State) (f : Update → Update) : (s.modUpd f).links = s.links := rfl
@[simp] theorem State.modUpd_bricks (s : State) (f : Update → Update) : (s.modUpd f).bricks = s.bricks := rfl
@[simp] theorem State.modUpd_rows (s : State) (f : Update → Update) : (s.modUpd f).rows = s.rows := rfl
@[simp] theorem State.modUpd_rails (s : State) (f : Update → Update) : (s.modUpd f).rails = s.rails := rfl
@[simp] theorem State.modUpd_loops (s : State) (f : Update → Update) : (s.modUpd f).loops = s.loops := rfl
@[simp] theorem State.modUpd_trims (s : State) (f : Update → Update) : (s.modUpd f).trims = s.trims := rfl

@[simp] theorem State.modLink_pending (s : State) (i : Nat) (f : Link → Link) : (s.modLink i f).pending = s.pending := rfl
@[simp] theorem State.modLink_out (s : State) (i : Nat) (f : Link → Link) : (s.modLink i f).out = s.out := rfl
@[simp] theorem State.modLink_freeCtr (s : State) (i : Nat) (f : Link → Link) : (s.modLink i f).freeCtr = s.freeCtr := rfl
@[simp] theorem State.modLink_ident (s : State) (i : Nat) (f : Link → Link) : (s.modLink i f).ident = s.ident := rfl
@[simp] theorem State.modLink_power (s : State) (i : Nat) (f : Link → Link) : (s.modLink i f).power = s.power := rfl
@[simp] theorem State.modLink_arch (s : State) (i : Nat) (f : Link → Link) : (s.modLink i f).arch = s.arch := rfl
@[simp] theorem State.modLink_modes (s : State) (i : Nat) (f : Link → Link) : (s.modLink i f).modes = s.modes := rfl
@[simp] theorem State.modLink_night (s : State) (i : Nat) (f : Link → Link) : (s.modLink i f).night = s.night := rfl
@[simp] theorem State.modLink_wk (s : State) (i : Nat) (f : Link → Link) : (s.modLink i f).wk = s.wk := rfl
@[simp] theorem State.modLink_par (s : State) (i : Nat) (f : Link → Link) : (s.modLink i f).par = s.par := rfl
@[simp] theorem State.modLink_est (s : State) (i : Nat) (f : Link → Link) : (s.modLink i f).est = s.est := rfl
@[simp] theorem State.modLink_survey (s : State) (i : Nat) (f : Link → Link) : (s.modLink i f).survey = s.survey := rfl
@[simp] theorem State.modLink_steer (s : State) (i : Nat) (f : Link → Link) : (s.modLink i f).steer = s.steer := rfl
@[simp] theorem State.modLink_prof (s : State) (i : Nat) (f : Link → Link) : (s.modLink i f).prof = s.prof := rfl
@[simp] theorem State.modLink_sec (s : State) (i : Nat) (f : Link → Link) : (s.modLink i f).sec = s.sec := rfl
@[simp] theorem State.modLink_therm (s : State) (i : Nat) (f : Link → Link) : (s.modLink i f).therm = s.therm := rfl
@[simp] theorem State.modLink_saf (s : State) (i : Nat) (f : Link → Link) : (s.modLink i f).saf = s.saf := rfl
@[simp] theorem State.modLink_flt (s : State) (i : Nat) (f : Link → Link) : (s.modLink i f).flt = s.flt := rfl
@[simp] theorem State.modLink_twin (s : State) (i : Nat) (f : Link → Link) : (s.modLink i f).twin = s.twin := rfl
@[simp] theorem State.modLink_time (s : State) (i : Nat) (f : Link → Link) : (s.modLink i f).time = s.time := rfl
@[simp] theorem State.modLink_net (s : State) (i : Nat) (f : Link → Link) : (s.modLink i f).net = s.net := rfl
@[simp] theorem State.modLink_bus (s : State) (i : Nat) (f : Link → Link) : (s.modLink i f).bus = s.bus := rfl
@[simp] theorem State.modLink_prg (s : State) (i : Nat) (f : Link → Link) : (s.modLink i f).prg = s.prg := rfl
@[simp] theorem State.modLink_recs (s : State) (i : Nat) (f : Link → Link) : (s.modLink i f).recs = s.recs := rfl
@[simp] theorem State.modLink_trs (s : State) (i : Nat) (f : Link → Link) : (s.modLink i f).trs = s.trs := rfl
@[simp] theorem State.modLink_age (s : State) (i : Nat) (f : Link → Link) : (s.modLink i f).age = s.age := rfl
@[simp] theorem State.modLink_vault (s : State) (i : Nat) (f : Link → Link) : (s.modLink i f).vault = s.vault := rfl
@[simp] theorem State.modLink_upd (s : State) (i : Nat) (f : Link → Link) : (s.modLink i f).upd = s.upd := rfl
@[simp] theorem State.modLink_links (s : State) (i : Nat) (f : Link → Link) : (s.modLink i f).links = s.links.modify i f := rfl
@[simp] theorem State.modLink_bricks (s : State) (i : Nat) (f : Link → Link) : (s.modLink i f).bricks = s.bricks := rfl
@[simp] theorem State.modLink_rows (s : State) (i : Nat) (f : Link → Link) : (s.modLink i f).rows = s.rows := rfl
@[simp] theorem State.modLink_rails (s : State) (i : Nat) (f : Link → Link) : (s.modLink i f).rails = s.rails := rfl
@[simp] theorem State.modLink_loops (s : State) (i : Nat) (f : Link → Link) : (s.modLink i f).loops = s.loops := rfl
@[simp] theorem State.modLink_trims (s : State) (i : Nat) (f : Link → Link) : (s.modLink i f).trims = s.trims := rfl

@[simp] theorem State.modBrick_pending (s : State) (i : Nat) (f : Brick → Brick) : (s.modBrick i f).pending = s.pending := rfl
@[simp] theorem State.modBrick_out (s : State) (i : Nat) (f : Brick → Brick) : (s.modBrick i f).out = s.out := rfl
@[simp] theorem State.modBrick_freeCtr (s : State) (i : Nat) (f : Brick → Brick) : (s.modBrick i f).freeCtr = s.freeCtr := rfl
@[simp] theorem State.modBrick_ident (s : State) (i : Nat) (f : Brick → Brick) : (s.modBrick i f).ident = s.ident := rfl
@[simp] theorem State.modBrick_power (s : State) (i : Nat) (f : Brick → Brick) : (s.modBrick i f).power = s.power := rfl
@[simp] theorem State.modBrick_arch (s : State) (i : Nat) (f : Brick → Brick) : (s.modBrick i f).arch = s.arch := rfl
@[simp] theorem State.modBrick_modes (s : State) (i : Nat) (f : Brick → Brick) : (s.modBrick i f).modes = s.modes := rfl
@[simp] theorem State.modBrick_night (s : State) (i : Nat) (f : Brick → Brick) : (s.modBrick i f).night = s.night := rfl
@[simp] theorem State.modBrick_wk (s : State) (i : Nat) (f : Brick → Brick) : (s.modBrick i f).wk = s.wk := rfl
@[simp] theorem State.modBrick_par (s : State) (i : Nat) (f : Brick → Brick) : (s.modBrick i f).par = s.par := rfl
@[simp] theorem State.modBrick_est (s : State) (i : Nat) (f : Brick → Brick) : (s.modBrick i f).est = s.est := rfl
@[simp] theorem State.modBrick_survey (s : State) (i : Nat) (f : Brick → Brick) : (s.modBrick i f).survey = s.survey := rfl
@[simp] theorem State.modBrick_steer (s : State) (i : Nat) (f : Brick → Brick) : (s.modBrick i f).steer = s.steer := rfl
@[simp] theorem State.modBrick_prof (s : State) (i : Nat) (f : Brick → Brick) : (s.modBrick i f).prof = s.prof := rfl
@[simp] theorem State.modBrick_sec (s : State) (i : Nat) (f : Brick → Brick) : (s.modBrick i f).sec = s.sec := rfl
@[simp] theorem State.modBrick_therm (s : State) (i : Nat) (f : Brick → Brick) : (s.modBrick i f).therm = s.therm := rfl
@[simp] theorem State.modBrick_saf (s : State) (i : Nat) (f : Brick → Brick) : (s.modBrick i f).saf = s.saf := rfl
@[simp] theorem State.modBrick_flt (s : State) (i : Nat) (f : Brick → Brick) : (s.modBrick i f).flt = s.flt := rfl
@[simp] theorem State.modBrick_twin (s : State) (i : Nat) (f : Brick → Brick) : (s.modBrick i f).twin = s.twin := rfl
@[simp] theorem State.modBrick_time (s : State) (i : Nat) (f : Brick → Brick) : (s.modBrick i f).time = s.time := rfl
@[simp] theorem State.modBrick_net (s : State) (i : Nat) (f : Brick → Brick) : (s.modBrick i f).net = s.net := rfl
@[simp] theorem State.modBrick_bus (s : State) (i : Nat) (f : Brick → Brick) : (s.modBrick i f).bus = s.bus := rfl
@[simp] theorem State.modBrick_prg (s : State) (i : Nat) (f : Brick → Brick) : (s.modBrick i f).prg = s.prg := rfl
@[simp] theorem State.modBrick_recs (s : State) (i : Nat) (f : Brick → Brick) : (s.modBrick i f).recs = s.recs := rfl
@[simp] theorem State.modBrick_trs (s : State) (i : Nat) (f : Brick → Brick) : (s.modBrick i f).trs = s.trs := rfl
@[simp] theorem State.modBrick_age (s : State) (i : Nat) (f : Brick → Brick) : (s.modBrick i f).age = s.age := rfl
@[simp] theorem State.modBrick_vault (s : State) (i : Nat) (f : Brick → Brick) : (s.modBrick i f).vault = s.vault := rfl
@[simp] theorem State.modBrick_upd (s : State) (i : Nat) (f : Brick → Brick) : (s.modBrick i f).upd = s.upd := rfl
@[simp] theorem State.modBrick_links (s : State) (i : Nat) (f : Brick → Brick) : (s.modBrick i f).links = s.links := rfl
@[simp] theorem State.modBrick_bricks (s : State) (i : Nat) (f : Brick → Brick) : (s.modBrick i f).bricks = s.bricks.modify i f := rfl
@[simp] theorem State.modBrick_rows (s : State) (i : Nat) (f : Brick → Brick) : (s.modBrick i f).rows = s.rows := rfl
@[simp] theorem State.modBrick_rails (s : State) (i : Nat) (f : Brick → Brick) : (s.modBrick i f).rails = s.rails := rfl
@[simp] theorem State.modBrick_loops (s : State) (i : Nat) (f : Brick → Brick) : (s.modBrick i f).loops = s.loops := rfl
@[simp] theorem State.modBrick_trims (s : State) (i : Nat) (f : Brick → Brick) : (s.modBrick i f).trims = s.trims := rfl

@[simp] theorem State.modRow_pending (s : State) (i : Nat) (f : Brick → Brick) : (s.modRow i f).pending = s.pending := rfl
@[simp] theorem State.modRow_out (s : State) (i : Nat) (f : Brick → Brick) : (s.modRow i f).out = s.out := rfl
@[simp] theorem State.modRow_freeCtr (s : State) (i : Nat) (f : Brick → Brick) : (s.modRow i f).freeCtr = s.freeCtr := rfl
@[simp] theorem State.modRow_ident (s : State) (i : Nat) (f : Brick → Brick) : (s.modRow i f).ident = s.ident := rfl
@[simp] theorem State.modRow_power (s : State) (i : Nat) (f : Brick → Brick) : (s.modRow i f).power = s.power := rfl
@[simp] theorem State.modRow_arch (s : State) (i : Nat) (f : Brick → Brick) : (s.modRow i f).arch = s.arch := rfl
@[simp] theorem State.modRow_modes (s : State) (i : Nat) (f : Brick → Brick) : (s.modRow i f).modes = s.modes := rfl
@[simp] theorem State.modRow_night (s : State) (i : Nat) (f : Brick → Brick) : (s.modRow i f).night = s.night := rfl
@[simp] theorem State.modRow_wk (s : State) (i : Nat) (f : Brick → Brick) : (s.modRow i f).wk = s.wk := rfl
@[simp] theorem State.modRow_par (s : State) (i : Nat) (f : Brick → Brick) : (s.modRow i f).par = s.par := rfl
@[simp] theorem State.modRow_est (s : State) (i : Nat) (f : Brick → Brick) : (s.modRow i f).est = s.est := rfl
@[simp] theorem State.modRow_survey (s : State) (i : Nat) (f : Brick → Brick) : (s.modRow i f).survey = s.survey := rfl
@[simp] theorem State.modRow_steer (s : State) (i : Nat) (f : Brick → Brick) : (s.modRow i f).steer = s.steer := rfl
@[simp] theorem State.modRow_prof (s : State) (i : Nat) (f : Brick → Brick) : (s.modRow i f).prof = s.prof := rfl
@[simp] theorem State.modRow_sec (s : State) (i : Nat) (f : Brick → Brick) : (s.modRow i f).sec = s.sec := rfl
@[simp] theorem State.modRow_therm (s : State) (i : Nat) (f : Brick → Brick) : (s.modRow i f).therm = s.therm := rfl
@[simp] theorem State.modRow_saf (s : State) (i : Nat) (f : Brick → Brick) : (s.modRow i f).saf = s.saf := rfl
@[simp] theorem State.modRow_flt (s : State) (i : Nat) (f : Brick → Brick) : (s.modRow i f).flt = s.flt := rfl
@[simp] theorem State.modRow_twin (s : State) (i : Nat) (f : Brick → Brick) : (s.modRow i f).twin = s.twin := rfl
@[simp] theorem State.modRow_time (s : State) (i : Nat) (f : Brick → Brick) : (s.modRow i f).time = s.time := rfl
@[simp] theorem State.modRow_net (s : State) (i : Nat) (f : Brick → Brick) : (s.modRow i f).net = s.net := rfl
@[simp] theorem State.modRow_bus (s : State) (i : Nat) (f : Brick → Brick) : (s.modRow i f).bus = s.bus := rfl
@[simp] theorem State.modRow_prg (s : State) (i : Nat) (f : Brick → Brick) : (s.modRow i f).prg = s.prg := rfl
@[simp] theorem State.modRow_recs (s : State) (i : Nat) (f : Brick → Brick) : (s.modRow i f).recs = s.recs := rfl
@[simp] theorem State.modRow_trs (s : State) (i : Nat) (f : Brick → Brick) : (s.modRow i f).trs = s.trs := rfl
@[simp] theorem State.modRow_age (s : State) (i : Nat) (f : Brick → Brick) : (s.modRow i f).age = s.age := rfl
@[simp] theorem State.modRow_vault (s : State) (i : Nat) (f : Brick → Brick) : (s.modRow i f).vault = s.vault := rfl
@[simp] theorem State.modRow_upd (s : State) (i : Nat) (f : Brick → Brick) : (s.modRow i f).upd = s.upd := rfl
@[simp] theorem State.modRow_links (s : State) (i : Nat) (f : Brick → Brick) : (s.modRow i f).links = s.links := rfl
@[simp] theorem State.modRow_bricks (s : State) (i : Nat) (f : Brick → Brick) : (s.modRow i f).bricks = s.bricks := rfl
@[simp] theorem State.modRow_rows (s : State) (i : Nat) (f : Brick → Brick) : (s.modRow i f).rows = s.rows.modify i f := rfl
@[simp] theorem State.modRow_rails (s : State) (i : Nat) (f : Brick → Brick) : (s.modRow i f).rails = s.rails := rfl
@[simp] theorem State.modRow_loops (s : State) (i : Nat) (f : Brick → Brick) : (s.modRow i f).loops = s.loops := rfl
@[simp] theorem State.modRow_trims (s : State) (i : Nat) (f : Brick → Brick) : (s.modRow i f).trims = s.trims := rfl

@[simp] theorem State.modRail_pending (s : State) (i : Nat) (f : Rail → Rail) : (s.modRail i f).pending = s.pending := rfl
@[simp] theorem State.modRail_out (s : State) (i : Nat) (f : Rail → Rail) : (s.modRail i f).out = s.out := rfl
@[simp] theorem State.modRail_freeCtr (s : State) (i : Nat) (f : Rail → Rail) : (s.modRail i f).freeCtr = s.freeCtr := rfl
@[simp] theorem State.modRail_ident (s : State) (i : Nat) (f : Rail → Rail) : (s.modRail i f).ident = s.ident := rfl
@[simp] theorem State.modRail_power (s : State) (i : Nat) (f : Rail → Rail) : (s.modRail i f).power = s.power := rfl
@[simp] theorem State.modRail_arch (s : State) (i : Nat) (f : Rail → Rail) : (s.modRail i f).arch = s.arch := rfl
@[simp] theorem State.modRail_modes (s : State) (i : Nat) (f : Rail → Rail) : (s.modRail i f).modes = s.modes := rfl
@[simp] theorem State.modRail_night (s : State) (i : Nat) (f : Rail → Rail) : (s.modRail i f).night = s.night := rfl
@[simp] theorem State.modRail_wk (s : State) (i : Nat) (f : Rail → Rail) : (s.modRail i f).wk = s.wk := rfl
@[simp] theorem State.modRail_par (s : State) (i : Nat) (f : Rail → Rail) : (s.modRail i f).par = s.par := rfl
@[simp] theorem State.modRail_est (s : State) (i : Nat) (f : Rail → Rail) : (s.modRail i f).est = s.est := rfl
@[simp] theorem State.modRail_survey (s : State) (i : Nat) (f : Rail → Rail) : (s.modRail i f).survey = s.survey := rfl
@[simp] theorem State.modRail_steer (s : State) (i : Nat) (f : Rail → Rail) : (s.modRail i f).steer = s.steer := rfl
@[simp] theorem State.modRail_prof (s : State) (i : Nat) (f : Rail → Rail) : (s.modRail i f).prof = s.prof := rfl
@[simp] theorem State.modRail_sec (s : State) (i : Nat) (f : Rail → Rail) : (s.modRail i f).sec = s.sec := rfl
@[simp] theorem State.modRail_therm (s : State) (i : Nat) (f : Rail → Rail) : (s.modRail i f).therm = s.therm := rfl
@[simp] theorem State.modRail_saf (s : State) (i : Nat) (f : Rail → Rail) : (s.modRail i f).saf = s.saf := rfl
@[simp] theorem State.modRail_flt (s : State) (i : Nat) (f : Rail → Rail) : (s.modRail i f).flt = s.flt := rfl
@[simp] theorem State.modRail_twin (s : State) (i : Nat) (f : Rail → Rail) : (s.modRail i f).twin = s.twin := rfl
@[simp] theorem State.modRail_time (s : State) (i : Nat) (f : Rail → Rail) : (s.modRail i f).time = s.time := rfl
@[simp] theorem State.modRail_net (s : State) (i : Nat) (f : Rail → Rail) : (s.modRail i f).net = s.net := rfl
@[simp] theorem State.modRail_bus (s : State) (i : Nat) (f : Rail → Rail) : (s.modRail i f).bus = s.bus := rfl
@[simp] theorem State.modRail_prg (s : State) (i : Nat) (f : Rail → Rail) : (s.modRail i f).prg = s.prg := rfl
@[simp] theorem State.modRail_recs (s : State) (i : Nat) (f : Rail → Rail) : (s.modRail i f).recs = s.recs := rfl
@[simp] theorem State.modRail_trs (s : State) (i : Nat) (f : Rail → Rail) : (s.modRail i f).trs = s.trs := rfl
@[simp] theorem State.modRail_age (s : State) (i : Nat) (f : Rail → Rail) : (s.modRail i f).age = s.age := rfl
@[simp] theorem State.modRail_vault (s : State) (i : Nat) (f : Rail → Rail) : (s.modRail i f).vault = s.vault := rfl
@[simp] theorem State.modRail_upd (s : State) (i : Nat) (f : Rail → Rail) : (s.modRail i f).upd = s.upd := rfl
@[simp] theorem State.modRail_links (s : State) (i : Nat) (f : Rail → Rail) : (s.modRail i f).links = s.links := rfl
@[simp] theorem State.modRail_bricks (s : State) (i : Nat) (f : Rail → Rail) : (s.modRail i f).bricks = s.bricks := rfl
@[simp] theorem State.modRail_rows (s : State) (i : Nat) (f : Rail → Rail) : (s.modRail i f).rows = s.rows := rfl
@[simp] theorem State.modRail_rails (s : State) (i : Nat) (f : Rail → Rail) : (s.modRail i f).rails = s.rails.modify i f := rfl
@[simp] theorem State.modRail_loops (s : State) (i : Nat) (f : Rail → Rail) : (s.modRail i f).loops = s.loops := rfl
@[simp] theorem State.modRail_trims (s : State) (i : Nat) (f : Rail → Rail) : (s.modRail i f).trims = s.trims := rfl

@[simp] theorem State.modLoop_pending (s : State) (i : Nat) (f : Loop → Loop) : (s.modLoop i f).pending = s.pending := rfl
@[simp] theorem State.modLoop_out (s : State) (i : Nat) (f : Loop → Loop) : (s.modLoop i f).out = s.out := rfl
@[simp] theorem State.modLoop_freeCtr (s : State) (i : Nat) (f : Loop → Loop) : (s.modLoop i f).freeCtr = s.freeCtr := rfl
@[simp] theorem State.modLoop_ident (s : State) (i : Nat) (f : Loop → Loop) : (s.modLoop i f).ident = s.ident := rfl
@[simp] theorem State.modLoop_power (s : State) (i : Nat) (f : Loop → Loop) : (s.modLoop i f).power = s.power := rfl
@[simp] theorem State.modLoop_arch (s : State) (i : Nat) (f : Loop → Loop) : (s.modLoop i f).arch = s.arch := rfl
@[simp] theorem State.modLoop_modes (s : State) (i : Nat) (f : Loop → Loop) : (s.modLoop i f).modes = s.modes := rfl
@[simp] theorem State.modLoop_night (s : State) (i : Nat) (f : Loop → Loop) : (s.modLoop i f).night = s.night := rfl
@[simp] theorem State.modLoop_wk (s : State) (i : Nat) (f : Loop → Loop) : (s.modLoop i f).wk = s.wk := rfl
@[simp] theorem State.modLoop_par (s : State) (i : Nat) (f : Loop → Loop) : (s.modLoop i f).par = s.par := rfl
@[simp] theorem State.modLoop_est (s : State) (i : Nat) (f : Loop → Loop) : (s.modLoop i f).est = s.est := rfl
@[simp] theorem State.modLoop_survey (s : State) (i : Nat) (f : Loop → Loop) : (s.modLoop i f).survey = s.survey := rfl
@[simp] theorem State.modLoop_steer (s : State) (i : Nat) (f : Loop → Loop) : (s.modLoop i f).steer = s.steer := rfl
@[simp] theorem State.modLoop_prof (s : State) (i : Nat) (f : Loop → Loop) : (s.modLoop i f).prof = s.prof := rfl
@[simp] theorem State.modLoop_sec (s : State) (i : Nat) (f : Loop → Loop) : (s.modLoop i f).sec = s.sec := rfl
@[simp] theorem State.modLoop_therm (s : State) (i : Nat) (f : Loop → Loop) : (s.modLoop i f).therm = s.therm := rfl
@[simp] theorem State.modLoop_saf (s : State) (i : Nat) (f : Loop → Loop) : (s.modLoop i f).saf = s.saf := rfl
@[simp] theorem State.modLoop_flt (s : State) (i : Nat) (f : Loop → Loop) : (s.modLoop i f).flt = s.flt := rfl
@[simp] theorem State.modLoop_twin (s : State) (i : Nat) (f : Loop → Loop) : (s.modLoop i f).twin = s.twin := rfl
@[simp] theorem State.modLoop_time (s : State) (i : Nat) (f : Loop → Loop) : (s.modLoop i f).time = s.time := rfl
@[simp] theorem State.modLoop_net (s : State) (i : Nat) (f : Loop → Loop) : (s.modLoop i f).net = s.net := rfl
@[simp] theorem State.modLoop_bus (s : State) (i : Nat) (f : Loop → Loop) : (s.modLoop i f).bus = s.bus := rfl
@[simp] theorem State.modLoop_prg (s : State) (i : Nat) (f : Loop → Loop) : (s.modLoop i f).prg = s.prg := rfl
@[simp] theorem State.modLoop_recs (s : State) (i : Nat) (f : Loop → Loop) : (s.modLoop i f).recs = s.recs := rfl
@[simp] theorem State.modLoop_trs (s : State) (i : Nat) (f : Loop → Loop) : (s.modLoop i f).trs = s.trs := rfl
@[simp] theorem State.modLoop_age (s : State) (i : Nat) (f : Loop → Loop) : (s.modLoop i f).age = s.age := rfl
@[simp] theorem State.modLoop_vault (s : State) (i : Nat) (f : Loop → Loop) : (s.modLoop i f).vault = s.vault := rfl
@[simp] theorem State.modLoop_upd (s : State) (i : Nat) (f : Loop → Loop) : (s.modLoop i f).upd = s.upd := rfl
@[simp] theorem State.modLoop_links (s : State) (i : Nat) (f : Loop → Loop) : (s.modLoop i f).links = s.links := rfl
@[simp] theorem State.modLoop_bricks (s : State) (i : Nat) (f : Loop → Loop) : (s.modLoop i f).bricks = s.bricks := rfl
@[simp] theorem State.modLoop_rows (s : State) (i : Nat) (f : Loop → Loop) : (s.modLoop i f).rows = s.rows := rfl
@[simp] theorem State.modLoop_rails (s : State) (i : Nat) (f : Loop → Loop) : (s.modLoop i f).rails = s.rails := rfl
@[simp] theorem State.modLoop_loops (s : State) (i : Nat) (f : Loop → Loop) : (s.modLoop i f).loops = s.loops.modify i f := rfl
@[simp] theorem State.modLoop_trims (s : State) (i : Nat) (f : Loop → Loop) : (s.modLoop i f).trims = s.trims := rfl

@[simp] theorem State.modTrim_pending (s : State) (i : Nat) (f : Trim → Trim) : (s.modTrim i f).pending = s.pending := rfl
@[simp] theorem State.modTrim_out (s : State) (i : Nat) (f : Trim → Trim) : (s.modTrim i f).out = s.out := rfl
@[simp] theorem State.modTrim_freeCtr (s : State) (i : Nat) (f : Trim → Trim) : (s.modTrim i f).freeCtr = s.freeCtr := rfl
@[simp] theorem State.modTrim_ident (s : State) (i : Nat) (f : Trim → Trim) : (s.modTrim i f).ident = s.ident := rfl
@[simp] theorem State.modTrim_power (s : State) (i : Nat) (f : Trim → Trim) : (s.modTrim i f).power = s.power := rfl
@[simp] theorem State.modTrim_arch (s : State) (i : Nat) (f : Trim → Trim) : (s.modTrim i f).arch = s.arch := rfl
@[simp] theorem State.modTrim_modes (s : State) (i : Nat) (f : Trim → Trim) : (s.modTrim i f).modes = s.modes := rfl
@[simp] theorem State.modTrim_night (s : State) (i : Nat) (f : Trim → Trim) : (s.modTrim i f).night = s.night := rfl
@[simp] theorem State.modTrim_wk (s : State) (i : Nat) (f : Trim → Trim) : (s.modTrim i f).wk = s.wk := rfl
@[simp] theorem State.modTrim_par (s : State) (i : Nat) (f : Trim → Trim) : (s.modTrim i f).par = s.par := rfl
@[simp] theorem State.modTrim_est (s : State) (i : Nat) (f : Trim → Trim) : (s.modTrim i f).est = s.est := rfl
@[simp] theorem State.modTrim_survey (s : State) (i : Nat) (f : Trim → Trim) : (s.modTrim i f).survey = s.survey := rfl
@[simp] theorem State.modTrim_steer (s : State) (i : Nat) (f : Trim → Trim) : (s.modTrim i f).steer = s.steer := rfl
@[simp] theorem State.modTrim_prof (s : State) (i : Nat) (f : Trim → Trim) : (s.modTrim i f).prof = s.prof := rfl
@[simp] theorem State.modTrim_sec (s : State) (i : Nat) (f : Trim → Trim) : (s.modTrim i f).sec = s.sec := rfl
@[simp] theorem State.modTrim_therm (s : State) (i : Nat) (f : Trim → Trim) : (s.modTrim i f).therm = s.therm := rfl
@[simp] theorem State.modTrim_saf (s : State) (i : Nat) (f : Trim → Trim) : (s.modTrim i f).saf = s.saf := rfl
@[simp] theorem State.modTrim_flt (s : State) (i : Nat) (f : Trim → Trim) : (s.modTrim i f).flt = s.flt := rfl
@[simp] theorem State.modTrim_twin (s : State) (i : Nat) (f : Trim → Trim) : (s.modTrim i f).twin = s.twin := rfl
@[simp] theorem State.modTrim_time (s : State) (i : Nat) (f : Trim → Trim) : (s.modTrim i f).time = s.time := rfl
@[simp] theorem State.modTrim_net (s : State) (i : Nat) (f : Trim → Trim) : (s.modTrim i f).net = s.net := rfl
@[simp] theorem State.modTrim_bus (s : State) (i : Nat) (f : Trim → Trim) : (s.modTrim i f).bus = s.bus := rfl
@[simp] theorem State.modTrim_prg (s : State) (i : Nat) (f : Trim → Trim) : (s.modTrim i f).prg = s.prg := rfl
@[simp] theorem State.modTrim_recs (s : State) (i : Nat) (f : Trim → Trim) : (s.modTrim i f).recs = s.recs := rfl
@[simp] theorem State.modTrim_trs (s : State) (i : Nat) (f : Trim → Trim) : (s.modTrim i f).trs = s.trs := rfl
@[simp] theorem State.modTrim_age (s : State) (i : Nat) (f : Trim → Trim) : (s.modTrim i f).age = s.age := rfl
@[simp] theorem State.modTrim_vault (s : State) (i : Nat) (f : Trim → Trim) : (s.modTrim i f).vault = s.vault := rfl
@[simp] theorem State.modTrim_upd (s : State) (i : Nat) (f : Trim → Trim) : (s.modTrim i f).upd = s.upd := rfl
@[simp] theorem State.modTrim_links (s : State) (i : Nat) (f : Trim → Trim) : (s.modTrim i f).links = s.links := rfl
@[simp] theorem State.modTrim_bricks (s : State) (i : Nat) (f : Trim → Trim) : (s.modTrim i f).bricks = s.bricks := rfl
@[simp] theorem State.modTrim_rows (s : State) (i : Nat) (f : Trim → Trim) : (s.modTrim i f).rows = s.rows := rfl
@[simp] theorem State.modTrim_rails (s : State) (i : Nat) (f : Trim → Trim) : (s.modTrim i f).rails = s.rails := rfl
@[simp] theorem State.modTrim_loops (s : State) (i : Nat) (f : Trim → Trim) : (s.modTrim i f).loops = s.loops := rfl
@[simp] theorem State.modTrim_trims (s : State) (i : Nat) (f : Trim → Trim) : (s.modTrim i f).trims = s.trims.modify i f := rfl

end Sys2Proof.Machine
end

