-- ==== Sys2Proof/Laws/Ops.lean ====
section
/-! SUPPORT. What the shared operations leave alone: one lemma per operation, over the views of Safety.lean. -/

namespace Sys2Proof.Machine

open Sys2Proof

/-! ### Sending (R500, R503) -/

/-- An output that leaves the module is appended, and one that does not is dropped. -/
theorem State.emit_out (s : State) (o : Output) (h : s.leaves o = true) : (s.emit o).out = s.out ++ [o] := by simp [State.emit, h]

/-- What sending may change: the outputs and the sequence number of the RCT. -/
theorem State.emit_only (s : State) (o : Output) : s.emit o = { s with out := (s.emit o).out, net := (s.emit o).net } := by
  unfold State.emit
  split <;> rfl

/-! A frame that does not go to an address of the uplinks always leaves, and one without an RCT leaves the uplinks alone (R499). -/

@[simp] theorem State.emit_line_net (s : State) (n h o t w : Nat) (l : List Nat) : (s.emit (.line n h o t w l)).net = s.net := rfl
@[simp] theorem State.emit_trim_net (s : State) (r q m : Nat) (i : Int) : (s.emit (.trim r q m i)).net = s.net := rfl
@[simp] theorem State.emit_can_net (s : State) (b : Nat) (f : CanFrame) : (s.emit (.can b f)).net = s.net := rfl
@[simp] theorem State.emit_mirror_net (s : State) (t : Nat) (l : List MirrorBlock) : (s.emit (.mirror t l)).net = s.net := rfl
@[simp] theorem State.emit_twin_net (s : State) (r : Nat) (b : Bool) (l : List Int) : (s.emit (.twin r b l)).net = s.net := rfl
@[simp] theorem State.emit_ptp_net (s : State) (p k q : Nat) (l : List Int) : (s.emit (.ptp p k q l)).net = s.net := rfl
@[simp] theorem State.emit_strongroom_net (s : State) (n m : Nat) : (s.emit (.strongroom n m)).net = s.net := rfl
@[simp] theorem State.emit_line_out (s : State) (n h o t w : Nat) (l : List Nat) : (s.emit (.line n h o t w l)).out = s.out ++ [.line n h o t w l] := rfl
@[simp] theorem State.emit_trim_out (s : State) (r q m : Nat) (i : Int) : (s.emit (.trim r q m i)).out = s.out ++ [.trim r q m i] := rfl
@[simp] theorem State.emit_can_out (s : State) (b : Nat) (f : CanFrame) : (s.emit (.can b f)).out = s.out ++ [.can b f] := rfl
@[simp] theorem State.emit_mirror_out (s : State) (t : Nat) (l : List MirrorBlock) : (s.emit (.mirror t l)).out = s.out ++ [.mirror t l] := rfl
@[simp] theorem State.emit_twin_out (s : State) (r : Nat) (b : Bool) (l : List Int) : (s.emit (.twin r b l)).out = s.out ++ [.twin r b l] := rfl
@[simp] theorem State.emit_ptp_out (s : State) (p k q : Nat) (l : List Int) : (s.emit (.ptp p k q l)).out = s.out ++ [.ptp p k q l] := rfl
@[simp] theorem State.emit_strongroom_out (s : State) (n m : Nat) : (s.emit (.strongroom n m)).out = s.out ++ [.strongroom n m] := rfl
@[simp] theorem State.emit_pending (s : State) (o : Output) : (s.emit o).pending = s.pending := by rw [State.emit_only]
@[simp] theorem State.emit_freeCtr (s : State) (o : Output) : (s.emit o).freeCtr = s.freeCtr := by rw [State.emit_only]
@[simp] theorem State.emit_ident (s : State) (o : Output) : (s.emit o).ident = s.ident := by rw [State.emit_only]
@[simp] theorem State.emit_power (s : State) (o : Output) : (s.emit o).power = s.power := by rw [State.emit_only]
@[simp] theorem State.emit_arch (s : State) (o : Output) : (s.emit o).arch = s.arch := by rw [State.emit_only]
@[simp] theorem State.emit_modes (s : State) (o : Output) : (s.emit o).modes = s.modes := by rw [State.emit_only]
@[simp] theorem State.emit_night (s : State) (o : Output) : (s.emit o).night = s.night := by rw [State.emit_only]
@[simp] theorem State.emit_wk (s : State) (o : Output) : (s.emit o).wk = s.wk := by rw [State.emit_only]
@[simp] theorem State.emit_par (s : State) (o : Output) : (s.emit o).par = s.par := by rw [State.emit_only]
@[simp] theorem State.emit_est (s : State) (o : Output) : (s.emit o).est = s.est := by rw [State.emit_only]
@[simp] theorem State.emit_survey (s : State) (o : Output) : (s.emit o).survey = s.survey := by rw [State.emit_only]
@[simp] theorem State.emit_steer (s : State) (o : Output) : (s.emit o).steer = s.steer := by rw [State.emit_only]
@[simp] theorem State.emit_prof (s : State) (o : Output) : (s.emit o).prof = s.prof := by rw [State.emit_only]
@[simp] theorem State.emit_sec (s : State) (o : Output) : (s.emit o).sec = s.sec := by rw [State.emit_only]
@[simp] theorem State.emit_therm (s : State) (o : Output) : (s.emit o).therm = s.therm := by rw [State.emit_only]
@[simp] theorem State.emit_saf (s : State) (o : Output) : (s.emit o).saf = s.saf := by rw [State.emit_only]
@[simp] theorem State.emit_flt (s : State) (o : Output) : (s.emit o).flt = s.flt := by rw [State.emit_only]
@[simp] theorem State.emit_twin (s : State) (o : Output) : (s.emit o).twin = s.twin := by rw [State.emit_only]
@[simp] theorem State.emit_time (s : State) (o : Output) : (s.emit o).time = s.time := by rw [State.emit_only]
@[simp] theorem State.emit_bus (s : State) (o : Output) : (s.emit o).bus = s.bus := by rw [State.emit_only]
@[simp] theorem State.emit_prg (s : State) (o : Output) : (s.emit o).prg = s.prg := by rw [State.emit_only]
@[simp] theorem State.emit_recs (s : State) (o : Output) : (s.emit o).recs = s.recs := by rw [State.emit_only]
@[simp] theorem State.emit_trs (s : State) (o : Output) : (s.emit o).trs = s.trs := by rw [State.emit_only]
@[simp] theorem State.emit_age (s : State) (o : Output) : (s.emit o).age = s.age := by rw [State.emit_only]
@[simp] theorem State.emit_vault (s : State) (o : Output) : (s.emit o).vault = s.vault := by rw [State.emit_only]
@[simp] theorem State.emit_upd (s : State) (o : Output) : (s.emit o).upd = s.upd := by rw [State.emit_only]
@[simp] theorem State.emit_links (s : State) (o : Output) : (s.emit o).links = s.links := by rw [State.emit_only]
@[simp] theorem State.emit_bricks (s : State) (o : Output) : (s.emit o).bricks = s.bricks := by rw [State.emit_only]
@[simp] theorem State.emit_rows (s : State) (o : Output) : (s.emit o).rows = s.rows := by rw [State.emit_only]
@[simp] theorem State.emit_rails (s : State) (o : Output) : (s.emit o).rails = s.rails := by rw [State.emit_only]
@[simp] theorem State.emit_loops (s : State) (o : Output) : (s.emit o).loops = s.loops := by rw [State.emit_only]
@[simp] theorem State.emit_trims (s : State) (o : Output) : (s.emit o).trims = s.trims := by rw [State.emit_only]

/-! ### The counter of free values -/

@[simp] theorem State.nextFree_pending (s : State) : s.nextFree.pending = s.pending := rfl
@[simp] theorem State.nextFree_out (s : State) : s.nextFree.out = s.out := rfl
@[simp] theorem State.nextFree_freeCtr (s : State) : s.nextFree.freeCtr = s.freeCtr + 1 := rfl
@[simp] theorem State.nextFree_ident (s : State) : s.nextFree.ident = s.ident := rfl
@[simp] theorem State.nextFree_power (s : State) : s.nextFree.power = s.power := rfl
@[simp] theorem State.nextFree_arch (s : State) : s.nextFree.arch = s.arch := rfl
@[simp] theorem State.nextFree_modes (s : State) : s.nextFree.modes = s.modes := rfl
@[simp] theorem State.nextFree_night (s : State) : s.nextFree.night = s.night := rfl
@[simp] theorem State.nextFree_wk (s : State) : s.nextFree.wk = s.wk := rfl
@[simp] theorem State.nextFree_par (s : State) : s.nextFree.par = s.par := rfl
@[simp] theorem State.nextFree_est (s : State) : s.nextFree.est = s.est := rfl
@[simp] theorem State.nextFree_survey (s : State) : s.nextFree.survey = s.survey := rfl
@[simp] theorem State.nextFree_steer (s : State) : s.nextFree.steer = s.steer := rfl
@[simp] theorem State.nextFree_prof (s : State) : s.nextFree.prof = s.prof := rfl
@[simp] theorem State.nextFree_sec (s : State) : s.nextFree.sec = s.sec := rfl
@[simp] theorem State.nextFree_therm (s : State) : s.nextFree.therm = s.therm := rfl
@[simp] theorem State.nextFree_saf (s : State) : s.nextFree.saf = s.saf := rfl
@[simp] theorem State.nextFree_flt (s : State) : s.nextFree.flt = s.flt := rfl
@[simp] theorem State.nextFree_twin (s : State) : s.nextFree.twin = s.twin := rfl
@[simp] theorem State.nextFree_time (s : State) : s.nextFree.time = s.time := rfl
@[simp] theorem State.nextFree_net (s : State) : s.nextFree.net = s.net := rfl
@[simp] theorem State.nextFree_bus (s : State) : s.nextFree.bus = s.bus := rfl
@[simp] theorem State.nextFree_prg (s : State) : s.nextFree.prg = s.prg := rfl
@[simp] theorem State.nextFree_recs (s : State) : s.nextFree.recs = s.recs := rfl
@[simp] theorem State.nextFree_trs (s : State) : s.nextFree.trs = s.trs := rfl
@[simp] theorem State.nextFree_age (s : State) : s.nextFree.age = s.age := rfl
@[simp] theorem State.nextFree_vault (s : State) : s.nextFree.vault = s.vault := rfl
@[simp] theorem State.nextFree_upd (s : State) : s.nextFree.upd = s.upd := rfl
@[simp] theorem State.nextFree_links (s : State) : s.nextFree.links = s.links := rfl
@[simp] theorem State.nextFree_bricks (s : State) : s.nextFree.bricks = s.bricks := rfl
@[simp] theorem State.nextFree_rows (s : State) : s.nextFree.rows = s.rows := rfl
@[simp] theorem State.nextFree_rails (s : State) : s.nextFree.rails = s.rails := rfl
@[simp] theorem State.nextFree_loops (s : State) : s.nextFree.loops = s.loops := rfl
@[simp] theorem State.nextFree_trims (s : State) : s.nextFree.trims = s.trims := rfl

/-! ### Loops -/

theorem when_keep {β : Type} (g : State → β) {f : State → State} {s : State} {c : Bool} (h : ∀ s, g (f s) = g s) :
    g (s.when c f) = g s := by
  unfold State.when; split <;> simp [h]

theorem forAll_keep {α β : Type} (g : State → β) {f : α → State → State} (h : ∀ a s, g (f a s) = g s) (l : List α) (s : State) :
    g (s.forAll l f) = g s := by
  unfold State.forAll
  induction l generalizing s with
  | nil => rfl
  | cons a t ih => rw [List.foldl_cons, ih, h]

/-- What the reports touch is part of what the action of a grade may touch. -/
theorem unacted_of_unreported {s t : State} (h : s.unreported = t.unreported) : s.unacted = t.unacted :=
  (congrArg State.unacted h : s.unreported.unacted = t.unreported.unacted)

@[simp] theorem when_unacted (s : State) (c : Bool) (f : State → State) :
    (s.when c f).unacted = if c then (f s).unacted else s.unacted := by unfold State.when; split <;> rfl

@[simp] theorem when_unreported (s : State) (c : Bool) (f : State → State) :
    (s.when c f).unreported = if c then (f s).unreported else s.unreported := by unfold State.when; split <;> rfl

@[simp] theorem State.when_true (s : State) (f : State → State) : s.when true f = f s := rfl
@[simp] theorem State.when_false (s : State) (f : State → State) : s.when false f = s := rfl

/-! ### Reports -/

@[simp] theorem emit_line_unreported (s : State) (n h o t w : Nat) (l : List Nat) : (s.emit (.line n h o t w l)).unreported = s.unreported := rfl
@[simp] theorem emit_trim_unreported (s : State) (r q m : Nat) (i : Int) : (s.emit (.trim r q m i)).unreported = s.unreported := rfl
@[simp] theorem emit_can_unreported (s : State) (b : Nat) (f : CanFrame) : (s.emit (.can b f)).unreported = s.unreported := rfl
@[simp] theorem emit_mirror_unreported (s : State) (t : Nat) (l : List MirrorBlock) : (s.emit (.mirror t l)).unreported = s.unreported := rfl
@[simp] theorem emit_twin_unreported (s : State) (r : Nat) (b : Bool) (l : List Int) : (s.emit (.twin r b l)).unreported = s.unreported := rfl
@[simp] theorem emit_ptp_unreported (s : State) (p k q : Nat) (l : List Int) : (s.emit (.ptp p k q l)).unreported = s.unreported := rfl
@[simp] theorem emit_strongroom_unreported (s : State) (n m : Nat) : (s.emit (.strongroom n m)).unreported = s.unreported := rfl
@[simp] theorem modFlt_unreported (s : State) (f : Faults → Faults) : (s.modFlt f).unreported = s.unreported := rfl
@[simp] theorem modSlot_unreported (s : State) (i : Nat) (f : HostSlot → HostSlot) :
    (s.modSlot i f).unreported = s.unreported := rfl

@[simp] theorem slip_unreported (s : State) (c : Nat) (l : List (Nat × Nat)) (x g : Nat) :
    (s.slip c l x g).unreported = s.unreported := by
  unfold State.slip
  exact forAll_keep State.unreported (fun i t => modSlot_unreported t i _) _ _

@[simp] theorem dayNew_unreported (s : State) (c a t : Nat) : (s.dayNew c a t).unreported = s.unreported := by
  unfold State.dayNew; split <;> rfl

@[simp] theorem dayAt_unreported (s : State) (c a t : Nat) : (s.dayAt c a t).unreported = s.unreported := by
  unfold State.dayAt
  dsimp only
  split
  · split
    · rfl
    · simp
  · simp

@[simp] theorem day_unreported (s : State) (c a : Nat) : (s.day c a).unreported = s.unreported := by simp [State.day]

@[simp] theorem notice_unreported (s : State) (p : Bool) (c x g r b : Nat) :
    (s.notice p c x g r b).unreported = s.unreported :=
  when_keep _ fun _ => rfl

@[simp] theorem modInst_unreported (s : State) (x i : Nat) (b : Bool) (f : FaultInst → FaultInst) :
    (s.modInst x i b f).unreported = s.unreported := rfl

@[simp] theorem dayFault_unreported (s : State) (i : FaultInst) (a : Nat) : (s.dayFault i a).unreported = s.unreported := by
  simp [State.dayFault]

@[simp] theorem dayRaise_unreported (s : State) (i : FaultInst) (a : Nat) : (s.dayRaise i a).unreported = s.unreported := by
  have h : ∀ (t : State) (f : List (Nat × Nat × Nat) → List (Nat × Nat × Nat)),
      (t.modRecs fun r => { r with raises := f r.raises }).unreported = t.unreported := fun _ _ => rfl
  unfold State.dayRaise
  dsimp only
  rw [h _ fun l => _ :: l.filter _]
  simp

@[simp] theorem dayRepeat_unreported (s : State) (i : FaultInst) : (s.dayRepeat i).unreported = s.unreported := by
  unfold State.dayRepeat
  dsimp only
  split
  · split
    · rfl
    · simp
  · simp

@[simp] theorem endFault_unreported (s : State) (x i : Nat) (b : Bool) : (s.endFault x i b).unreported = s.unreported := by
  unfold State.endFault; split <;> simp

@[simp] theorem listInst_unreported (s : State) (i : FaultInst) : (s.listInst i).unreported = s.unreported := by
  unfold State.listInst
  dsimp only
  split
  · rfl
  · split
    · rfl
    · split <;> rfl

@[simp] theorem freeLatch_unreported (s : State) (c : Nat) : (s.freeLatch c).unreported = s.unreported := by
  unfold State.freeLatch
  split
  · split <;> rfl
  · rfl

@[simp] theorem clearInst_unreported (s : State) (i : FaultInst) : (s.clearInst i).unreported = s.unreported := by
  simp [State.clearInst]

@[simp] theorem clearEnded_unreported (s : State) : s.clearEnded.unreported = s.unreported := by
  unfold State.clearEnded
  dsimp only
  rw [forAll_keep State.unreported (fun a t => clearInst_unreported t a)]
  simp

@[simp] theorem ledAdd_unreported (s : State) (k o n : Nat) : (s.ledAdd k o n).unreported = s.unreported := by
  unfold State.ledAdd State.when
  dsimp only
  split <;> rfl

/-! ### The action of a grade -/

/-- A change of the parts that an action may touch, with its reports. -/
@[simp] theorem modModes_unacted (s : State) (f : Modes → Modes) : (s.modModes f).unacted = s.unacted := rfl
@[simp] theorem modSaf_unacted (s : State) (f : Safety → Safety) : (s.modSaf f).unacted = s.unacted := rfl
@[simp] theorem modProf_unacted (s : State) (f : Profile → Profile) : (s.modProf f).unacted = s.unacted := rfl
@[simp] theorem modPrg_unacted (s : State) (f : Program → Program) : (s.modPrg f).unacted = s.unacted := rfl
@[simp] theorem modVault_unacted (s : State) (f : Vault → Vault) : (s.modVault f).unacted = s.unacted := rfl
@[simp] theorem modUpd_unacted (s : State) (f : Update → Update) : (s.modUpd f).unacted = s.unacted := rfl
@[simp] theorem modAge_unacted (s : State) (f : Ageing → Ageing) : (s.modAge f).unacted = s.unacted := rfl
@[simp] theorem modTherm_unacted (s : State) (f : Thermal → Thermal) : (s.modTherm f).unacted = s.unacted := rfl
@[simp] theorem modRecs_unacted (s : State) (f : Records → Records) : (s.modRecs f).unacted = s.unacted := rfl
@[simp] theorem modWk_unacted (s : State) (f : Wickets → Wickets) : (s.modWk f).unacted = s.unacted := rfl
@[simp] theorem modFlt_unacted (s : State) (f : Faults → Faults) : (s.modFlt f).unacted = s.unacted := rfl
@[simp] theorem emit_line_unacted (s : State) (n h o t w : Nat) (l : List Nat) : (s.emit (.line n h o t w l)).unacted = s.unacted := rfl
@[simp] theorem emit_trim_unacted (s : State) (r q m : Nat) (i : Int) : (s.emit (.trim r q m i)).unacted = s.unacted := rfl
@[simp] theorem emit_can_unacted (s : State) (b : Nat) (f : CanFrame) : (s.emit (.can b f)).unacted = s.unacted := rfl
@[simp] theorem emit_mirror_unacted (s : State) (t : Nat) (l : List MirrorBlock) : (s.emit (.mirror t l)).unacted = s.unacted := rfl
@[simp] theorem emit_twin_unacted (s : State) (r : Nat) (b : Bool) (l : List Int) : (s.emit (.twin r b l)).unacted = s.unacted := rfl
@[simp] theorem emit_ptp_unacted (s : State) (p k q : Nat) (l : List Int) : (s.emit (.ptp p k q l)).unacted = s.unacted := rfl
@[simp] theorem emit_strongroom_unacted (s : State) (n m : Nat) : (s.emit (.strongroom n m)).unacted = s.unacted := rfl
@[simp] theorem queueVault_unacted (s : State) (o : Nat) : (s.queueVault o).unacted = s.unacted := rfl
@[simp] theorem openH_unacted (s : State) : s.openH.unacted = s.unacted := rfl

@[simp] theorem slip_unacted (s : State) (c : Nat) (l : List (Nat × Nat)) (x g : Nat) : (s.slip c l x g).unacted = s.unacted :=
  unacted_of_unreported (by simp)
@[simp] theorem day_unacted (s : State) (c a : Nat) : (s.day c a).unacted = s.unacted := unacted_of_unreported (by simp)
@[simp] theorem dayFault_unacted (s : State) (i : FaultInst) (a : Nat) : (s.dayFault i a).unacted = s.unacted :=
  unacted_of_unreported (by simp)
@[simp] theorem dayRaise_unacted (s : State) (i : FaultInst) (a : Nat) : (s.dayRaise i a).unacted = s.unacted :=
  unacted_of_unreported (by simp)
@[simp] theorem dayRepeat_unacted (s : State) (i : FaultInst) : (s.dayRepeat i).unacted = s.unacted :=
  unacted_of_unreported (by simp)
@[simp] theorem notice_unacted (s : State) (p : Bool) (c x g r b : Nat) : (s.notice p c x g r b).unacted = s.unacted :=
  unacted_of_unreported (by simp)
@[simp] theorem modInst_unacted (s : State) (x i : Nat) (b : Bool) (f : FaultInst → FaultInst) :
    (s.modInst x i b f).unacted = s.unacted := rfl
@[simp] theorem listInst_unacted (s : State) (i : FaultInst) : (s.listInst i).unacted = s.unacted :=
  unacted_of_unreported (by simp)
@[simp] theorem endFault_unacted (s : State) (x i : Nat) (b : Bool) : (s.endFault x i b).unacted = s.unacted :=
  unacted_of_unreported (by simp)
@[simp] theorem ledAdd_unacted (s : State) (k o n : Nat) : (s.ledAdd k o n).unacted = s.unacted :=
  unacted_of_unreported (by simp)

@[simp] theorem setMode_unacted (s : State) (m : Mode) (c : Nat) : (s.setMode m c).unacted = s.unacted := by
  unfold State.setMode; split <;> simp

@[simp] theorem setProgram_unacted (s : State) (n : Nat) : (s.setProgram n).unacted = s.unacted := by simp [State.setProgram]

@[simp] theorem stopProgram_unacted (s : State) (c : Nat) : (s.stopProgram c).unacted = s.unacted := by
  unfold State.stopProgram; split <;> simp

@[simp] theorem abortPulse_unacted (s : State) : s.abortPulse.unacted = s.unacted := by
  unfold State.abortPulse; split <;> simp

@[simp] theorem failClose_unacted (s : State) (c : Nat) : (s.failClose c).unacted = s.unacted := by
  unfold State.failClose; split <;> simp

@[simp] theorem tripProfile_unacted (s : State) (c : Nat) : (s.tripProfile c).unacted = s.unacted := by simp [State.tripProfile]

@[simp] theorem openAll_unacted (s : State) (c : Nat) : (s.openAll c).unacted = s.unacted := by simp [State.openAll]

@[simp] theorem startStop_unacted (s : State) (c : Nat) : (s.startStop c).unacted = s.unacted := by
  unfold State.startStop; split <;> simp

@[simp] theorem stopAny_unacted (s : State) (c : Nat) : (s.stopAny c).unacted = s.unacted := by
  unfold State.stopAny
  split
  · simp
  · split <;> simp

@[simp] theorem abandonDormant_unacted (s : State) (c : Nat) : (s.abandonDormant c).unacted = s.unacted := by
  unfold State.abandonDormant; split <;> simp

@[simp] theorem abandonPlan_unacted (s : State) : s.abandonPlan.unacted = s.unacted := by
  unfold State.abandonPlan; split <;> simp

@[simp] theorem abandonWrite_unacted (s : State) (c : Nat) : (s.abandonWrite c).unacted = s.unacted := by
  unfold State.abandonWrite
  dsimp only
  split <;> split <;> simp

@[simp] theorem giveUp_unacted (s : State) (c : Nat) : (s.giveUp c).unacted = s.unacted := by
  unfold State.giveUp
  dsimp only
  split <;> simp

@[simp] theorem dueAgain_unacted (s : State) (w : Writing) : (s.dueAgain w).unacted = s.unacted := by
  unfold State.dueAgain
  dsimp only
  repeat' split
  all_goals simp

@[simp] theorem lockoutVault_unacted (s : State) (c : Nat) : (s.lockoutVault c).unacted = s.unacted := by
  unfold State.lockoutVault
  dsimp only
  repeat' split
  all_goals simp

@[simp] theorem lockout_unacted (s : State) (x i : Nat) : (s.lockout x i).unacted = s.unacted := by
  simp [State.lockout]

@[simp] theorem enterLockout_unacted (s : State) (x i : Nat) : (s.enterLockout x i).unacted = s.unacted := by
  unfold State.enterLockout; split <;> simp

@[simp] theorem gradeAction_unacted (s : State) (x i g : Nat) (b : Bool) : (s.gradeAction x i g b).unacted = s.unacted := by
  simp [State.gradeAction]

@[simp] theorem raiseNew_unacted (s : State) (x i g : Nat) (a b c : Bool) : (s.raiseNew x i g a b c).unacted = s.unacted := by
  simp [State.raiseNew]

/-- Raising a fault of any grade changes only reports and what the action of a grade may change. -/
@[simp] theorem raise_unacted (s : State) (x i g : Nat) (a b c : Bool) : (s.raise x i g a b c).unacted = s.unacted := by
  unfold State.raise
  split
  · rfl
  · split
    · simp
    · dsimp only
      split
      · split
        · split <;> simp
        · simp
      · simp

@[simp] theorem condition_unacted (s : State) (x i g : Nat) (c : Bool) : (s.condition x i g c).unacted = s.unacted := by
  unfold State.condition; split <;> simp

@[simp] theorem thermalShutdown_unacted (s : State) (x i : Nat) : (s.thermalShutdown x i).unacted = s.unacted := by
  unfold State.thermalShutdown; split <;> simp

end Sys2Proof.Machine
end

