-- ==== Sys2Proof/Laws/Frames.lean ====
section
/-! SUPPORT. The views of Laws/Ops.lean field by field: what the shared operations leave alone. -/

namespace Sys2Proof.Machine

open Sys2Proof

@[simp] theorem slip_pending (s : State) (c : Nat) (l : List (Nat × Nat)) (x g : Nat) : (s.slip c l x g).pending = s.pending :=
  (congrArg State.pending (slip_unreported s c l x g) : (s.slip c l x g).unreported.pending = s.unreported.pending)
@[simp] theorem slip_freeCtr (s : State) (c : Nat) (l : List (Nat × Nat)) (x g : Nat) : (s.slip c l x g).freeCtr = s.freeCtr :=
  (congrArg State.freeCtr (slip_unreported s c l x g) : (s.slip c l x g).unreported.freeCtr = s.unreported.freeCtr)
@[simp] theorem slip_ident (s : State) (c : Nat) (l : List (Nat × Nat)) (x g : Nat) : (s.slip c l x g).ident = s.ident :=
  (congrArg State.ident (slip_unreported s c l x g) : (s.slip c l x g).unreported.ident = s.unreported.ident)
@[simp] theorem slip_power (s : State) (c : Nat) (l : List (Nat × Nat)) (x g : Nat) : (s.slip c l x g).power = s.power :=
  (congrArg State.power (slip_unreported s c l x g) : (s.slip c l x g).unreported.power = s.unreported.power)
@[simp] theorem slip_arch (s : State) (c : Nat) (l : List (Nat × Nat)) (x g : Nat) : (s.slip c l x g).arch = s.arch :=
  (congrArg State.arch (slip_unreported s c l x g) : (s.slip c l x g).unreported.arch = s.unreported.arch)
@[simp] theorem slip_night (s : State) (c : Nat) (l : List (Nat × Nat)) (x g : Nat) : (s.slip c l x g).night = s.night :=
  (congrArg State.night (slip_unreported s c l x g) : (s.slip c l x g).unreported.night = s.unreported.night)
@[simp] theorem slip_par (s : State) (c : Nat) (l : List (Nat × Nat)) (x g : Nat) : (s.slip c l x g).par = s.par :=
  (congrArg State.par (slip_unreported s c l x g) : (s.slip c l x g).unreported.par = s.unreported.par)
@[simp] theorem slip_links (s : State) (c : Nat) (l : List (Nat × Nat)) (x g : Nat) : (s.slip c l x g).links = s.links :=
  (congrArg State.links (slip_unreported s c l x g) : (s.slip c l x g).unreported.links = s.unreported.links)
@[simp] theorem slip_bricks (s : State) (c : Nat) (l : List (Nat × Nat)) (x g : Nat) : (s.slip c l x g).bricks = s.bricks :=
  (congrArg State.bricks (slip_unreported s c l x g) : (s.slip c l x g).unreported.bricks = s.unreported.bricks)
@[simp] theorem slip_rows (s : State) (c : Nat) (l : List (Nat × Nat)) (x g : Nat) : (s.slip c l x g).rows = s.rows :=
  (congrArg State.rows (slip_unreported s c l x g) : (s.slip c l x g).unreported.rows = s.unreported.rows)
@[simp] theorem slip_rails (s : State) (c : Nat) (l : List (Nat × Nat)) (x g : Nat) : (s.slip c l x g).rails = s.rails :=
  (congrArg State.rails (slip_unreported s c l x g) : (s.slip c l x g).unreported.rails = s.unreported.rails)
@[simp] theorem slip_est (s : State) (c : Nat) (l : List (Nat × Nat)) (x g : Nat) : (s.slip c l x g).est = s.est :=
  (congrArg State.est (slip_unreported s c l x g) : (s.slip c l x g).unreported.est = s.unreported.est)
@[simp] theorem slip_survey (s : State) (c : Nat) (l : List (Nat × Nat)) (x g : Nat) : (s.slip c l x g).survey = s.survey :=
  (congrArg State.survey (slip_unreported s c l x g) : (s.slip c l x g).unreported.survey = s.unreported.survey)
@[simp] theorem slip_loops (s : State) (c : Nat) (l : List (Nat × Nat)) (x g : Nat) : (s.slip c l x g).loops = s.loops :=
  (congrArg State.loops (slip_unreported s c l x g) : (s.slip c l x g).unreported.loops = s.unreported.loops)
@[simp] theorem slip_trims (s : State) (c : Nat) (l : List (Nat × Nat)) (x g : Nat) : (s.slip c l x g).trims = s.trims :=
  (congrArg State.trims (slip_unreported s c l x g) : (s.slip c l x g).unreported.trims = s.unreported.trims)
@[simp] theorem slip_steer (s : State) (c : Nat) (l : List (Nat × Nat)) (x g : Nat) : (s.slip c l x g).steer = s.steer :=
  (congrArg State.steer (slip_unreported s c l x g) : (s.slip c l x g).unreported.steer = s.unreported.steer)
@[simp] theorem slip_twin (s : State) (c : Nat) (l : List (Nat × Nat)) (x g : Nat) : (s.slip c l x g).twin = s.twin :=
  (congrArg State.twin (slip_unreported s c l x g) : (s.slip c l x g).unreported.twin = s.unreported.twin)
@[simp] theorem slip_time (s : State) (c : Nat) (l : List (Nat × Nat)) (x g : Nat) : (s.slip c l x g).time = s.time :=
  (congrArg State.time (slip_unreported s c l x g) : (s.slip c l x g).unreported.time = s.unreported.time)
@[simp] theorem slip_net (s : State) (c : Nat) (l : List (Nat × Nat)) (x g : Nat) : (s.slip c l x g).net = s.net :=
  (congrArg State.net (slip_unreported s c l x g) : (s.slip c l x g).unreported.net = s.unreported.net)
@[simp] theorem slip_bus (s : State) (c : Nat) (l : List (Nat × Nat)) (x g : Nat) : (s.slip c l x g).bus = s.bus :=
  (congrArg State.bus (slip_unreported s c l x g) : (s.slip c l x g).unreported.bus = s.unreported.bus)
@[simp] theorem slip_trs (s : State) (c : Nat) (l : List (Nat × Nat)) (x g : Nat) : (s.slip c l x g).trs = s.trs :=
  (congrArg State.trs (slip_unreported s c l x g) : (s.slip c l x g).unreported.trs = s.unreported.trs)
@[simp] theorem slip_saf (s : State) (c : Nat) (l : List (Nat × Nat)) (x g : Nat) : (s.slip c l x g).saf = s.saf :=
  (congrArg State.saf (slip_unreported s c l x g) : (s.slip c l x g).unreported.saf = s.unreported.saf)
@[simp] theorem slip_prof (s : State) (c : Nat) (l : List (Nat × Nat)) (x g : Nat) : (s.slip c l x g).prof = s.prof :=
  (congrArg State.prof (slip_unreported s c l x g) : (s.slip c l x g).unreported.prof = s.unreported.prof)
@[simp] theorem slip_modes (s : State) (c : Nat) (l : List (Nat × Nat)) (x g : Nat) : (s.slip c l x g).modes = s.modes :=
  (congrArg State.modes (slip_unreported s c l x g) : (s.slip c l x g).unreported.modes = s.unreported.modes)
@[simp] theorem slip_vault (s : State) (c : Nat) (l : List (Nat × Nat)) (x g : Nat) : (s.slip c l x g).vault = s.vault :=
  (congrArg State.vault (slip_unreported s c l x g) : (s.slip c l x g).unreported.vault = s.unreported.vault)
@[simp] theorem slip_therm (s : State) (c : Nat) (l : List (Nat × Nat)) (x g : Nat) : (s.slip c l x g).therm = s.therm :=
  (congrArg State.therm (slip_unreported s c l x g) : (s.slip c l x g).unreported.therm = s.unreported.therm)
@[simp] theorem slip_upd (s : State) (c : Nat) (l : List (Nat × Nat)) (x g : Nat) : (s.slip c l x g).upd = s.upd :=
  (congrArg State.upd (slip_unreported s c l x g) : (s.slip c l x g).unreported.upd = s.unreported.upd)
@[simp] theorem slip_age (s : State) (c : Nat) (l : List (Nat × Nat)) (x g : Nat) : (s.slip c l x g).age = s.age :=
  (congrArg State.age (slip_unreported s c l x g) : (s.slip c l x g).unreported.age = s.unreported.age)
@[simp] theorem slip_prg (s : State) (c : Nat) (l : List (Nat × Nat)) (x g : Nat) : (s.slip c l x g).prg = s.prg :=
  (congrArg State.prg (slip_unreported s c l x g) : (s.slip c l x g).unreported.prg = s.unreported.prg)

@[simp] theorem day_pending (s : State) (c a : Nat) : (s.day c a).pending = s.pending :=
  (congrArg State.pending (day_unreported s c a) : (s.day c a).unreported.pending = s.unreported.pending)
@[simp] theorem day_freeCtr (s : State) (c a : Nat) : (s.day c a).freeCtr = s.freeCtr :=
  (congrArg State.freeCtr (day_unreported s c a) : (s.day c a).unreported.freeCtr = s.unreported.freeCtr)
@[simp] theorem day_ident (s : State) (c a : Nat) : (s.day c a).ident = s.ident :=
  (congrArg State.ident (day_unreported s c a) : (s.day c a).unreported.ident = s.unreported.ident)
@[simp] theorem day_power (s : State) (c a : Nat) : (s.day c a).power = s.power :=
  (congrArg State.power (day_unreported s c a) : (s.day c a).unreported.power = s.unreported.power)
@[simp] theorem day_arch (s : State) (c a : Nat) : (s.day c a).arch = s.arch :=
  (congrArg State.arch (day_unreported s c a) : (s.day c a).unreported.arch = s.unreported.arch)
@[simp] theorem day_night (s : State) (c a : Nat) : (s.day c a).night = s.night :=
  (congrArg State.night (day_unreported s c a) : (s.day c a).unreported.night = s.unreported.night)
@[simp] theorem day_par (s : State) (c a : Nat) : (s.day c a).par = s.par :=
  (congrArg State.par (day_unreported s c a) : (s.day c a).unreported.par = s.unreported.par)
@[simp] theorem day_links (s : State) (c a : Nat) : (s.day c a).links = s.links :=
  (congrArg State.links (day_unreported s c a) : (s.day c a).unreported.links = s.unreported.links)
@[simp] theorem day_bricks (s : State) (c a : Nat) : (s.day c a).bricks = s.bricks :=
  (congrArg State.bricks (day_unreported s c a) : (s.day c a).unreported.bricks = s.unreported.bricks)
@[simp] theorem day_rows (s : State) (c a : Nat) : (s.day c a).rows = s.rows :=
  (congrArg State.rows (day_unreported s c a) : (s.day c a).unreported.rows = s.unreported.rows)
@[simp] theorem day_rails (s : State) (c a : Nat) : (s.day c a).rails = s.rails :=
  (congrArg State.rails (day_unreported s c a) : (s.day c a).unreported.rails = s.unreported.rails)
@[simp] theorem day_est (s : State) (c a : Nat) : (s.day c a).est = s.est :=
  (congrArg State.est (day_unreported s c a) : (s.day c a).unreported.est = s.unreported.est)
@[simp] theorem day_survey (s : State) (c a : Nat) : (s.day c a).survey = s.survey :=
  (congrArg State.survey (day_unreported s c a) : (s.day c a).unreported.survey = s.unreported.survey)
@[simp] theorem day_loops (s : State) (c a : Nat) : (s.day c a).loops = s.loops :=
  (congrArg State.loops (day_unreported s c a) : (s.day c a).unreported.loops = s.unreported.loops)
@[simp] theorem day_trims (s : State) (c a : Nat) : (s.day c a).trims = s.trims :=
  (congrArg State.trims (day_unreported s c a) : (s.day c a).unreported.trims = s.unreported.trims)
@[simp] theorem day_steer (s : State) (c a : Nat) : (s.day c a).steer = s.steer :=
  (congrArg State.steer (day_unreported s c a) : (s.day c a).unreported.steer = s.unreported.steer)
@[simp] theorem day_twin (s : State) (c a : Nat) : (s.day c a).twin = s.twin :=
  (congrArg State.twin (day_unreported s c a) : (s.day c a).unreported.twin = s.unreported.twin)
@[simp] theorem day_time (s : State) (c a : Nat) : (s.day c a).time = s.time :=
  (congrArg State.time (day_unreported s c a) : (s.day c a).unreported.time = s.unreported.time)
@[simp] theorem day_net (s : State) (c a : Nat) : (s.day c a).net = s.net :=
  (congrArg State.net (day_unreported s c a) : (s.day c a).unreported.net = s.unreported.net)
@[simp] theorem day_bus (s : State) (c a : Nat) : (s.day c a).bus = s.bus :=
  (congrArg State.bus (day_unreported s c a) : (s.day c a).unreported.bus = s.unreported.bus)
@[simp] theorem day_trs (s : State) (c a : Nat) : (s.day c a).trs = s.trs :=
  (congrArg State.trs (day_unreported s c a) : (s.day c a).unreported.trs = s.unreported.trs)
@[simp] theorem day_saf (s : State) (c a : Nat) : (s.day c a).saf = s.saf :=
  (congrArg State.saf (day_unreported s c a) : (s.day c a).unreported.saf = s.unreported.saf)
@[simp] theorem day_prof (s : State) (c a : Nat) : (s.day c a).prof = s.prof :=
  (congrArg State.prof (day_unreported s c a) : (s.day c a).unreported.prof = s.unreported.prof)
@[simp] theorem day_modes (s : State) (c a : Nat) : (s.day c a).modes = s.modes :=
  (congrArg State.modes (day_unreported s c a) : (s.day c a).unreported.modes = s.unreported.modes)
@[simp] theorem day_vault (s : State) (c a : Nat) : (s.day c a).vault = s.vault :=
  (congrArg State.vault (day_unreported s c a) : (s.day c a).unreported.vault = s.unreported.vault)
@[simp] theorem day_therm (s : State) (c a : Nat) : (s.day c a).therm = s.therm :=
  (congrArg State.therm (day_unreported s c a) : (s.day c a).unreported.therm = s.unreported.therm)
@[simp] theorem day_upd (s : State) (c a : Nat) : (s.day c a).upd = s.upd :=
  (congrArg State.upd (day_unreported s c a) : (s.day c a).unreported.upd = s.unreported.upd)
@[simp] theorem day_age (s : State) (c a : Nat) : (s.day c a).age = s.age :=
  (congrArg State.age (day_unreported s c a) : (s.day c a).unreported.age = s.unreported.age)
@[simp] theorem day_prg (s : State) (c a : Nat) : (s.day c a).prg = s.prg :=
  (congrArg State.prg (day_unreported s c a) : (s.day c a).unreported.prg = s.unreported.prg)

@[simp] theorem endFault_pending (s : State) (x i : Nat) (b : Bool) : (s.endFault x i b).pending = s.pending :=
  (congrArg State.pending (endFault_unreported s x i b) : (s.endFault x i b).unreported.pending = s.unreported.pending)
@[simp] theorem endFault_freeCtr (s : State) (x i : Nat) (b : Bool) : (s.endFault x i b).freeCtr = s.freeCtr :=
  (congrArg State.freeCtr (endFault_unreported s x i b) : (s.endFault x i b).unreported.freeCtr = s.unreported.freeCtr)
@[simp] theorem endFault_ident (s : State) (x i : Nat) (b : Bool) : (s.endFault x i b).ident = s.ident :=
  (congrArg State.ident (endFault_unreported s x i b) : (s.endFault x i b).unreported.ident = s.unreported.ident)
@[simp] theorem endFault_power (s : State) (x i : Nat) (b : Bool) : (s.endFault x i b).power = s.power :=
  (congrArg State.power (endFault_unreported s x i b) : (s.endFault x i b).unreported.power = s.unreported.power)
@[simp] theorem endFault_arch (s : State) (x i : Nat) (b : Bool) : (s.endFault x i b).arch = s.arch :=
  (congrArg State.arch (endFault_unreported s x i b) : (s.endFault x i b).unreported.arch = s.unreported.arch)
@[simp] theorem endFault_night (s : State) (x i : Nat) (b : Bool) : (s.endFault x i b).night = s.night :=
  (congrArg State.night (endFault_unreported s x i b) : (s.endFault x i b).unreported.night = s.unreported.night)
@[simp] theorem endFault_par (s : State) (x i : Nat) (b : Bool) : (s.endFault x i b).par = s.par :=
  (congrArg State.par (endFault_unreported s x i b) : (s.endFault x i b).unreported.par = s.unreported.par)
@[simp] theorem endFault_links (s : State) (x i : Nat) (b : Bool) : (s.endFault x i b).links = s.links :=
  (congrArg State.links (endFault_unreported s x i b) : (s.endFault x i b).unreported.links = s.unreported.links)
@[simp] theorem endFault_bricks (s : State) (x i : Nat) (b : Bool) : (s.endFault x i b).bricks = s.bricks :=
  (congrArg State.bricks (endFault_unreported s x i b) : (s.endFault x i b).unreported.bricks = s.unreported.bricks)
@[simp] theorem endFault_rows (s : State) (x i : Nat) (b : Bool) : (s.endFault x i b).rows = s.rows :=
  (congrArg State.rows (endFault_unreported s x i b) : (s.endFault x i b).unreported.rows = s.unreported.rows)
@[simp] theorem endFault_rails (s : State) (x i : Nat) (b : Bool) : (s.endFault x i b).rails = s.rails :=
  (congrArg State.rails (endFault_unreported s x i b) : (s.endFault x i b).unreported.rails = s.unreported.rails)
@[simp] theorem endFault_est (s : State) (x i : Nat) (b : Bool) : (s.endFault x i b).est = s.est :=
  (congrArg State.est (endFault_unreported s x i b) : (s.endFault x i b).unreported.est = s.unreported.est)
@[simp] theorem endFault_survey (s : State) (x i : Nat) (b : Bool) : (s.endFault x i b).survey = s.survey :=
  (congrArg State.survey (endFault_unreported s x i b) : (s.endFault x i b).unreported.survey = s.unreported.survey)
@[simp] theorem endFault_loops (s : State) (x i : Nat) (b : Bool) : (s.endFault x i b).loops = s.loops :=
  (congrArg State.loops (endFault_unreported s x i b) : (s.endFault x i b).unreported.loops = s.unreported.loops)
@[simp] theorem endFault_trims (s : State) (x i : Nat) (b : Bool) : (s.endFault x i b).trims = s.trims :=
  (congrArg State.trims (endFault_unreported s x i b) : (s.endFault x i b).unreported.trims = s.unreported.trims)
@[simp] theorem endFault_steer (s : State) (x i : Nat) (b : Bool) : (s.endFault x i b).steer = s.steer :=
  (congrArg State.steer (endFault_unreported s x i b) : (s.endFault x i b).unreported.steer = s.unreported.steer)
@[simp] theorem endFault_twin (s : State) (x i : Nat) (b : Bool) : (s.endFault x i b).twin = s.twin :=
  (congrArg State.twin (endFault_unreported s x i b) : (s.endFault x i b).unreported.twin = s.unreported.twin)
@[simp] theorem endFault_time (s : State) (x i : Nat) (b : Bool) : (s.endFault x i b).time = s.time :=
  (congrArg State.time (endFault_unreported s x i b) : (s.endFault x i b).unreported.time = s.unreported.time)
@[simp] theorem endFault_net (s : State) (x i : Nat) (b : Bool) : (s.endFault x i b).net = s.net :=
  (congrArg State.net (endFault_unreported s x i b) : (s.endFault x i b).unreported.net = s.unreported.net)
@[simp] theorem endFault_bus (s : State) (x i : Nat) (b : Bool) : (s.endFault x i b).bus = s.bus :=
  (congrArg State.bus (endFault_unreported s x i b) : (s.endFault x i b).unreported.bus = s.unreported.bus)
@[simp] theorem endFault_trs (s : State) (x i : Nat) (b : Bool) : (s.endFault x i b).trs = s.trs :=
  (congrArg State.trs (endFault_unreported s x i b) : (s.endFault x i b).unreported.trs = s.unreported.trs)
@[simp] theorem endFault_saf (s : State) (x i : Nat) (b : Bool) : (s.endFault x i b).saf = s.saf :=
  (congrArg State.saf (endFault_unreported s x i b) : (s.endFault x i b).unreported.saf = s.unreported.saf)
@[simp] theorem endFault_prof (s : State) (x i : Nat) (b : Bool) : (s.endFault x i b).prof = s.prof :=
  (congrArg State.prof (endFault_unreported s x i b) : (s.endFault x i b).unreported.prof = s.unreported.prof)
@[simp] theorem endFault_modes (s : State) (x i : Nat) (b : Bool) : (s.endFault x i b).modes = s.modes :=
  (congrArg State.modes (endFault_unreported s x i b) : (s.endFault x i b).unreported.modes = s.unreported.modes)
@[simp] theorem endFault_vault (s : State) (x i : Nat) (b : Bool) : (s.endFault x i b).vault = s.vault :=
  (congrArg State.vault (endFault_unreported s x i b) : (s.endFault x i b).unreported.vault = s.unreported.vault)
@[simp] theorem endFault_therm (s : State) (x i : Nat) (b : Bool) : (s.endFault x i b).therm = s.therm :=
  (congrArg State.therm (endFault_unreported s x i b) : (s.endFault x i b).unreported.therm = s.unreported.therm)
@[simp] theorem endFault_upd (s : State) (x i : Nat) (b : Bool) : (s.endFault x i b).upd = s.upd :=
  (congrArg State.upd (endFault_unreported s x i b) : (s.endFault x i b).unreported.upd = s.unreported.upd)
@[simp] theorem endFault_age (s : State) (x i : Nat) (b : Bool) : (s.endFault x i b).age = s.age :=
  (congrArg State.age (endFault_unreported s x i b) : (s.endFault x i b).unreported.age = s.unreported.age)
@[simp] theorem endFault_prg (s : State) (x i : Nat) (b : Bool) : (s.endFault x i b).prg = s.prg :=
  (congrArg State.prg (endFault_unreported s x i b) : (s.endFault x i b).unreported.prg = s.unreported.prg)

@[simp] theorem notice_pending (s : State) (p : Bool) (c x g r b : Nat) : (s.notice p c x g r b).pending = s.pending :=
  (congrArg State.pending (notice_unreported s p c x g r b) : (s.notice p c x g r b).unreported.pending = s.unreported.pending)
@[simp] theorem notice_freeCtr (s : State) (p : Bool) (c x g r b : Nat) : (s.notice p c x g r b).freeCtr = s.freeCtr :=
  (congrArg State.freeCtr (notice_unreported s p c x g r b) : (s.notice p c x g r b).unreported.freeCtr = s.unreported.freeCtr)
@[simp] theorem notice_ident (s : State) (p : Bool) (c x g r b : Nat) : (s.notice p c x g r b).ident = s.ident :=
  (congrArg State.ident (notice_unreported s p c x g r b) : (s.notice p c x g r b).unreported.ident = s.unreported.ident)
@[simp] theorem notice_power (s : State) (p : Bool) (c x g r b : Nat) : (s.notice p c x g r b).power = s.power :=
  (congrArg State.power (notice_unreported s p c x g r b) : (s.notice p c x g r b).unreported.power = s.unreported.power)
@[simp] theorem notice_arch (s : State) (p : Bool) (c x g r b : Nat) : (s.notice p c x g r b).arch = s.arch :=
  (congrArg State.arch (notice_unreported s p c x g r b) : (s.notice p c x g r b).unreported.arch = s.unreported.arch)
@[simp] theorem notice_night (s : State) (p : Bool) (c x g r b : Nat) : (s.notice p c x g r b).night = s.night :=
  (congrArg State.night (notice_unreported s p c x g r b) : (s.notice p c x g r b).unreported.night = s.unreported.night)
@[simp] theorem notice_par (s : State) (p : Bool) (c x g r b : Nat) : (s.notice p c x g r b).par = s.par :=
  (congrArg State.par (notice_unreported s p c x g r b) : (s.notice p c x g r b).unreported.par = s.unreported.par)
@[simp] theorem notice_links (s : State) (p : Bool) (c x g r b : Nat) : (s.notice p c x g r b).links = s.links :=
  (congrArg State.links (notice_unreported s p c x g r b) : (s.notice p c x g r b).unreported.links = s.unreported.links)
@[simp] theorem notice_bricks (s : State) (p : Bool) (c x g r b : Nat) : (s.notice p c x g r b).bricks = s.bricks :=
  (congrArg State.bricks (notice_unreported s p c x g r b) : (s.notice p c x g r b).unreported.bricks = s.unreported.bricks)
@[simp] theorem notice_rows (s : State) (p : Bool) (c x g r b : Nat) : (s.notice p c x g r b).rows = s.rows :=
  (congrArg State.rows (notice_unreported s p c x g r b) : (s.notice p c x g r b).unreported.rows = s.unreported.rows)
@[simp] theorem notice_rails (s : State) (p : Bool) (c x g r b : Nat) : (s.notice p c x g r b).rails = s.rails :=
  (congrArg State.rails (notice_unreported s p c x g r b) : (s.notice p c x g r b).unreported.rails = s.unreported.rails)
@[simp] theorem notice_est (s : State) (p : Bool) (c x g r b : Nat) : (s.notice p c x g r b).est = s.est :=
  (congrArg State.est (notice_unreported s p c x g r b) : (s.notice p c x g r b).unreported.est = s.unreported.est)
@[simp] theorem notice_survey (s : State) (p : Bool) (c x g r b : Nat) : (s.notice p c x g r b).survey = s.survey :=
  (congrArg State.survey (notice_unreported s p c x g r b) : (s.notice p c x g r b).unreported.survey = s.unreported.survey)
@[simp] theorem notice_loops (s : State) (p : Bool) (c x g r b : Nat) : (s.notice p c x g r b).loops = s.loops :=
  (congrArg State.loops (notice_unreported s p c x g r b) : (s.notice p c x g r b).unreported.loops = s.unreported.loops)
@[simp] theorem notice_trims (s : State) (p : Bool) (c x g r b : Nat) : (s.notice p c x g r b).trims = s.trims :=
  (congrArg State.trims (notice_unreported s p c x g r b) : (s.notice p c x g r b).unreported.trims = s.unreported.trims)
@[simp] theorem notice_steer (s : State) (p : Bool) (c x g r b : Nat) : (s.notice p c x g r b).steer = s.steer :=
  (congrArg State.steer (notice_unreported s p c x g r b) : (s.notice p c x g r b).unreported.steer = s.unreported.steer)
@[simp] theorem notice_twin (s : State) (p : Bool) (c x g r b : Nat) : (s.notice p c x g r b).twin = s.twin :=
  (congrArg State.twin (notice_unreported s p c x g r b) : (s.notice p c x g r b).unreported.twin = s.unreported.twin)
@[simp] theorem notice_time (s : State) (p : Bool) (c x g r b : Nat) : (s.notice p c x g r b).time = s.time :=
  (congrArg State.time (notice_unreported s p c x g r b) : (s.notice p c x g r b).unreported.time = s.unreported.time)
@[simp] theorem notice_net (s : State) (p : Bool) (c x g r b : Nat) : (s.notice p c x g r b).net = s.net :=
  (congrArg State.net (notice_unreported s p c x g r b) : (s.notice p c x g r b).unreported.net = s.unreported.net)
@[simp] theorem notice_bus (s : State) (p : Bool) (c x g r b : Nat) : (s.notice p c x g r b).bus = s.bus :=
  (congrArg State.bus (notice_unreported s p c x g r b) : (s.notice p c x g r b).unreported.bus = s.unreported.bus)
@[simp] theorem notice_trs (s : State) (p : Bool) (c x g r b : Nat) : (s.notice p c x g r b).trs = s.trs :=
  (congrArg State.trs (notice_unreported s p c x g r b) : (s.notice p c x g r b).unreported.trs = s.unreported.trs)
@[simp] theorem notice_saf (s : State) (p : Bool) (c x g r b : Nat) : (s.notice p c x g r b).saf = s.saf :=
  (congrArg State.saf (notice_unreported s p c x g r b) : (s.notice p c x g r b).unreported.saf = s.unreported.saf)
@[simp] theorem notice_prof (s : State) (p : Bool) (c x g r b : Nat) : (s.notice p c x g r b).prof = s.prof :=
  (congrArg State.prof (notice_unreported s p c x g r b) : (s.notice p c x g r b).unreported.prof = s.unreported.prof)
@[simp] theorem notice_modes (s : State) (p : Bool) (c x g r b : Nat) : (s.notice p c x g r b).modes = s.modes :=
  (congrArg State.modes (notice_unreported s p c x g r b) : (s.notice p c x g r b).unreported.modes = s.unreported.modes)
@[simp] theorem notice_vault (s : State) (p : Bool) (c x g r b : Nat) : (s.notice p c x g r b).vault = s.vault :=
  (congrArg State.vault (notice_unreported s p c x g r b) : (s.notice p c x g r b).unreported.vault = s.unreported.vault)
@[simp] theorem notice_therm (s : State) (p : Bool) (c x g r b : Nat) : (s.notice p c x g r b).therm = s.therm :=
  (congrArg State.therm (notice_unreported s p c x g r b) : (s.notice p c x g r b).unreported.therm = s.unreported.therm)
@[simp] theorem notice_upd (s : State) (p : Bool) (c x g r b : Nat) : (s.notice p c x g r b).upd = s.upd :=
  (congrArg State.upd (notice_unreported s p c x g r b) : (s.notice p c x g r b).unreported.upd = s.unreported.upd)
@[simp] theorem notice_age (s : State) (p : Bool) (c x g r b : Nat) : (s.notice p c x g r b).age = s.age :=
  (congrArg State.age (notice_unreported s p c x g r b) : (s.notice p c x g r b).unreported.age = s.unreported.age)
@[simp] theorem notice_prg (s : State) (p : Bool) (c x g r b : Nat) : (s.notice p c x g r b).prg = s.prg :=
  (congrArg State.prg (notice_unreported s p c x g r b) : (s.notice p c x g r b).unreported.prg = s.unreported.prg)

@[simp] theorem ledAdd_pending (s : State) (k o n : Nat) : (s.ledAdd k o n).pending = s.pending :=
  (congrArg State.pending (ledAdd_unreported s k o n) : (s.ledAdd k o n).unreported.pending = s.unreported.pending)
@[simp] theorem ledAdd_freeCtr (s : State) (k o n : Nat) : (s.ledAdd k o n).freeCtr = s.freeCtr :=
  (congrArg State.freeCtr (ledAdd_unreported s k o n) : (s.ledAdd k o n).unreported.freeCtr = s.unreported.freeCtr)
@[simp] theorem ledAdd_ident (s : State) (k o n : Nat) : (s.ledAdd k o n).ident = s.ident :=
  (congrArg State.ident (ledAdd_unreported s k o n) : (s.ledAdd k o n).unreported.ident = s.unreported.ident)
@[simp] theorem ledAdd_power (s : State) (k o n : Nat) : (s.ledAdd k o n).power = s.power :=
  (congrArg State.power (ledAdd_unreported s k o n) : (s.ledAdd k o n).unreported.power = s.unreported.power)
@[simp] theorem ledAdd_arch (s : State) (k o n : Nat) : (s.ledAdd k o n).arch = s.arch :=
  (congrArg State.arch (ledAdd_unreported s k o n) : (s.ledAdd k o n).unreported.arch = s.unreported.arch)
@[simp] theorem ledAdd_night (s : State) (k o n : Nat) : (s.ledAdd k o n).night = s.night :=
  (congrArg State.night (ledAdd_unreported s k o n) : (s.ledAdd k o n).unreported.night = s.unreported.night)
@[simp] theorem ledAdd_par (s : State) (k o n : Nat) : (s.ledAdd k o n).par = s.par :=
  (congrArg State.par (ledAdd_unreported s k o n) : (s.ledAdd k o n).unreported.par = s.unreported.par)
@[simp] theorem ledAdd_links (s : State) (k o n : Nat) : (s.ledAdd k o n).links = s.links :=
  (congrArg State.links (ledAdd_unreported s k o n) : (s.ledAdd k o n).unreported.links = s.unreported.links)
@[simp] theorem ledAdd_bricks (s : State) (k o n : Nat) : (s.ledAdd k o n).bricks = s.bricks :=
  (congrArg State.bricks (ledAdd_unreported s k o n) : (s.ledAdd k o n).unreported.bricks = s.unreported.bricks)
@[simp] theorem ledAdd_rows (s : State) (k o n : Nat) : (s.ledAdd k o n).rows = s.rows :=
  (congrArg State.rows (ledAdd_unreported s k o n) : (s.ledAdd k o n).unreported.rows = s.unreported.rows)
@[simp] theorem ledAdd_rails (s : State) (k o n : Nat) : (s.ledAdd k o n).rails = s.rails :=
  (congrArg State.rails (ledAdd_unreported s k o n) : (s.ledAdd k o n).unreported.rails = s.unreported.rails)
@[simp] theorem ledAdd_est (s : State) (k o n : Nat) : (s.ledAdd k o n).est = s.est :=
  (congrArg State.est (ledAdd_unreported s k o n) : (s.ledAdd k o n).unreported.est = s.unreported.est)
@[simp] theorem ledAdd_survey (s : State) (k o n : Nat) : (s.ledAdd k o n).survey = s.survey :=
  (congrArg State.survey (ledAdd_unreported s k o n) : (s.ledAdd k o n).unreported.survey = s.unreported.survey)
@[simp] theorem ledAdd_loops (s : State) (k o n : Nat) : (s.ledAdd k o n).loops = s.loops :=
  (congrArg State.loops (ledAdd_unreported s k o n) : (s.ledAdd k o n).unreported.loops = s.unreported.loops)
@[simp] theorem ledAdd_trims (s : State) (k o n : Nat) : (s.ledAdd k o n).trims = s.trims :=
  (congrArg State.trims (ledAdd_unreported s k o n) : (s.ledAdd k o n).unreported.trims = s.unreported.trims)
@[simp] theorem ledAdd_steer (s : State) (k o n : Nat) : (s.ledAdd k o n).steer = s.steer :=
  (congrArg State.steer (ledAdd_unreported s k o n) : (s.ledAdd k o n).unreported.steer = s.unreported.steer)
@[simp] theorem ledAdd_twin (s : State) (k o n : Nat) : (s.ledAdd k o n).twin = s.twin :=
  (congrArg State.twin (ledAdd_unreported s k o n) : (s.ledAdd k o n).unreported.twin = s.unreported.twin)
@[simp] theorem ledAdd_time (s : State) (k o n : Nat) : (s.ledAdd k o n).time = s.time :=
  (congrArg State.time (ledAdd_unreported s k o n) : (s.ledAdd k o n).unreported.time = s.unreported.time)
@[simp] theorem ledAdd_net (s : State) (k o n : Nat) : (s.ledAdd k o n).net = s.net :=
  (congrArg State.net (ledAdd_unreported s k o n) : (s.ledAdd k o n).unreported.net = s.unreported.net)
@[simp] theorem ledAdd_bus (s : State) (k o n : Nat) : (s.ledAdd k o n).bus = s.bus :=
  (congrArg State.bus (ledAdd_unreported s k o n) : (s.ledAdd k o n).unreported.bus = s.unreported.bus)
@[simp] theorem ledAdd_trs (s : State) (k o n : Nat) : (s.ledAdd k o n).trs = s.trs :=
  (congrArg State.trs (ledAdd_unreported s k o n) : (s.ledAdd k o n).unreported.trs = s.unreported.trs)
@[simp] theorem ledAdd_saf (s : State) (k o n : Nat) : (s.ledAdd k o n).saf = s.saf :=
  (congrArg State.saf (ledAdd_unreported s k o n) : (s.ledAdd k o n).unreported.saf = s.unreported.saf)
@[simp] theorem ledAdd_prof (s : State) (k o n : Nat) : (s.ledAdd k o n).prof = s.prof :=
  (congrArg State.prof (ledAdd_unreported s k o n) : (s.ledAdd k o n).unreported.prof = s.unreported.prof)
@[simp] theorem ledAdd_modes (s : State) (k o n : Nat) : (s.ledAdd k o n).modes = s.modes :=
  (congrArg State.modes (ledAdd_unreported s k o n) : (s.ledAdd k o n).unreported.modes = s.unreported.modes)
@[simp] theorem ledAdd_vault (s : State) (k o n : Nat) : (s.ledAdd k o n).vault = s.vault :=
  (congrArg State.vault (ledAdd_unreported s k o n) : (s.ledAdd k o n).unreported.vault = s.unreported.vault)
@[simp] theorem ledAdd_therm (s : State) (k o n : Nat) : (s.ledAdd k o n).therm = s.therm :=
  (congrArg State.therm (ledAdd_unreported s k o n) : (s.ledAdd k o n).unreported.therm = s.unreported.therm)
@[simp] theorem ledAdd_upd (s : State) (k o n : Nat) : (s.ledAdd k o n).upd = s.upd :=
  (congrArg State.upd (ledAdd_unreported s k o n) : (s.ledAdd k o n).unreported.upd = s.unreported.upd)
@[simp] theorem ledAdd_age (s : State) (k o n : Nat) : (s.ledAdd k o n).age = s.age :=
  (congrArg State.age (ledAdd_unreported s k o n) : (s.ledAdd k o n).unreported.age = s.unreported.age)
@[simp] theorem ledAdd_prg (s : State) (k o n : Nat) : (s.ledAdd k o n).prg = s.prg :=
  (congrArg State.prg (ledAdd_unreported s k o n) : (s.ledAdd k o n).unreported.prg = s.unreported.prg)

@[simp] theorem raise_pending (s : State) (x i g : Nat) (a b c : Bool) : (s.raise x i g a b c).pending = s.pending :=
  (congrArg State.pending (raise_unacted s x i g a b c) : (s.raise x i g a b c).unacted.pending = s.unacted.pending)
@[simp] theorem raise_freeCtr (s : State) (x i g : Nat) (a b c : Bool) : (s.raise x i g a b c).freeCtr = s.freeCtr :=
  (congrArg State.freeCtr (raise_unacted s x i g a b c) : (s.raise x i g a b c).unacted.freeCtr = s.unacted.freeCtr)
@[simp] theorem raise_ident (s : State) (x i g : Nat) (a b c : Bool) : (s.raise x i g a b c).ident = s.ident :=
  (congrArg State.ident (raise_unacted s x i g a b c) : (s.raise x i g a b c).unacted.ident = s.unacted.ident)
@[simp] theorem raise_power (s : State) (x i g : Nat) (a b c : Bool) : (s.raise x i g a b c).power = s.power :=
  (congrArg State.power (raise_unacted s x i g a b c) : (s.raise x i g a b c).unacted.power = s.unacted.power)
@[simp] theorem raise_arch (s : State) (x i g : Nat) (a b c : Bool) : (s.raise x i g a b c).arch = s.arch :=
  (congrArg State.arch (raise_unacted s x i g a b c) : (s.raise x i g a b c).unacted.arch = s.unacted.arch)
@[simp] theorem raise_night (s : State) (x i g : Nat) (a b c : Bool) : (s.raise x i g a b c).night = s.night :=
  (congrArg State.night (raise_unacted s x i g a b c) : (s.raise x i g a b c).unacted.night = s.unacted.night)
@[simp] theorem raise_par (s : State) (x i g : Nat) (a b c : Bool) : (s.raise x i g a b c).par = s.par :=
  (congrArg State.par (raise_unacted s x i g a b c) : (s.raise x i g a b c).unacted.par = s.unacted.par)
@[simp] theorem raise_links (s : State) (x i g : Nat) (a b c : Bool) : (s.raise x i g a b c).links = s.links :=
  (congrArg State.links (raise_unacted s x i g a b c) : (s.raise x i g a b c).unacted.links = s.unacted.links)
@[simp] theorem raise_bricks (s : State) (x i g : Nat) (a b c : Bool) : (s.raise x i g a b c).bricks = s.bricks :=
  (congrArg State.bricks (raise_unacted s x i g a b c) : (s.raise x i g a b c).unacted.bricks = s.unacted.bricks)
@[simp] theorem raise_rows (s : State) (x i g : Nat) (a b c : Bool) : (s.raise x i g a b c).rows = s.rows :=
  (congrArg State.rows (raise_unacted s x i g a b c) : (s.raise x i g a b c).unacted.rows = s.unacted.rows)
@[simp] theorem raise_rails (s : State) (x i g : Nat) (a b c : Bool) : (s.raise x i g a b c).rails = s.rails :=
  (congrArg State.rails (raise_unacted s x i g a b c) : (s.raise x i g a b c).unacted.rails = s.unacted.rails)
@[simp] theorem raise_est (s : State) (x i g : Nat) (a b c : Bool) : (s.raise x i g a b c).est = s.est :=
  (congrArg State.est (raise_unacted s x i g a b c) : (s.raise x i g a b c).unacted.est = s.unacted.est)
@[simp] theorem raise_survey (s : State) (x i g : Nat) (a b c : Bool) : (s.raise x i g a b c).survey = s.survey :=
  (congrArg State.survey (raise_unacted s x i g a b c) : (s.raise x i g a b c).unacted.survey = s.unacted.survey)
@[simp] theorem raise_loops (s : State) (x i g : Nat) (a b c : Bool) : (s.raise x i g a b c).loops = s.loops :=
  (congrArg State.loops (raise_unacted s x i g a b c) : (s.raise x i g a b c).unacted.loops = s.unacted.loops)
@[simp] theorem raise_trims (s : State) (x i g : Nat) (a b c : Bool) : (s.raise x i g a b c).trims = s.trims :=
  (congrArg State.trims (raise_unacted s x i g a b c) : (s.raise x i g a b c).unacted.trims = s.unacted.trims)
@[simp] theorem raise_steer (s : State) (x i g : Nat) (a b c : Bool) : (s.raise x i g a b c).steer = s.steer :=
  (congrArg State.steer (raise_unacted s x i g a b c) : (s.raise x i g a b c).unacted.steer = s.unacted.steer)
@[simp] theorem raise_twin (s : State) (x i g : Nat) (a b c : Bool) : (s.raise x i g a b c).twin = s.twin :=
  (congrArg State.twin (raise_unacted s x i g a b c) : (s.raise x i g a b c).unacted.twin = s.unacted.twin)
@[simp] theorem raise_time (s : State) (x i g : Nat) (a b c : Bool) : (s.raise x i g a b c).time = s.time :=
  (congrArg State.time (raise_unacted s x i g a b c) : (s.raise x i g a b c).unacted.time = s.unacted.time)
@[simp] theorem raise_net (s : State) (x i g : Nat) (a b c : Bool) : (s.raise x i g a b c).net = s.net :=
  (congrArg State.net (raise_unacted s x i g a b c) : (s.raise x i g a b c).unacted.net = s.unacted.net)
@[simp] theorem raise_bus (s : State) (x i g : Nat) (a b c : Bool) : (s.raise x i g a b c).bus = s.bus :=
  (congrArg State.bus (raise_unacted s x i g a b c) : (s.raise x i g a b c).unacted.bus = s.unacted.bus)
@[simp] theorem raise_trs (s : State) (x i g : Nat) (a b c : Bool) : (s.raise x i g a b c).trs = s.trs :=
  (congrArg State.trs (raise_unacted s x i g a b c) : (s.raise x i g a b c).unacted.trs = s.unacted.trs)

@[simp] theorem condition_pending (s : State) (x i g : Nat) (c : Bool) : (s.condition x i g c).pending = s.pending :=
  (congrArg State.pending (condition_unacted s x i g c) : (s.condition x i g c).unacted.pending = s.unacted.pending)
@[simp] theorem condition_freeCtr (s : State) (x i g : Nat) (c : Bool) : (s.condition x i g c).freeCtr = s.freeCtr :=
  (congrArg State.freeCtr (condition_unacted s x i g c) : (s.condition x i g c).unacted.freeCtr = s.unacted.freeCtr)
@[simp] theorem condition_ident (s : State) (x i g : Nat) (c : Bool) : (s.condition x i g c).ident = s.ident :=
  (congrArg State.ident (condition_unacted s x i g c) : (s.condition x i g c).unacted.ident = s.unacted.ident)
@[simp] theorem condition_power (s : State) (x i g : Nat) (c : Bool) : (s.condition x i g c).power = s.power :=
  (congrArg State.power (condition_unacted s x i g c) : (s.condition x i g c).unacted.power = s.unacted.power)
@[simp] theorem condition_arch (s : State) (x i g : Nat) (c : Bool) : (s.condition x i g c).arch = s.arch :=
  (congrArg State.arch (condition_unacted s x i g c) : (s.condition x i g c).unacted.arch = s.unacted.arch)
@[simp] theorem condition_night (s : State) (x i g : Nat) (c : Bool) : (s.condition x i g c).night = s.night :=
  (congrArg State.night (condition_unacted s x i g c) : (s.condition x i g c).unacted.night = s.unacted.night)
@[simp] theorem condition_par (s : State) (x i g : Nat) (c : Bool) : (s.condition x i g c).par = s.par :=
  (congrArg State.par (condition_unacted s x i g c) : (s.condition x i g c).unacted.par = s.unacted.par)
@[simp] theorem condition_links (s : State) (x i g : Nat) (c : Bool) : (s.condition x i g c).links = s.links :=
  (congrArg State.links (condition_unacted s x i g c) : (s.condition x i g c).unacted.links = s.unacted.links)
@[simp] theorem condition_bricks (s : State) (x i g : Nat) (c : Bool) : (s.condition x i g c).bricks = s.bricks :=
  (congrArg State.bricks (condition_unacted s x i g c) : (s.condition x i g c).unacted.bricks = s.unacted.bricks)
@[simp] theorem condition_rows (s : State) (x i g : Nat) (c : Bool) : (s.condition x i g c).rows = s.rows :=
  (congrArg State.rows (condition_unacted s x i g c) : (s.condition x i g c).unacted.rows = s.unacted.rows)
@[simp] theorem condition_rails (s : State) (x i g : Nat) (c : Bool) : (s.condition x i g c).rails = s.rails :=
  (congrArg State.rails (condition_unacted s x i g c) : (s.condition x i g c).unacted.rails = s.unacted.rails)
@[simp] theorem condition_est (s : State) (x i g : Nat) (c : Bool) : (s.condition x i g c).est = s.est :=
  (congrArg State.est (condition_unacted s x i g c) : (s.condition x i g c).unacted.est = s.unacted.est)
@[simp] theorem condition_survey (s : State) (x i g : Nat) (c : Bool) : (s.condition x i g c).survey = s.survey :=
  (congrArg State.survey (condition_unacted s x i g c) : (s.condition x i g c).unacted.survey = s.unacted.survey)
@[simp] theorem condition_loops (s : State) (x i g : Nat) (c : Bool) : (s.condition x i g c).loops = s.loops :=
  (congrArg State.loops (condition_unacted s x i g c) : (s.condition x i g c).unacted.loops = s.unacted.loops)
@[simp] theorem condition_trims (s : State) (x i g : Nat) (c : Bool) : (s.condition x i g c).trims = s.trims :=
  (congrArg State.trims (condition_unacted s x i g c) : (s.condition x i g c).unacted.trims = s.unacted.trims)
@[simp] theorem condition_steer (s : State) (x i g : Nat) (c : Bool) : (s.condition x i g c).steer = s.steer :=
  (congrArg State.steer (condition_unacted s x i g c) : (s.condition x i g c).unacted.steer = s.unacted.steer)
@[simp] theorem condition_twin (s : State) (x i g : Nat) (c : Bool) : (s.condition x i g c).twin = s.twin :=
  (congrArg State.twin (condition_unacted s x i g c) : (s.condition x i g c).unacted.twin = s.unacted.twin)
@[simp] theorem condition_time (s : State) (x i g : Nat) (c : Bool) : (s.condition x i g c).time = s.time :=
  (congrArg State.time (condition_unacted s x i g c) : (s.condition x i g c).unacted.time = s.unacted.time)
@[simp] theorem condition_net (s : State) (x i g : Nat) (c : Bool) : (s.condition x i g c).net = s.net :=
  (congrArg State.net (condition_unacted s x i g c) : (s.condition x i g c).unacted.net = s.unacted.net)
@[simp] theorem condition_bus (s : State) (x i g : Nat) (c : Bool) : (s.condition x i g c).bus = s.bus :=
  (congrArg State.bus (condition_unacted s x i g c) : (s.condition x i g c).unacted.bus = s.unacted.bus)
@[simp] theorem condition_trs (s : State) (x i g : Nat) (c : Bool) : (s.condition x i g c).trs = s.trs :=
  (congrArg State.trs (condition_unacted s x i g c) : (s.condition x i g c).unacted.trs = s.unacted.trs)

@[simp] theorem openAll_pending (s : State) (c : Nat) : (s.openAll c).pending = s.pending :=
  (congrArg State.pending (openAll_unacted s c) : (s.openAll c).unacted.pending = s.unacted.pending)
@[simp] theorem openAll_freeCtr (s : State) (c : Nat) : (s.openAll c).freeCtr = s.freeCtr :=
  (congrArg State.freeCtr (openAll_unacted s c) : (s.openAll c).unacted.freeCtr = s.unacted.freeCtr)
@[simp] theorem openAll_ident (s : State) (c : Nat) : (s.openAll c).ident = s.ident :=
  (congrArg State.ident (openAll_unacted s c) : (s.openAll c).unacted.ident = s.unacted.ident)
@[simp] theorem openAll_power (s : State) (c : Nat) : (s.openAll c).power = s.power :=
  (congrArg State.power (openAll_unacted s c) : (s.openAll c).unacted.power = s.unacted.power)
@[simp] theorem openAll_arch (s : State) (c : Nat) : (s.openAll c).arch = s.arch :=
  (congrArg State.arch (openAll_unacted s c) : (s.openAll c).unacted.arch = s.unacted.arch)
@[simp] theorem openAll_night (s : State) (c : Nat) : (s.openAll c).night = s.night :=
  (congrArg State.night (openAll_unacted s c) : (s.openAll c).unacted.night = s.unacted.night)
@[simp] theorem openAll_par (s : State) (c : Nat) : (s.openAll c).par = s.par :=
  (congrArg State.par (openAll_unacted s c) : (s.openAll c).unacted.par = s.unacted.par)
@[simp] theorem openAll_links (s : State) (c : Nat) : (s.openAll c).links = s.links :=
  (congrArg State.links (openAll_unacted s c) : (s.openAll c).unacted.links = s.unacted.links)
@[simp] theorem openAll_bricks (s : State) (c : Nat) : (s.openAll c).bricks = s.bricks :=
  (congrArg State.bricks (openAll_unacted s c) : (s.openAll c).unacted.bricks = s.unacted.bricks)
@[simp] theorem openAll_rows (s : State) (c : Nat) : (s.openAll c).rows = s.rows :=
  (congrArg State.rows (openAll_unacted s c) : (s.openAll c).unacted.rows = s.unacted.rows)
@[simp] theorem openAll_rails (s : State) (c : Nat) : (s.openAll c).rails = s.rails :=
  (congrArg State.rails (openAll_unacted s c) : (s.openAll c).unacted.rails = s.unacted.rails)
@[simp] theorem openAll_est (s : State) (c : Nat) : (s.openAll c).est = s.est :=
  (congrArg State.est (openAll_unacted s c) : (s.openAll c).unacted.est = s.unacted.est)
@[simp] theorem openAll_survey (s : State) (c : Nat) : (s.openAll c).survey = s.survey :=
  (congrArg State.survey (openAll_unacted s c) : (s.openAll c).unacted.survey = s.unacted.survey)
@[simp] theorem openAll_loops (s : State) (c : Nat) : (s.openAll c).loops = s.loops :=
  (congrArg State.loops (openAll_unacted s c) : (s.openAll c).unacted.loops = s.unacted.loops)
@[simp] theorem openAll_trims (s : State) (c : Nat) : (s.openAll c).trims = s.trims :=
  (congrArg State.trims (openAll_unacted s c) : (s.openAll c).unacted.trims = s.unacted.trims)
@[simp] theorem openAll_steer (s : State) (c : Nat) : (s.openAll c).steer = s.steer :=
  (congrArg State.steer (openAll_unacted s c) : (s.openAll c).unacted.steer = s.unacted.steer)
@[simp] theorem openAll_twin (s : State) (c : Nat) : (s.openAll c).twin = s.twin :=
  (congrArg State.twin (openAll_unacted s c) : (s.openAll c).unacted.twin = s.unacted.twin)
@[simp] theorem openAll_time (s : State) (c : Nat) : (s.openAll c).time = s.time :=
  (congrArg State.time (openAll_unacted s c) : (s.openAll c).unacted.time = s.unacted.time)
@[simp] theorem openAll_net (s : State) (c : Nat) : (s.openAll c).net = s.net :=
  (congrArg State.net (openAll_unacted s c) : (s.openAll c).unacted.net = s.unacted.net)
@[simp] theorem openAll_bus (s : State) (c : Nat) : (s.openAll c).bus = s.bus :=
  (congrArg State.bus (openAll_unacted s c) : (s.openAll c).unacted.bus = s.unacted.bus)
@[simp] theorem openAll_trs (s : State) (c : Nat) : (s.openAll c).trs = s.trs :=
  (congrArg State.trs (openAll_unacted s c) : (s.openAll c).unacted.trs = s.unacted.trs)

@[simp] theorem stopAny_pending (s : State) (c : Nat) : (s.stopAny c).pending = s.pending :=
  (congrArg State.pending (stopAny_unacted s c) : (s.stopAny c).unacted.pending = s.unacted.pending)
@[simp] theorem stopAny_freeCtr (s : State) (c : Nat) : (s.stopAny c).freeCtr = s.freeCtr :=
  (congrArg State.freeCtr (stopAny_unacted s c) : (s.stopAny c).unacted.freeCtr = s.unacted.freeCtr)
@[simp] theorem stopAny_ident (s : State) (c : Nat) : (s.stopAny c).ident = s.ident :=
  (congrArg State.ident (stopAny_unacted s c) : (s.stopAny c).unacted.ident = s.unacted.ident)
@[simp] theorem stopAny_power (s : State) (c : Nat) : (s.stopAny c).power = s.power :=
  (congrArg State.power (stopAny_unacted s c) : (s.stopAny c).unacted.power = s.unacted.power)
@[simp] theorem stopAny_arch (s : State) (c : Nat) : (s.stopAny c).arch = s.arch :=
  (congrArg State.arch (stopAny_unacted s c) : (s.stopAny c).unacted.arch = s.unacted.arch)
@[simp] theorem stopAny_night (s : State) (c : Nat) : (s.stopAny c).night = s.night :=
  (congrArg State.night (stopAny_unacted s c) : (s.stopAny c).unacted.night = s.unacted.night)
@[simp] theorem stopAny_par (s : State) (c : Nat) : (s.stopAny c).par = s.par :=
  (congrArg State.par (stopAny_unacted s c) : (s.stopAny c).unacted.par = s.unacted.par)
@[simp] theorem stopAny_links (s : State) (c : Nat) : (s.stopAny c).links = s.links :=
  (congrArg State.links (stopAny_unacted s c) : (s.stopAny c).unacted.links = s.unacted.links)
@[simp] theorem stopAny_bricks (s : State) (c : Nat) : (s.stopAny c).bricks = s.bricks :=
  (congrArg State.bricks (stopAny_unacted s c) : (s.stopAny c).unacted.bricks = s.unacted.bricks)
@[simp] theorem stopAny_rows (s : State) (c : Nat) : (s.stopAny c).rows = s.rows :=
  (congrArg State.rows (stopAny_unacted s c) : (s.stopAny c).unacted.rows = s.unacted.rows)
@[simp] theorem stopAny_rails (s : State) (c : Nat) : (s.stopAny c).rails = s.rails :=
  (congrArg State.rails (stopAny_unacted s c) : (s.stopAny c).unacted.rails = s.unacted.rails)
@[simp] theorem stopAny_est (s : State) (c : Nat) : (s.stopAny c).est = s.est :=
  (congrArg State.est (stopAny_unacted s c) : (s.stopAny c).unacted.est = s.unacted.est)
@[simp] theorem stopAny_survey (s : State) (c : Nat) : (s.stopAny c).survey = s.survey :=
  (congrArg State.survey (stopAny_unacted s c) : (s.stopAny c).unacted.survey = s.unacted.survey)
@[simp] theorem stopAny_loops (s : State) (c : Nat) : (s.stopAny c).loops = s.loops :=
  (congrArg State.loops (stopAny_unacted s c) : (s.stopAny c).unacted.loops = s.unacted.loops)
@[simp] theorem stopAny_trims (s : State) (c : Nat) : (s.stopAny c).trims = s.trims :=
  (congrArg State.trims (stopAny_unacted s c) : (s.stopAny c).unacted.trims = s.unacted.trims)
@[simp] theorem stopAny_steer (s : State) (c : Nat) : (s.stopAny c).steer = s.steer :=
  (congrArg State.steer (stopAny_unacted s c) : (s.stopAny c).unacted.steer = s.unacted.steer)
@[simp] theorem stopAny_twin (s : State) (c : Nat) : (s.stopAny c).twin = s.twin :=
  (congrArg State.twin (stopAny_unacted s c) : (s.stopAny c).unacted.twin = s.unacted.twin)
@[simp] theorem stopAny_time (s : State) (c : Nat) : (s.stopAny c).time = s.time :=
  (congrArg State.time (stopAny_unacted s c) : (s.stopAny c).unacted.time = s.unacted.time)
@[simp] theorem stopAny_net (s : State) (c : Nat) : (s.stopAny c).net = s.net :=
  (congrArg State.net (stopAny_unacted s c) : (s.stopAny c).unacted.net = s.unacted.net)
@[simp] theorem stopAny_bus (s : State) (c : Nat) : (s.stopAny c).bus = s.bus :=
  (congrArg State.bus (stopAny_unacted s c) : (s.stopAny c).unacted.bus = s.unacted.bus)
@[simp] theorem stopAny_trs (s : State) (c : Nat) : (s.stopAny c).trs = s.trs :=
  (congrArg State.trs (stopAny_unacted s c) : (s.stopAny c).unacted.trs = s.unacted.trs)

@[simp] theorem failClose_pending (s : State) (c : Nat) : (s.failClose c).pending = s.pending :=
  (congrArg State.pending (failClose_unacted s c) : (s.failClose c).unacted.pending = s.unacted.pending)
@[simp] theorem failClose_freeCtr (s : State) (c : Nat) : (s.failClose c).freeCtr = s.freeCtr :=
  (congrArg State.freeCtr (failClose_unacted s c) : (s.failClose c).unacted.freeCtr = s.unacted.freeCtr)
@[simp] theorem failClose_ident (s : State) (c : Nat) : (s.failClose c).ident = s.ident :=
  (congrArg State.ident (failClose_unacted s c) : (s.failClose c).unacted.ident = s.unacted.ident)
@[simp] theorem failClose_power (s : State) (c : Nat) : (s.failClose c).power = s.power :=
  (congrArg State.power (failClose_unacted s c) : (s.failClose c).unacted.power = s.unacted.power)
@[simp] theorem failClose_arch (s : State) (c : Nat) : (s.failClose c).arch = s.arch :=
  (congrArg State.arch (failClose_unacted s c) : (s.failClose c).unacted.arch = s.unacted.arch)
@[simp] theorem failClose_night (s : State) (c : Nat) : (s.failClose c).night = s.night :=
  (congrArg State.night (failClose_unacted s c) : (s.failClose c).unacted.night = s.unacted.night)
@[simp] theorem failClose_par (s : State) (c : Nat) : (s.failClose c).par = s.par :=
  (congrArg State.par (failClose_unacted s c) : (s.failClose c).unacted.par = s.unacted.par)
@[simp] theorem failClose_links (s : State) (c : Nat) : (s.failClose c).links = s.links :=
  (congrArg State.links (failClose_unacted s c) : (s.failClose c).unacted.links = s.unacted.links)
@[simp] theorem failClose_bricks (s : State) (c : Nat) : (s.failClose c).bricks = s.bricks :=
  (congrArg State.bricks (failClose_unacted s c) : (s.failClose c).unacted.bricks = s.unacted.bricks)
@[simp] theorem failClose_rows (s : State) (c : Nat) : (s.failClose c).rows = s.rows :=
  (congrArg State.rows (failClose_unacted s c) : (s.failClose c).unacted.rows = s.unacted.rows)
@[simp] theorem failClose_rails (s : State) (c : Nat) : (s.failClose c).rails = s.rails :=
  (congrArg State.rails (failClose_unacted s c) : (s.failClose c).unacted.rails = s.unacted.rails)
@[simp] theorem failClose_est (s : State) (c : Nat) : (s.failClose c).est = s.est :=
  (congrArg State.est (failClose_unacted s c) : (s.failClose c).unacted.est = s.unacted.est)
@[simp] theorem failClose_survey (s : State) (c : Nat) : (s.failClose c).survey = s.survey :=
  (congrArg State.survey (failClose_unacted s c) : (s.failClose c).unacted.survey = s.unacted.survey)
@[simp] theorem failClose_loops (s : State) (c : Nat) : (s.failClose c).loops = s.loops :=
  (congrArg State.loops (failClose_unacted s c) : (s.failClose c).unacted.loops = s.unacted.loops)
@[simp] theorem failClose_trims (s : State) (c : Nat) : (s.failClose c).trims = s.trims :=
  (congrArg State.trims (failClose_unacted s c) : (s.failClose c).unacted.trims = s.unacted.trims)
@[simp] theorem failClose_steer (s : State) (c : Nat) : (s.failClose c).steer = s.steer :=
  (congrArg State.steer (failClose_unacted s c) : (s.failClose c).unacted.steer = s.unacted.steer)
@[simp] theorem failClose_twin (s : State) (c : Nat) : (s.failClose c).twin = s.twin :=
  (congrArg State.twin (failClose_unacted s c) : (s.failClose c).unacted.twin = s.unacted.twin)
@[simp] theorem failClose_time (s : State) (c : Nat) : (s.failClose c).time = s.time :=
  (congrArg State.time (failClose_unacted s c) : (s.failClose c).unacted.time = s.unacted.time)
@[simp] theorem failClose_net (s : State) (c : Nat) : (s.failClose c).net = s.net :=
  (congrArg State.net (failClose_unacted s c) : (s.failClose c).unacted.net = s.unacted.net)
@[simp] theorem failClose_bus (s : State) (c : Nat) : (s.failClose c).bus = s.bus :=
  (congrArg State.bus (failClose_unacted s c) : (s.failClose c).unacted.bus = s.unacted.bus)
@[simp] theorem failClose_trs (s : State) (c : Nat) : (s.failClose c).trs = s.trs :=
  (congrArg State.trs (failClose_unacted s c) : (s.failClose c).unacted.trs = s.unacted.trs)

@[simp] theorem abortPulse_pending (s : State) : s.abortPulse.pending = s.pending :=
  (congrArg State.pending (abortPulse_unacted s) : s.abortPulse.unacted.pending = s.unacted.pending)
@[simp] theorem abortPulse_freeCtr (s : State) : s.abortPulse.freeCtr = s.freeCtr :=
  (congrArg State.freeCtr (abortPulse_unacted s) : s.abortPulse.unacted.freeCtr = s.unacted.freeCtr)
@[simp] theorem abortPulse_ident (s : State) : s.abortPulse.ident = s.ident :=
  (congrArg State.ident (abortPulse_unacted s) : s.abortPulse.unacted.ident = s.unacted.ident)
@[simp] theorem abortPulse_power (s : State) : s.abortPulse.power = s.power :=
  (congrArg State.power (abortPulse_unacted s) : s.abortPulse.unacted.power = s.unacted.power)
@[simp] theorem abortPulse_arch (s : State) : s.abortPulse.arch = s.arch :=
  (congrArg State.arch (abortPulse_unacted s) : s.abortPulse.unacted.arch = s.unacted.arch)
@[simp] theorem abortPulse_night (s : State) : s.abortPulse.night = s.night :=
  (congrArg State.night (abortPulse_unacted s) : s.abortPulse.unacted.night = s.unacted.night)
@[simp] theorem abortPulse_par (s : State) : s.abortPulse.par = s.par :=
  (congrArg State.par (abortPulse_unacted s) : s.abortPulse.unacted.par = s.unacted.par)
@[simp] theorem abortPulse_links (s : State) : s.abortPulse.links = s.links :=
  (congrArg State.links (abortPulse_unacted s) : s.abortPulse.unacted.links = s.unacted.links)
@[simp] theorem abortPulse_bricks (s : State) : s.abortPulse.bricks = s.bricks :=
  (congrArg State.bricks (abortPulse_unacted s) : s.abortPulse.unacted.bricks = s.unacted.bricks)
@[simp] theorem abortPulse_rows (s : State) : s.abortPulse.rows = s.rows :=
  (congrArg State.rows (abortPulse_unacted s) : s.abortPulse.unacted.rows = s.unacted.rows)
@[simp] theorem abortPulse_rails (s : State) : s.abortPulse.rails = s.rails :=
  (congrArg State.rails (abortPulse_unacted s) : s.abortPulse.unacted.rails = s.unacted.rails)
@[simp] theorem abortPulse_est (s : State) : s.abortPulse.est = s.est :=
  (congrArg State.est (abortPulse_unacted s) : s.abortPulse.unacted.est = s.unacted.est)
@[simp] theorem abortPulse_survey (s : State) : s.abortPulse.survey = s.survey :=
  (congrArg State.survey (abortPulse_unacted s) : s.abortPulse.unacted.survey = s.unacted.survey)
@[simp] theorem abortPulse_loops (s : State) : s.abortPulse.loops = s.loops :=
  (congrArg State.loops (abortPulse_unacted s) : s.abortPulse.unacted.loops = s.unacted.loops)
@[simp] theorem abortPulse_trims (s : State) : s.abortPulse.trims = s.trims :=
  (congrArg State.trims (abortPulse_unacted s) : s.abortPulse.unacted.trims = s.unacted.trims)
@[simp] theorem abortPulse_steer (s : State) : s.abortPulse.steer = s.steer :=
  (congrArg State.steer (abortPulse_unacted s) : s.abortPulse.unacted.steer = s.unacted.steer)
@[simp] theorem abortPulse_twin (s : State) : s.abortPulse.twin = s.twin :=
  (congrArg State.twin (abortPulse_unacted s) : s.abortPulse.unacted.twin = s.unacted.twin)
@[simp] theorem abortPulse_time (s : State) : s.abortPulse.time = s.time :=
  (congrArg State.time (abortPulse_unacted s) : s.abortPulse.unacted.time = s.unacted.time)
@[simp] theorem abortPulse_net (s : State) : s.abortPulse.net = s.net :=
  (congrArg State.net (abortPulse_unacted s) : s.abortPulse.unacted.net = s.unacted.net)
@[simp] theorem abortPulse_bus (s : State) : s.abortPulse.bus = s.bus :=
  (congrArg State.bus (abortPulse_unacted s) : s.abortPulse.unacted.bus = s.unacted.bus)
@[simp] theorem abortPulse_trs (s : State) : s.abortPulse.trs = s.trs :=
  (congrArg State.trs (abortPulse_unacted s) : s.abortPulse.unacted.trs = s.unacted.trs)

@[simp] theorem setMode_pending (s : State) (m : Mode) (c : Nat) : (s.setMode m c).pending = s.pending :=
  (congrArg State.pending (setMode_unacted s m c) : (s.setMode m c).unacted.pending = s.unacted.pending)
@[simp] theorem setMode_freeCtr (s : State) (m : Mode) (c : Nat) : (s.setMode m c).freeCtr = s.freeCtr :=
  (congrArg State.freeCtr (setMode_unacted s m c) : (s.setMode m c).unacted.freeCtr = s.unacted.freeCtr)
@[simp] theorem setMode_ident (s : State) (m : Mode) (c : Nat) : (s.setMode m c).ident = s.ident :=
  (congrArg State.ident (setMode_unacted s m c) : (s.setMode m c).unacted.ident = s.unacted.ident)
@[simp] theorem setMode_power (s : State) (m : Mode) (c : Nat) : (s.setMode m c).power = s.power :=
  (congrArg State.power (setMode_unacted s m c) : (s.setMode m c).unacted.power = s.unacted.power)
@[simp] theorem setMode_arch (s : State) (m : Mode) (c : Nat) : (s.setMode m c).arch = s.arch :=
  (congrArg State.arch (setMode_unacted s m c) : (s.setMode m c).unacted.arch = s.unacted.arch)
@[simp] theorem setMode_night (s : State) (m : Mode) (c : Nat) : (s.setMode m c).night = s.night :=
  (congrArg State.night (setMode_unacted s m c) : (s.setMode m c).unacted.night = s.unacted.night)
@[simp] theorem setMode_par (s : State) (m : Mode) (c : Nat) : (s.setMode m c).par = s.par :=
  (congrArg State.par (setMode_unacted s m c) : (s.setMode m c).unacted.par = s.unacted.par)
@[simp] theorem setMode_links (s : State) (m : Mode) (c : Nat) : (s.setMode m c).links = s.links :=
  (congrArg State.links (setMode_unacted s m c) : (s.setMode m c).unacted.links = s.unacted.links)
@[simp] theorem setMode_bricks (s : State) (m : Mode) (c : Nat) : (s.setMode m c).bricks = s.bricks :=
  (congrArg State.bricks (setMode_unacted s m c) : (s.setMode m c).unacted.bricks = s.unacted.bricks)
@[simp] theorem setMode_rows (s : State) (m : Mode) (c : Nat) : (s.setMode m c).rows = s.rows :=
  (congrArg State.rows (setMode_unacted s m c) : (s.setMode m c).unacted.rows = s.unacted.rows)
@[simp] theorem setMode_rails (s : State) (m : Mode) (c : Nat) : (s.setMode m c).rails = s.rails :=
  (congrArg State.rails (setMode_unacted s m c) : (s.setMode m c).unacted.rails = s.unacted.rails)
@[simp] theorem setMode_est (s : State) (m : Mode) (c : Nat) : (s.setMode m c).est = s.est :=
  (congrArg State.est (setMode_unacted s m c) : (s.setMode m c).unacted.est = s.unacted.est)
@[simp] theorem setMode_survey (s : State) (m : Mode) (c : Nat) : (s.setMode m c).survey = s.survey :=
  (congrArg State.survey (setMode_unacted s m c) : (s.setMode m c).unacted.survey = s.unacted.survey)
@[simp] theorem setMode_loops (s : State) (m : Mode) (c : Nat) : (s.setMode m c).loops = s.loops :=
  (congrArg State.loops (setMode_unacted s m c) : (s.setMode m c).unacted.loops = s.unacted.loops)
@[simp] theorem setMode_trims (s : State) (m : Mode) (c : Nat) : (s.setMode m c).trims = s.trims :=
  (congrArg State.trims (setMode_unacted s m c) : (s.setMode m c).unacted.trims = s.unacted.trims)
@[simp] theorem setMode_steer (s : State) (m : Mode) (c : Nat) : (s.setMode m c).steer = s.steer :=
  (congrArg State.steer (setMode_unacted s m c) : (s.setMode m c).unacted.steer = s.unacted.steer)
@[simp] theorem setMode_twin (s : State) (m : Mode) (c : Nat) : (s.setMode m c).twin = s.twin :=
  (congrArg State.twin (setMode_unacted s m c) : (s.setMode m c).unacted.twin = s.unacted.twin)
@[simp] theorem setMode_time (s : State) (m : Mode) (c : Nat) : (s.setMode m c).time = s.time :=
  (congrArg State.time (setMode_unacted s m c) : (s.setMode m c).unacted.time = s.unacted.time)
@[simp] theorem setMode_net (s : State) (m : Mode) (c : Nat) : (s.setMode m c).net = s.net :=
  (congrArg State.net (setMode_unacted s m c) : (s.setMode m c).unacted.net = s.unacted.net)
@[simp] theorem setMode_bus (s : State) (m : Mode) (c : Nat) : (s.setMode m c).bus = s.bus :=
  (congrArg State.bus (setMode_unacted s m c) : (s.setMode m c).unacted.bus = s.unacted.bus)
@[simp] theorem setMode_trs (s : State) (m : Mode) (c : Nat) : (s.setMode m c).trs = s.trs :=
  (congrArg State.trs (setMode_unacted s m c) : (s.setMode m c).unacted.trs = s.unacted.trs)

@[simp] theorem abandonDormant_pending (s : State) (c : Nat) : (s.abandonDormant c).pending = s.pending :=
  (congrArg State.pending (abandonDormant_unacted s c) : (s.abandonDormant c).unacted.pending = s.unacted.pending)
@[simp] theorem abandonDormant_freeCtr (s : State) (c : Nat) : (s.abandonDormant c).freeCtr = s.freeCtr :=
  (congrArg State.freeCtr (abandonDormant_unacted s c) : (s.abandonDormant c).unacted.freeCtr = s.unacted.freeCtr)
@[simp] theorem abandonDormant_ident (s : State) (c : Nat) : (s.abandonDormant c).ident = s.ident :=
  (congrArg State.ident (abandonDormant_unacted s c) : (s.abandonDormant c).unacted.ident = s.unacted.ident)
@[simp] theorem abandonDormant_power (s : State) (c : Nat) : (s.abandonDormant c).power = s.power :=
  (congrArg State.power (abandonDormant_unacted s c) : (s.abandonDormant c).unacted.power = s.unacted.power)
@[simp] theorem abandonDormant_arch (s : State) (c : Nat) : (s.abandonDormant c).arch = s.arch :=
  (congrArg State.arch (abandonDormant_unacted s c) : (s.abandonDormant c).unacted.arch = s.unacted.arch)
@[simp] theorem abandonDormant_night (s : State) (c : Nat) : (s.abandonDormant c).night = s.night :=
  (congrArg State.night (abandonDormant_unacted s c) : (s.abandonDormant c).unacted.night = s.unacted.night)
@[simp] theorem abandonDormant_par (s : State) (c : Nat) : (s.abandonDormant c).par = s.par :=
  (congrArg State.par (abandonDormant_unacted s c) : (s.abandonDormant c).unacted.par = s.unacted.par)
@[simp] theorem abandonDormant_links (s : State) (c : Nat) : (s.abandonDormant c).links = s.links :=
  (congrArg State.links (abandonDormant_unacted s c) : (s.abandonDormant c).unacted.links = s.unacted.links)
@[simp] theorem abandonDormant_bricks (s : State) (c : Nat) : (s.abandonDormant c).bricks = s.bricks :=
  (congrArg State.bricks (abandonDormant_unacted s c) : (s.abandonDormant c).unacted.bricks = s.unacted.bricks)
@[simp] theorem abandonDormant_rows (s : State) (c : Nat) : (s.abandonDormant c).rows = s.rows :=
  (congrArg State.rows (abandonDormant_unacted s c) : (s.abandonDormant c).unacted.rows = s.unacted.rows)
@[simp] theorem abandonDormant_rails (s : State) (c : Nat) : (s.abandonDormant c).rails = s.rails :=
  (congrArg State.rails (abandonDormant_unacted s c) : (s.abandonDormant c).unacted.rails = s.unacted.rails)
@[simp] theorem abandonDormant_est (s : State) (c : Nat) : (s.abandonDormant c).est = s.est :=
  (congrArg State.est (abandonDormant_unacted s c) : (s.abandonDormant c).unacted.est = s.unacted.est)
@[simp] theorem abandonDormant_survey (s : State) (c : Nat) : (s.abandonDormant c).survey = s.survey :=
  (congrArg State.survey (abandonDormant_unacted s c) : (s.abandonDormant c).unacted.survey = s.unacted.survey)
@[simp] theorem abandonDormant_loops (s : State) (c : Nat) : (s.abandonDormant c).loops = s.loops :=
  (congrArg State.loops (abandonDormant_unacted s c) : (s.abandonDormant c).unacted.loops = s.unacted.loops)
@[simp] theorem abandonDormant_trims (s : State) (c : Nat) : (s.abandonDormant c).trims = s.trims :=
  (congrArg State.trims (abandonDormant_unacted s c) : (s.abandonDormant c).unacted.trims = s.unacted.trims)
@[simp] theorem abandonDormant_steer (s : State) (c : Nat) : (s.abandonDormant c).steer = s.steer :=
  (congrArg State.steer (abandonDormant_unacted s c) : (s.abandonDormant c).unacted.steer = s.unacted.steer)
@[simp] theorem abandonDormant_twin (s : State) (c : Nat) : (s.abandonDormant c).twin = s.twin :=
  (congrArg State.twin (abandonDormant_unacted s c) : (s.abandonDormant c).unacted.twin = s.unacted.twin)
@[simp] theorem abandonDormant_time (s : State) (c : Nat) : (s.abandonDormant c).time = s.time :=
  (congrArg State.time (abandonDormant_unacted s c) : (s.abandonDormant c).unacted.time = s.unacted.time)
@[simp] theorem abandonDormant_net (s : State) (c : Nat) : (s.abandonDormant c).net = s.net :=
  (congrArg State.net (abandonDormant_unacted s c) : (s.abandonDormant c).unacted.net = s.unacted.net)
@[simp] theorem abandonDormant_bus (s : State) (c : Nat) : (s.abandonDormant c).bus = s.bus :=
  (congrArg State.bus (abandonDormant_unacted s c) : (s.abandonDormant c).unacted.bus = s.unacted.bus)
@[simp] theorem abandonDormant_trs (s : State) (c : Nat) : (s.abandonDormant c).trs = s.trs :=
  (congrArg State.trs (abandonDormant_unacted s c) : (s.abandonDormant c).unacted.trs = s.unacted.trs)

@[simp] theorem stopProgram_pending (s : State) (c : Nat) : (s.stopProgram c).pending = s.pending :=
  (congrArg State.pending (stopProgram_unacted s c) : (s.stopProgram c).unacted.pending = s.unacted.pending)
@[simp] theorem stopProgram_freeCtr (s : State) (c : Nat) : (s.stopProgram c).freeCtr = s.freeCtr :=
  (congrArg State.freeCtr (stopProgram_unacted s c) : (s.stopProgram c).unacted.freeCtr = s.unacted.freeCtr)
@[simp] theorem stopProgram_ident (s : State) (c : Nat) : (s.stopProgram c).ident = s.ident :=
  (congrArg State.ident (stopProgram_unacted s c) : (s.stopProgram c).unacted.ident = s.unacted.ident)
@[simp] theorem stopProgram_power (s : State) (c : Nat) : (s.stopProgram c).power = s.power :=
  (congrArg State.power (stopProgram_unacted s c) : (s.stopProgram c).unacted.power = s.unacted.power)
@[simp] theorem stopProgram_arch (s : State) (c : Nat) : (s.stopProgram c).arch = s.arch :=
  (congrArg State.arch (stopProgram_unacted s c) : (s.stopProgram c).unacted.arch = s.unacted.arch)
@[simp] theorem stopProgram_night (s : State) (c : Nat) : (s.stopProgram c).night = s.night :=
  (congrArg State.night (stopProgram_unacted s c) : (s.stopProgram c).unacted.night = s.unacted.night)
@[simp] theorem stopProgram_par (s : State) (c : Nat) : (s.stopProgram c).par = s.par :=
  (congrArg State.par (stopProgram_unacted s c) : (s.stopProgram c).unacted.par = s.unacted.par)
@[simp] theorem stopProgram_links (s : State) (c : Nat) : (s.stopProgram c).links = s.links :=
  (congrArg State.links (stopProgram_unacted s c) : (s.stopProgram c).unacted.links = s.unacted.links)
@[simp] theorem stopProgram_bricks (s : State) (c : Nat) : (s.stopProgram c).bricks = s.bricks :=
  (congrArg State.bricks (stopProgram_unacted s c) : (s.stopProgram c).unacted.bricks = s.unacted.bricks)
@[simp] theorem stopProgram_rows (s : State) (c : Nat) : (s.stopProgram c).rows = s.rows :=
  (congrArg State.rows (stopProgram_unacted s c) : (s.stopProgram c).unacted.rows = s.unacted.rows)
@[simp] theorem stopProgram_rails (s : State) (c : Nat) : (s.stopProgram c).rails = s.rails :=
  (congrArg State.rails (stopProgram_unacted s c) : (s.stopProgram c).unacted.rails = s.unacted.rails)
@[simp] theorem stopProgram_est (s : State) (c : Nat) : (s.stopProgram c).est = s.est :=
  (congrArg State.est (stopProgram_unacted s c) : (s.stopProgram c).unacted.est = s.unacted.est)
@[simp] theorem stopProgram_survey (s : State) (c : Nat) : (s.stopProgram c).survey = s.survey :=
  (congrArg State.survey (stopProgram_unacted s c) : (s.stopProgram c).unacted.survey = s.unacted.survey)
@[simp] theorem stopProgram_loops (s : State) (c : Nat) : (s.stopProgram c).loops = s.loops :=
  (congrArg State.loops (stopProgram_unacted s c) : (s.stopProgram c).unacted.loops = s.unacted.loops)
@[simp] theorem stopProgram_trims (s : State) (c : Nat) : (s.stopProgram c).trims = s.trims :=
  (congrArg State.trims (stopProgram_unacted s c) : (s.stopProgram c).unacted.trims = s.unacted.trims)
@[simp] theorem stopProgram_steer (s : State) (c : Nat) : (s.stopProgram c).steer = s.steer :=
  (congrArg State.steer (stopProgram_unacted s c) : (s.stopProgram c).unacted.steer = s.unacted.steer)
@[simp] theorem stopProgram_twin (s : State) (c : Nat) : (s.stopProgram c).twin = s.twin :=
  (congrArg State.twin (stopProgram_unacted s c) : (s.stopProgram c).unacted.twin = s.unacted.twin)
@[simp] theorem stopProgram_time (s : State) (c : Nat) : (s.stopProgram c).time = s.time :=
  (congrArg State.time (stopProgram_unacted s c) : (s.stopProgram c).unacted.time = s.unacted.time)
@[simp] theorem stopProgram_net (s : State) (c : Nat) : (s.stopProgram c).net = s.net :=
  (congrArg State.net (stopProgram_unacted s c) : (s.stopProgram c).unacted.net = s.unacted.net)
@[simp] theorem stopProgram_bus (s : State) (c : Nat) : (s.stopProgram c).bus = s.bus :=
  (congrArg State.bus (stopProgram_unacted s c) : (s.stopProgram c).unacted.bus = s.unacted.bus)
@[simp] theorem stopProgram_trs (s : State) (c : Nat) : (s.stopProgram c).trs = s.trs :=
  (congrArg State.trs (stopProgram_unacted s c) : (s.stopProgram c).unacted.trs = s.unacted.trs)

@[simp] theorem setProgram_pending (s : State) (n : Nat) : (s.setProgram n).pending = s.pending :=
  (congrArg State.pending (setProgram_unacted s n) : (s.setProgram n).unacted.pending = s.unacted.pending)
@[simp] theorem setProgram_freeCtr (s : State) (n : Nat) : (s.setProgram n).freeCtr = s.freeCtr :=
  (congrArg State.freeCtr (setProgram_unacted s n) : (s.setProgram n).unacted.freeCtr = s.unacted.freeCtr)
@[simp] theorem setProgram_ident (s : State) (n : Nat) : (s.setProgram n).ident = s.ident :=
  (congrArg State.ident (setProgram_unacted s n) : (s.setProgram n).unacted.ident = s.unacted.ident)
@[simp] theorem setProgram_power (s : State) (n : Nat) : (s.setProgram n).power = s.power :=
  (congrArg State.power (setProgram_unacted s n) : (s.setProgram n).unacted.power = s.unacted.power)
@[simp] theorem setProgram_arch (s : State) (n : Nat) : (s.setProgram n).arch = s.arch :=
  (congrArg State.arch (setProgram_unacted s n) : (s.setProgram n).unacted.arch = s.unacted.arch)
@[simp] theorem setProgram_night (s : State) (n : Nat) : (s.setProgram n).night = s.night :=
  (congrArg State.night (setProgram_unacted s n) : (s.setProgram n).unacted.night = s.unacted.night)
@[simp] theorem setProgram_par (s : State) (n : Nat) : (s.setProgram n).par = s.par :=
  (congrArg State.par (setProgram_unacted s n) : (s.setProgram n).unacted.par = s.unacted.par)
@[simp] theorem setProgram_links (s : State) (n : Nat) : (s.setProgram n).links = s.links :=
  (congrArg State.links (setProgram_unacted s n) : (s.setProgram n).unacted.links = s.unacted.links)
@[simp] theorem setProgram_bricks (s : State) (n : Nat) : (s.setProgram n).bricks = s.bricks :=
  (congrArg State.bricks (setProgram_unacted s n) : (s.setProgram n).unacted.bricks = s.unacted.bricks)
@[simp] theorem setProgram_rows (s : State) (n : Nat) : (s.setProgram n).rows = s.rows :=
  (congrArg State.rows (setProgram_unacted s n) : (s.setProgram n).unacted.rows = s.unacted.rows)
@[simp] theorem setProgram_rails (s : State) (n : Nat) : (s.setProgram n).rails = s.rails :=
  (congrArg State.rails (setProgram_unacted s n) : (s.setProgram n).unacted.rails = s.unacted.rails)
@[simp] theorem setProgram_est (s : State) (n : Nat) : (s.setProgram n).est = s.est :=
  (congrArg State.est (setProgram_unacted s n) : (s.setProgram n).unacted.est = s.unacted.est)
@[simp] theorem setProgram_survey (s : State) (n : Nat) : (s.setProgram n).survey = s.survey :=
  (congrArg State.survey (setProgram_unacted s n) : (s.setProgram n).unacted.survey = s.unacted.survey)
@[simp] theorem setProgram_loops (s : State) (n : Nat) : (s.setProgram n).loops = s.loops :=
  (congrArg State.loops (setProgram_unacted s n) : (s.setProgram n).unacted.loops = s.unacted.loops)
@[simp] theorem setProgram_trims (s : State) (n : Nat) : (s.setProgram n).trims = s.trims :=
  (congrArg State.trims (setProgram_unacted s n) : (s.setProgram n).unacted.trims = s.unacted.trims)
@[simp] theorem setProgram_steer (s : State) (n : Nat) : (s.setProgram n).steer = s.steer :=
  (congrArg State.steer (setProgram_unacted s n) : (s.setProgram n).unacted.steer = s.unacted.steer)
@[simp] theorem setProgram_twin (s : State) (n : Nat) : (s.setProgram n).twin = s.twin :=
  (congrArg State.twin (setProgram_unacted s n) : (s.setProgram n).unacted.twin = s.unacted.twin)
@[simp] theorem setProgram_time (s : State) (n : Nat) : (s.setProgram n).time = s.time :=
  (congrArg State.time (setProgram_unacted s n) : (s.setProgram n).unacted.time = s.unacted.time)
@[simp] theorem setProgram_net (s : State) (n : Nat) : (s.setProgram n).net = s.net :=
  (congrArg State.net (setProgram_unacted s n) : (s.setProgram n).unacted.net = s.unacted.net)
@[simp] theorem setProgram_bus (s : State) (n : Nat) : (s.setProgram n).bus = s.bus :=
  (congrArg State.bus (setProgram_unacted s n) : (s.setProgram n).unacted.bus = s.unacted.bus)
@[simp] theorem setProgram_trs (s : State) (n : Nat) : (s.setProgram n).trs = s.trs :=
  (congrArg State.trs (setProgram_unacted s n) : (s.setProgram n).unacted.trs = s.unacted.trs)

@[simp] theorem startStop_pending (s : State) (c : Nat) : (s.startStop c).pending = s.pending :=
  (congrArg State.pending (startStop_unacted s c) : (s.startStop c).unacted.pending = s.unacted.pending)
@[simp] theorem startStop_freeCtr (s : State) (c : Nat) : (s.startStop c).freeCtr = s.freeCtr :=
  (congrArg State.freeCtr (startStop_unacted s c) : (s.startStop c).unacted.freeCtr = s.unacted.freeCtr)
@[simp] theorem startStop_ident (s : State) (c : Nat) : (s.startStop c).ident = s.ident :=
  (congrArg State.ident (startStop_unacted s c) : (s.startStop c).unacted.ident = s.unacted.ident)
@[simp] theorem startStop_power (s : State) (c : Nat) : (s.startStop c).power = s.power :=
  (congrArg State.power (startStop_unacted s c) : (s.startStop c).unacted.power = s.unacted.power)
@[simp] theorem startStop_arch (s : State) (c : Nat) : (s.startStop c).arch = s.arch :=
  (congrArg State.arch (startStop_unacted s c) : (s.startStop c).unacted.arch = s.unacted.arch)
@[simp] theorem startStop_night (s : State) (c : Nat) : (s.startStop c).night = s.night :=
  (congrArg State.night (startStop_unacted s c) : (s.startStop c).unacted.night = s.unacted.night)
@[simp] theorem startStop_par (s : State) (c : Nat) : (s.startStop c).par = s.par :=
  (congrArg State.par (startStop_unacted s c) : (s.startStop c).unacted.par = s.unacted.par)
@[simp] theorem startStop_links (s : State) (c : Nat) : (s.startStop c).links = s.links :=
  (congrArg State.links (startStop_unacted s c) : (s.startStop c).unacted.links = s.unacted.links)
@[simp] theorem startStop_bricks (s : State) (c : Nat) : (s.startStop c).bricks = s.bricks :=
  (congrArg State.bricks (startStop_unacted s c) : (s.startStop c).unacted.bricks = s.unacted.bricks)
@[simp] theorem startStop_rows (s : State) (c : Nat) : (s.startStop c).rows = s.rows :=
  (congrArg State.rows (startStop_unacted s c) : (s.startStop c).unacted.rows = s.unacted.rows)
@[simp] theorem startStop_rails (s : State) (c : Nat) : (s.startStop c).rails = s.rails :=
  (congrArg State.rails (startStop_unacted s c) : (s.startStop c).unacted.rails = s.unacted.rails)
@[simp] theorem startStop_est (s : State) (c : Nat) : (s.startStop c).est = s.est :=
  (congrArg State.est (startStop_unacted s c) : (s.startStop c).unacted.est = s.unacted.est)
@[simp] theorem startStop_survey (s : State) (c : Nat) : (s.startStop c).survey = s.survey :=
  (congrArg State.survey (startStop_unacted s c) : (s.startStop c).unacted.survey = s.unacted.survey)
@[simp] theorem startStop_loops (s : State) (c : Nat) : (s.startStop c).loops = s.loops :=
  (congrArg State.loops (startStop_unacted s c) : (s.startStop c).unacted.loops = s.unacted.loops)
@[simp] theorem startStop_trims (s : State) (c : Nat) : (s.startStop c).trims = s.trims :=
  (congrArg State.trims (startStop_unacted s c) : (s.startStop c).unacted.trims = s.unacted.trims)
@[simp] theorem startStop_steer (s : State) (c : Nat) : (s.startStop c).steer = s.steer :=
  (congrArg State.steer (startStop_unacted s c) : (s.startStop c).unacted.steer = s.unacted.steer)
@[simp] theorem startStop_twin (s : State) (c : Nat) : (s.startStop c).twin = s.twin :=
  (congrArg State.twin (startStop_unacted s c) : (s.startStop c).unacted.twin = s.unacted.twin)
@[simp] theorem startStop_time (s : State) (c : Nat) : (s.startStop c).time = s.time :=
  (congrArg State.time (startStop_unacted s c) : (s.startStop c).unacted.time = s.unacted.time)
@[simp] theorem startStop_net (s : State) (c : Nat) : (s.startStop c).net = s.net :=
  (congrArg State.net (startStop_unacted s c) : (s.startStop c).unacted.net = s.unacted.net)
@[simp] theorem startStop_bus (s : State) (c : Nat) : (s.startStop c).bus = s.bus :=
  (congrArg State.bus (startStop_unacted s c) : (s.startStop c).unacted.bus = s.unacted.bus)
@[simp] theorem startStop_trs (s : State) (c : Nat) : (s.startStop c).trs = s.trs :=
  (congrArg State.trs (startStop_unacted s c) : (s.startStop c).unacted.trs = s.unacted.trs)

@[simp] theorem gradeAction_pending (s : State) (x i g : Nat) (b : Bool) : (s.gradeAction x i g b).pending = s.pending :=
  (congrArg State.pending (gradeAction_unacted s x i g b) : (s.gradeAction x i g b).unacted.pending = s.unacted.pending)
@[simp] theorem gradeAction_freeCtr (s : State) (x i g : Nat) (b : Bool) : (s.gradeAction x i g b).freeCtr = s.freeCtr :=
  (congrArg State.freeCtr (gradeAction_unacted s x i g b) : (s.gradeAction x i g b).unacted.freeCtr = s.unacted.freeCtr)
@[simp] theorem gradeAction_ident (s : State) (x i g : Nat) (b : Bool) : (s.gradeAction x i g b).ident = s.ident :=
  (congrArg State.ident (gradeAction_unacted s x i g b) : (s.gradeAction x i g b).unacted.ident = s.unacted.ident)
@[simp] theorem gradeAction_power (s : State) (x i g : Nat) (b : Bool) : (s.gradeAction x i g b).power = s.power :=
  (congrArg State.power (gradeAction_unacted s x i g b) : (s.gradeAction x i g b).unacted.power = s.unacted.power)
@[simp] theorem gradeAction_arch (s : State) (x i g : Nat) (b : Bool) : (s.gradeAction x i g b).arch = s.arch :=
  (congrArg State.arch (gradeAction_unacted s x i g b) : (s.gradeAction x i g b).unacted.arch = s.unacted.arch)
@[simp] theorem gradeAction_night (s : State) (x i g : Nat) (b : Bool) : (s.gradeAction x i g b).night = s.night :=
  (congrArg State.night (gradeAction_unacted s x i g b) : (s.gradeAction x i g b).unacted.night = s.unacted.night)
@[simp] theorem gradeAction_par (s : State) (x i g : Nat) (b : Bool) : (s.gradeAction x i g b).par = s.par :=
  (congrArg State.par (gradeAction_unacted s x i g b) : (s.gradeAction x i g b).unacted.par = s.unacted.par)
@[simp] theorem gradeAction_links (s : State) (x i g : Nat) (b : Bool) : (s.gradeAction x i g b).links = s.links :=
  (congrArg State.links (gradeAction_unacted s x i g b) : (s.gradeAction x i g b).unacted.links = s.unacted.links)
@[simp] theorem gradeAction_bricks (s : State) (x i g : Nat) (b : Bool) : (s.gradeAction x i g b).bricks = s.bricks :=
  (congrArg State.bricks (gradeAction_unacted s x i g b) : (s.gradeAction x i g b).unacted.bricks = s.unacted.bricks)
@[simp] theorem gradeAction_rows (s : State) (x i g : Nat) (b : Bool) : (s.gradeAction x i g b).rows = s.rows :=
  (congrArg State.rows (gradeAction_unacted s x i g b) : (s.gradeAction x i g b).unacted.rows = s.unacted.rows)
@[simp] theorem gradeAction_rails (s : State) (x i g : Nat) (b : Bool) : (s.gradeAction x i g b).rails = s.rails :=
  (congrArg State.rails (gradeAction_unacted s x i g b) : (s.gradeAction x i g b).unacted.rails = s.unacted.rails)
@[simp] theorem gradeAction_est (s : State) (x i g : Nat) (b : Bool) : (s.gradeAction x i g b).est = s.est :=
  (congrArg State.est (gradeAction_unacted s x i g b) : (s.gradeAction x i g b).unacted.est = s.unacted.est)
@[simp] theorem gradeAction_survey (s : State) (x i g : Nat) (b : Bool) : (s.gradeAction x i g b).survey = s.survey :=
  (congrArg State.survey (gradeAction_unacted s x i g b) : (s.gradeAction x i g b).unacted.survey = s.unacted.survey)
@[simp] theorem gradeAction_loops (s : State) (x i g : Nat) (b : Bool) : (s.gradeAction x i g b).loops = s.loops :=
  (congrArg State.loops (gradeAction_unacted s x i g b) : (s.gradeAction x i g b).unacted.loops = s.unacted.loops)
@[simp] theorem gradeAction_trims (s : State) (x i g : Nat) (b : Bool) : (s.gradeAction x i g b).trims = s.trims :=
  (congrArg State.trims (gradeAction_unacted s x i g b) : (s.gradeAction x i g b).unacted.trims = s.unacted.trims)
@[simp] theorem gradeAction_steer (s : State) (x i g : Nat) (b : Bool) : (s.gradeAction x i g b).steer = s.steer :=
  (congrArg State.steer (gradeAction_unacted s x i g b) : (s.gradeAction x i g b).unacted.steer = s.unacted.steer)
@[simp] theorem gradeAction_twin (s : State) (x i g : Nat) (b : Bool) : (s.gradeAction x i g b).twin = s.twin :=
  (congrArg State.twin (gradeAction_unacted s x i g b) : (s.gradeAction x i g b).unacted.twin = s.unacted.twin)
@[simp] theorem gradeAction_time (s : State) (x i g : Nat) (b : Bool) : (s.gradeAction x i g b).time = s.time :=
  (congrArg State.time (gradeAction_unacted s x i g b) : (s.gradeAction x i g b).unacted.time = s.unacted.time)
@[simp] theorem gradeAction_net (s : State) (x i g : Nat) (b : Bool) : (s.gradeAction x i g b).net = s.net :=
  (congrArg State.net (gradeAction_unacted s x i g b) : (s.gradeAction x i g b).unacted.net = s.unacted.net)
@[simp] theorem gradeAction_bus (s : State) (x i g : Nat) (b : Bool) : (s.gradeAction x i g b).bus = s.bus :=
  (congrArg State.bus (gradeAction_unacted s x i g b) : (s.gradeAction x i g b).unacted.bus = s.unacted.bus)
@[simp] theorem gradeAction_trs (s : State) (x i g : Nat) (b : Bool) : (s.gradeAction x i g b).trs = s.trs :=
  (congrArg State.trs (gradeAction_unacted s x i g b) : (s.gradeAction x i g b).unacted.trs = s.unacted.trs)

@[simp] theorem thermalShutdown_pending (s : State) (x i : Nat) : (s.thermalShutdown x i).pending = s.pending :=
  (congrArg State.pending (thermalShutdown_unacted s x i) : (s.thermalShutdown x i).unacted.pending = s.unacted.pending)
@[simp] theorem thermalShutdown_freeCtr (s : State) (x i : Nat) : (s.thermalShutdown x i).freeCtr = s.freeCtr :=
  (congrArg State.freeCtr (thermalShutdown_unacted s x i) : (s.thermalShutdown x i).unacted.freeCtr = s.unacted.freeCtr)
@[simp] theorem thermalShutdown_ident (s : State) (x i : Nat) : (s.thermalShutdown x i).ident = s.ident :=
  (congrArg State.ident (thermalShutdown_unacted s x i) : (s.thermalShutdown x i).unacted.ident = s.unacted.ident)
@[simp] theorem thermalShutdown_power (s : State) (x i : Nat) : (s.thermalShutdown x i).power = s.power :=
  (congrArg State.power (thermalShutdown_unacted s x i) : (s.thermalShutdown x i).unacted.power = s.unacted.power)
@[simp] theorem thermalShutdown_arch (s : State) (x i : Nat) : (s.thermalShutdown x i).arch = s.arch :=
  (congrArg State.arch (thermalShutdown_unacted s x i) : (s.thermalShutdown x i).unacted.arch = s.unacted.arch)
@[simp] theorem thermalShutdown_night (s : State) (x i : Nat) : (s.thermalShutdown x i).night = s.night :=
  (congrArg State.night (thermalShutdown_unacted s x i) : (s.thermalShutdown x i).unacted.night = s.unacted.night)
@[simp] theorem thermalShutdown_par (s : State) (x i : Nat) : (s.thermalShutdown x i).par = s.par :=
  (congrArg State.par (thermalShutdown_unacted s x i) : (s.thermalShutdown x i).unacted.par = s.unacted.par)
@[simp] theorem thermalShutdown_links (s : State) (x i : Nat) : (s.thermalShutdown x i).links = s.links :=
  (congrArg State.links (thermalShutdown_unacted s x i) : (s.thermalShutdown x i).unacted.links = s.unacted.links)
@[simp] theorem thermalShutdown_bricks (s : State) (x i : Nat) : (s.thermalShutdown x i).bricks = s.bricks :=
  (congrArg State.bricks (thermalShutdown_unacted s x i) : (s.thermalShutdown x i).unacted.bricks = s.unacted.bricks)
@[simp] theorem thermalShutdown_rows (s : State) (x i : Nat) : (s.thermalShutdown x i).rows = s.rows :=
  (congrArg State.rows (thermalShutdown_unacted s x i) : (s.thermalShutdown x i).unacted.rows = s.unacted.rows)
@[simp] theorem thermalShutdown_rails (s : State) (x i : Nat) : (s.thermalShutdown x i).rails = s.rails :=
  (congrArg State.rails (thermalShutdown_unacted s x i) : (s.thermalShutdown x i).unacted.rails = s.unacted.rails)
@[simp] theorem thermalShutdown_est (s : State) (x i : Nat) : (s.thermalShutdown x i).est = s.est :=
  (congrArg State.est (thermalShutdown_unacted s x i) : (s.thermalShutdown x i).unacted.est = s.unacted.est)
@[simp] theorem thermalShutdown_survey (s : State) (x i : Nat) : (s.thermalShutdown x i).survey = s.survey :=
  (congrArg State.survey (thermalShutdown_unacted s x i) : (s.thermalShutdown x i).unacted.survey = s.unacted.survey)
@[simp] theorem thermalShutdown_loops (s : State) (x i : Nat) : (s.thermalShutdown x i).loops = s.loops :=
  (congrArg State.loops (thermalShutdown_unacted s x i) : (s.thermalShutdown x i).unacted.loops = s.unacted.loops)
@[simp] theorem thermalShutdown_trims (s : State) (x i : Nat) : (s.thermalShutdown x i).trims = s.trims :=
  (congrArg State.trims (thermalShutdown_unacted s x i) : (s.thermalShutdown x i).unacted.trims = s.unacted.trims)
@[simp] theorem thermalShutdown_steer (s : State) (x i : Nat) : (s.thermalShutdown x i).steer = s.steer :=
  (congrArg State.steer (thermalShutdown_unacted s x i) : (s.thermalShutdown x i).unacted.steer = s.unacted.steer)
@[simp] theorem thermalShutdown_twin (s : State) (x i : Nat) : (s.thermalShutdown x i).twin = s.twin :=
  (congrArg State.twin (thermalShutdown_unacted s x i) : (s.thermalShutdown x i).unacted.twin = s.unacted.twin)
@[simp] theorem thermalShutdown_time (s : State) (x i : Nat) : (s.thermalShutdown x i).time = s.time :=
  (congrArg State.time (thermalShutdown_unacted s x i) : (s.thermalShutdown x i).unacted.time = s.unacted.time)
@[simp] theorem thermalShutdown_net (s : State) (x i : Nat) : (s.thermalShutdown x i).net = s.net :=
  (congrArg State.net (thermalShutdown_unacted s x i) : (s.thermalShutdown x i).unacted.net = s.unacted.net)
@[simp] theorem thermalShutdown_bus (s : State) (x i : Nat) : (s.thermalShutdown x i).bus = s.bus :=
  (congrArg State.bus (thermalShutdown_unacted s x i) : (s.thermalShutdown x i).unacted.bus = s.unacted.bus)
@[simp] theorem thermalShutdown_trs (s : State) (x i : Nat) : (s.thermalShutdown x i).trs = s.trs :=
  (congrArg State.trs (thermalShutdown_unacted s x i) : (s.thermalShutdown x i).unacted.trs = s.unacted.trs)

@[simp] theorem abandonWrite_pending (s : State) (c : Nat) : (s.abandonWrite c).pending = s.pending :=
  (congrArg State.pending (abandonWrite_unacted s c) : (s.abandonWrite c).unacted.pending = s.unacted.pending)
@[simp] theorem abandonWrite_freeCtr (s : State) (c : Nat) : (s.abandonWrite c).freeCtr = s.freeCtr :=
  (congrArg State.freeCtr (abandonWrite_unacted s c) : (s.abandonWrite c).unacted.freeCtr = s.unacted.freeCtr)
@[simp] theorem abandonWrite_ident (s : State) (c : Nat) : (s.abandonWrite c).ident = s.ident :=
  (congrArg State.ident (abandonWrite_unacted s c) : (s.abandonWrite c).unacted.ident = s.unacted.ident)
@[simp] theorem abandonWrite_power (s : State) (c : Nat) : (s.abandonWrite c).power = s.power :=
  (congrArg State.power (abandonWrite_unacted s c) : (s.abandonWrite c).unacted.power = s.unacted.power)
@[simp] theorem abandonWrite_arch (s : State) (c : Nat) : (s.abandonWrite c).arch = s.arch :=
  (congrArg State.arch (abandonWrite_unacted s c) : (s.abandonWrite c).unacted.arch = s.unacted.arch)
@[simp] theorem abandonWrite_night (s : State) (c : Nat) : (s.abandonWrite c).night = s.night :=
  (congrArg State.night (abandonWrite_unacted s c) : (s.abandonWrite c).unacted.night = s.unacted.night)
@[simp] theorem abandonWrite_par (s : State) (c : Nat) : (s.abandonWrite c).par = s.par :=
  (congrArg State.par (abandonWrite_unacted s c) : (s.abandonWrite c).unacted.par = s.unacted.par)
@[simp] theorem abandonWrite_links (s : State) (c : Nat) : (s.abandonWrite c).links = s.links :=
  (congrArg State.links (abandonWrite_unacted s c) : (s.abandonWrite c).unacted.links = s.unacted.links)
@[simp] theorem abandonWrite_bricks (s : State) (c : Nat) : (s.abandonWrite c).bricks = s.bricks :=
  (congrArg State.bricks (abandonWrite_unacted s c) : (s.abandonWrite c).unacted.bricks = s.unacted.bricks)
@[simp] theorem abandonWrite_rows (s : State) (c : Nat) : (s.abandonWrite c).rows = s.rows :=
  (congrArg State.rows (abandonWrite_unacted s c) : (s.abandonWrite c).unacted.rows = s.unacted.rows)
@[simp] theorem abandonWrite_rails (s : State) (c : Nat) : (s.abandonWrite c).rails = s.rails :=
  (congrArg State.rails (abandonWrite_unacted s c) : (s.abandonWrite c).unacted.rails = s.unacted.rails)
@[simp] theorem abandonWrite_est (s : State) (c : Nat) : (s.abandonWrite c).est = s.est :=
  (congrArg State.est (abandonWrite_unacted s c) : (s.abandonWrite c).unacted.est = s.unacted.est)
@[simp] theorem abandonWrite_survey (s : State) (c : Nat) : (s.abandonWrite c).survey = s.survey :=
  (congrArg State.survey (abandonWrite_unacted s c) : (s.abandonWrite c).unacted.survey = s.unacted.survey)
@[simp] theorem abandonWrite_loops (s : State) (c : Nat) : (s.abandonWrite c).loops = s.loops :=
  (congrArg State.loops (abandonWrite_unacted s c) : (s.abandonWrite c).unacted.loops = s.unacted.loops)
@[simp] theorem abandonWrite_trims (s : State) (c : Nat) : (s.abandonWrite c).trims = s.trims :=
  (congrArg State.trims (abandonWrite_unacted s c) : (s.abandonWrite c).unacted.trims = s.unacted.trims)
@[simp] theorem abandonWrite_steer (s : State) (c : Nat) : (s.abandonWrite c).steer = s.steer :=
  (congrArg State.steer (abandonWrite_unacted s c) : (s.abandonWrite c).unacted.steer = s.unacted.steer)
@[simp] theorem abandonWrite_twin (s : State) (c : Nat) : (s.abandonWrite c).twin = s.twin :=
  (congrArg State.twin (abandonWrite_unacted s c) : (s.abandonWrite c).unacted.twin = s.unacted.twin)
@[simp] theorem abandonWrite_time (s : State) (c : Nat) : (s.abandonWrite c).time = s.time :=
  (congrArg State.time (abandonWrite_unacted s c) : (s.abandonWrite c).unacted.time = s.unacted.time)
@[simp] theorem abandonWrite_net (s : State) (c : Nat) : (s.abandonWrite c).net = s.net :=
  (congrArg State.net (abandonWrite_unacted s c) : (s.abandonWrite c).unacted.net = s.unacted.net)
@[simp] theorem abandonWrite_bus (s : State) (c : Nat) : (s.abandonWrite c).bus = s.bus :=
  (congrArg State.bus (abandonWrite_unacted s c) : (s.abandonWrite c).unacted.bus = s.unacted.bus)
@[simp] theorem abandonWrite_trs (s : State) (c : Nat) : (s.abandonWrite c).trs = s.trs :=
  (congrArg State.trs (abandonWrite_unacted s c) : (s.abandonWrite c).unacted.trs = s.unacted.trs)

end Sys2Proof.Machine
end

