-- ==== Sys2Proof/Laws/Faults.lean ====
section
/-! SUPPORT. The fault collector: which operations leave it alone, and that a fault raised is present. -/

namespace Sys2Proof.Machine

open Sys2Proof

theorem forAll_flt {α : Type} {f : α → State → State} (h : ∀ a s, (f a s).flt = s.flt) (l : List α) (s : State) :
    (s.forAll l f).flt = s.flt := forAll_keep State.flt h l s

@[simp] theorem when_flt (s : State) (c : Bool) (f : State → State) :
    (s.when c f).flt = if c then (f s).flt else s.flt := by unfold State.when; split <;> rfl

@[simp] theorem modSlot_flt (s : State) (i : Nat) (f : HostSlot → HostSlot) : (s.modSlot i f).flt = s.flt := rfl
@[simp] theorem queueVault_flt (s : State) (o : Nat) : (s.queueVault o).flt = s.flt := rfl
@[simp] theorem openH_flt (s : State) : s.openH.flt = s.flt := rfl
@[simp] theorem modFlt_flt (s : State) (f : Faults → Faults) : (s.modFlt f).flt = f s.flt := rfl

@[simp] theorem slip_flt (s : State) (c : Nat) (l : List (Nat × Nat)) (x g : Nat) : (s.slip c l x g).flt = s.flt :=
  forAll_flt (fun i t => modSlot_flt t i _) _ _

@[simp] theorem dayNew_flt (s : State) (c a t : Nat) : (s.dayNew c a t).flt = s.flt := by
  unfold State.dayNew; split <;> rfl

@[simp] theorem dayAt_flt (s : State) (c a t : Nat) : (s.dayAt c a t).flt = s.flt := by
  unfold State.dayAt
  dsimp only
  repeat' split
  all_goals simp

@[simp] theorem day_flt (s : State) (c a : Nat) : (s.day c a).flt = s.flt := by simp [State.day]
@[simp] theorem dayFault_flt (s : State) (i : FaultInst) (a : Nat) : (s.dayFault i a).flt = s.flt := by simp [State.dayFault]
@[simp] theorem dayRaise_flt (s : State) (i : FaultInst) (a : Nat) : (s.dayRaise i a).flt = s.flt := by simp [State.dayRaise]

@[simp] theorem dayRepeat_flt (s : State) (i : FaultInst) : (s.dayRepeat i).flt = s.flt := by
  unfold State.dayRepeat
  dsimp only
  repeat' split
  all_goals simp

@[simp] theorem notice_flt (s : State) (p : Bool) (c x g r b : Nat) : (s.notice p c x g r b).flt = s.flt := by
  simp [State.notice]

@[simp] theorem ledAdd_flt (s : State) (k o n : Nat) : (s.ledAdd k o n).flt = s.flt := by simp [State.ledAdd, State.modLed]

@[simp] theorem setMode_flt (s : State) (m : Mode) (c : Nat) : (s.setMode m c).flt = s.flt := by
  unfold State.setMode; split <;> simp

@[simp] theorem setProgram_flt (s : State) (n : Nat) : (s.setProgram n).flt = s.flt := by simp [State.setProgram]

@[simp] theorem stopProgram_flt (s : State) (c : Nat) : (s.stopProgram c).flt = s.flt := by
  unfold State.stopProgram; split <;> simp

@[simp] theorem abortPulse_flt (s : State) : s.abortPulse.flt = s.flt := by unfold State.abortPulse; split <;> simp

@[simp] theorem failClose_flt (s : State) (c : Nat) : (s.failClose c).flt = s.flt := by unfold State.failClose; split <;> simp

@[simp] theorem openAll_flt (s : State) (c : Nat) : (s.openAll c).flt = s.flt := by simp [State.openAll, State.tripProfile]

@[simp] theorem startStop_flt (s : State) (c : Nat) : (s.startStop c).flt = s.flt := by unfold State.startStop; split <;> simp

@[simp] theorem stopAny_flt (s : State) (c : Nat) : (s.stopAny c).flt = s.flt := by
  unfold State.stopAny
  repeat' split
  all_goals simp

@[simp] theorem abandonDormant_flt (s : State) (c : Nat) : (s.abandonDormant c).flt = s.flt := by
  unfold State.abandonDormant; split <;> simp

@[simp] theorem abandonPlan_flt (s : State) : s.abandonPlan.flt = s.flt := by unfold State.abandonPlan; split <;> simp

@[simp] theorem abandonWrite_flt (s : State) (c : Nat) : (s.abandonWrite c).flt = s.flt := by
  unfold State.abandonWrite
  dsimp only
  split <;> split <;> simp

@[simp] theorem giveUp_flt (s : State) (c : Nat) : (s.giveUp c).flt = s.flt := by
  unfold State.giveUp
  dsimp only
  split <;> simp

@[simp] theorem dueAgain_flt (s : State) (w : Writing) : (s.dueAgain w).flt = s.flt := by
  unfold State.dueAgain
  dsimp only
  repeat' split
  all_goals simp

@[simp] theorem lockoutVault_flt (s : State) (c : Nat) : (s.lockoutVault c).flt = s.flt := by
  unfold State.lockoutVault
  dsimp only
  repeat' split
  all_goals simp

@[simp] theorem lockout_flt (s : State) (x i : Nat) : (s.lockout x i).flt = s.flt := by
  simp [State.lockout]

@[simp] theorem enterLockout_flt (s : State) (x i : Nat) : (s.enterLockout x i).flt = s.flt := by
  unfold State.enterLockout; split <;> simp

/-- The action of a grade leaves the fault collector alone. -/
@[simp] theorem gradeAction_flt (s : State) (x i g : Nat) (b : Bool) : (s.gradeAction x i g b).flt = s.flt := by
  simp [State.gradeAction]

theorem same_self (i : FaultInst) : i.same i.source i.item i.signal = true := by simp [FaultInst.same]

/-- A list changed in place, the key of every element kept, still has the element sought. -/
theorem find_map_isSome {α : Type} (p : α → Bool) (f : α → α) (h : ∀ a, p (f a) = p a) (l : List α) :
    ((l.map f).find? p).isSome = (l.find? p).isSome := by
  induction l with
  | nil => rfl
  | cons a t ih => simp only [List.map_cons, List.find?_cons, h]; split <;> simp_all

/-- A change that keeps source, item and signal of every instance keeps which instances are present. -/
theorem modInst_instOf (s : State) (x i : Nat) (b : Bool) (f : FaultInst → FaultInst)
    (h : ∀ j, (f j).same = j.same) (y k : Nat) (d : Bool) :
    ((s.modInst x i b f).instOf y k d).isSome = (s.instOf y k d).isSome := by
  unfold State.instOf State.modInst
  exact find_map_isSome _ _ (fun j => by split <;> simp [h]) _

theorem listInst_find (s : State) (i : FaultInst) :
    ((s.listInst i).flt.present.find? fun j => j.same i.source i.item i.signal).isSome = true := by
  have here : ∀ (l : List FaultInst) (j : FaultInst), j.same i.source i.item i.signal = true →
      ((l ++ [j]).find? fun a => a.same i.source i.item i.signal).isSome = true := by
    intro l j hj
    rw [List.find?_isSome]
    exact ⟨j, by simp, hj⟩
  unfold State.listInst
  dsimp only
  split
  · exact here _ _ (same_self i)
  · split
    · exact here _ _ (same_self i)
    · split
      · exact here _ _ (same_self i)
      · exact here _ _ (same_self i)

theorem raiseNew_present (s : State) (x i g : Nat) (a b c : Bool) : ((s.raiseNew x i g a b c).instOf x i b).isSome = true := by
  unfold State.raiseNew
  simp only [State.instOf, gradeAction_flt, slip_flt, when_flt, ledAdd_flt, dayRaise_flt, ite_self]
  exact listInst_find _ { source := x, item := i, signal := b, raised := g, escalated := _, cond := !a }

/-- A fault raised is present, when its signal is whole (R453, R456). -/
theorem raise_present (s : State) (x i g : Nat) (a b c : Bool) (h : b = true ∨ s.whole x i) :
    ((s.raise x i g a b c).instOf x i b).isSome = true := by
  have keep : ∀ (t u : State) (y k : Nat) (d : Bool), t.flt = u.flt → (t.instOf y k d).isSome = (u.instOf y k d).isSome := by
    intro t u y k d e; simp only [State.instOf, e]
  have hs : (!b && s.flt.broken.contains (x, i)) = false := by
    rcases h with h | h
    · simp [h]
    · unfold State.whole at h; simp only [h, Bool.and_false]
  unfold State.raise
  rw [hs]
  simp only [Bool.false_eq_true, if_false]
  split
  · exact raiseNew_present _ _ _ _ _ _ _
  · rename_i j hj
    have h0 : (s.instOf x i b).isSome = true := by rw [hj]; rfl
    have h1 : ((s.when (!j.cond) fun s => (s.dayRepeat j).modInst x i b fun k => { k with cond := !a }).instOf x i b).isSome
        = true := by
      unfold State.when
      split
      · refine (modInst_instOf _ _ _ _ _ ?_ _ _ _).trans ?_
        · intro k; rfl
        · rw [keep _ s _ _ _ (by simp)]; exact h0
      · exact h0
    split
    · have h2 : ((((s.when (!j.cond) fun s => (s.dayRepeat j).modInst x i b fun k => { k with cond := !a }).modInst x i b
          fun k => { k with raised := g }).instOf x i b)).isSome = true := by
        refine (modInst_instOf _ _ _ _ _ ?_ _ _ _).trans h1
        intro k; rfl
      split
      · split
        · rw [keep _ _ _ _ _ (gradeAction_flt _ _ _ _ _), keep _ _ _ _ _ (slip_flt _ _ _ _ _), keep _ _ _ _ _ (dayFault_flt _ _ _)]
          exact h2
        · exact h2
      · exact h2
    · exact h1

end Sys2Proof.Machine
end

