-- ==== Sys2Proof/Laws/Table.lean ====
section
/-! SUPPORT. The sparse tables: reading back what is written, and the canonical form that every write keeps. -/

namespace Sys2Proof

namespace Table

variable {α : Type}

theorem get_put [Inhabited α] (t : Table α) (k : Nat) (a : α) : (t.put k a).get k = a := by
  induction t with
  | nil => simp [put, get]
  | cons x t ih =>
    obtain ⟨j, b⟩ := x
    by_cases h : j < k
    · simp only [put, if_pos h, get, if_neg (show ¬j = k by omega)]; exact ih
    · by_cases he : j = k <;> simp [put, h, he, get]

theorem get_put_other [Inhabited α] (t : Table α) {k j : Nat} (h : j ≠ k) (a : α) : (t.put k a).get j = t.get j := by
  induction t with
  | nil => simp [put, get]; omega
  | cons x t ih =>
    obtain ⟨i, b⟩ := x
    by_cases hi : i < k
    · simp only [put, if_pos hi, get]; split
      · rfl
      · exact ih
    · by_cases he : i = k <;> simp [put, he, get, hi, Ne.symm h]

theorem get_filter [Inhabited α] (t : Table α) (k : Nat) : get (t.filter fun x => x.1 ≠ k) k = default := by
  induction t with
  | nil => rfl
  | cons x t ih => by_cases h : x.1 = k <;> simp_all [get]

theorem get_filter_other [Inhabited α] (t : Table α) {k j : Nat} (h : j ≠ k) : get (t.filter fun x => x.1 ≠ k) j = t.get j := by
  induction t with
  | nil => rfl
  | cons x t ih =>
    by_cases hx : x.1 = k
    · simp_all [get, Ne.symm h]
    · simp only [List.filter_cons, hx, ne_eq, not_false_eq_true, decide_true, if_true, get]
      split
      · rfl
      · simpa using ih

/-- A table reads back what is written (read after write). -/
@[simp] theorem get_set [Inhabited α] [DecidableEq α] (t : Table α) (k : Nat) (a : α) : (t.set k a).get k = a := by
  unfold set
  split
  · rename_i h; rw [get_filter, h]
  · exact get_put t k a

/-- A write leaves every other key alone. -/
theorem get_set_other [Inhabited α] [DecidableEq α] (t : Table α) {k j : Nat} (h : j ≠ k) (a : α) : (t.set k a).get j = t.get j := by
  unfold set
  split
  · exact get_filter_other t h
  · exact get_put_other t h a

@[simp] theorem get_modify [Inhabited α] [DecidableEq α] (t : Table α) (k : Nat) (f : α → α) : (t.modify k f).get k = f (t.get k) :=
  get_set t k _

theorem get_modify_other [Inhabited α] [DecidableEq α] (t : Table α) {k j : Nat} (h : j ≠ k) (f : α → α) :
    (t.modify k f).get j = t.get j := get_set_other t h _

theorem above_put {t : Table α} {m k : Nat} (h : above m t = true) (hm : m < k) (a : α) : above m (t.put k a) = true := by
  induction t with
  | nil => simp [put, above, hm]
  | cons x t ih =>
    obtain ⟨j, b⟩ := x
    simp only [above, Bool.and_eq_true, decide_eq_true_eq] at h
    by_cases hj : j < k
    · simp [put, hj, above, h.1, ih h.2]
    · by_cases he : j = k <;> simp [put, hj, he, above, h.1, h.2, hm]

theorem above_of_lt {t : Table α} {m k : Nat} (hm : m < k) (h : above k t = true) : above m t = true := by
  induction t with
  | nil => rfl
  | cons x t ih =>
    obtain ⟨j, b⟩ := x
    simp only [above, Bool.and_eq_true, decide_eq_true_eq] at h ⊢
    exact ⟨by omega, ih h.2⟩

theorem above_filter {t : Table α} {m : Nat} (p : Nat × α → Bool) (h : above m t = true) : above m (t.filter p) = true := by
  induction t with
  | nil => rfl
  | cons x t ih =>
    obtain ⟨j, b⟩ := x
    simp only [above, Bool.and_eq_true, decide_eq_true_eq] at h
    simp only [List.filter_cons]
    split
    · simp [above, h.1, ih h.2]
    · exact ih h.2

theorem wf_filter [Inhabited α] [DecidableEq α] {t : Table α} (p : Nat × α → Bool) (h : t.wf = true) : wf (t.filter p) = true := by
  induction t with
  | nil => rfl
  | cons x t ih =>
    obtain ⟨j, b⟩ := x
    simp only [wf, Bool.and_eq_true, decide_eq_true_eq] at h
    simp only [List.filter_cons]
    split
    · simp [wf, h.1.1, above_filter p h.1.2, ih h.2]
    · exact ih h.2

theorem wf_put [Inhabited α] [DecidableEq α] {t : Table α} (k : Nat) {a : α} (ha : a ≠ default) (h : t.wf = true) :
    wf (t.put k a) = true := by
  induction t with
  | nil => simp [put, wf, above, ha]
  | cons x t ih =>
    obtain ⟨j, b⟩ := x
    simp only [wf, Bool.and_eq_true, decide_eq_true_eq] at h
    by_cases hj : j < k
    · simp only [put, if_pos hj, wf, Bool.and_eq_true, decide_eq_true_eq]
      exact ⟨⟨h.1.1, above_put h.1.2 hj a⟩, ih h.2⟩
    · by_cases he : j = k
      · subst he; simp [put, wf, ha, h.1.2, h.2]
      · simp only [put, if_neg hj, if_neg he, wf, above, Bool.and_eq_true, decide_eq_true_eq]
        exact ⟨⟨ha, by omega, above_of_lt (by omega) h.1.2⟩, h⟩

/-- A write keeps the canonical form. -/
theorem wf_set [Inhabited α] [DecidableEq α] {t : Table α} (k : Nat) (a : α) (h : t.wf = true) : wf (t.set k a) = true := by
  unfold set
  split
  · exact wf_filter _ h
  · rename_i ha; exact wf_put k ha h

theorem wf_modify [Inhabited α] [DecidableEq α] {t : Table α} (k : Nat) (f : α → α) (h : t.wf = true) :
    wf (t.modify k f) = true := wf_set k _ h

end Table

end Sys2Proof
end

