-- ==== Sys2Proof/Laws/Links.lean ====
section
/-! SUPPORT. Pack links: taking a reply and starting the next exchange. -/

namespace Sys2Proof.Machine

open Sys2Proof

/-- A reply of the module's own exchange is taken: heard, the exchange no longer out, handled, and the next one started. -/
theorem replies_take (s : State) (n hop op p : Nat) (x : LineHead) (pl : List Byte) (k : Nat → Option LinkCmd → State → State)
    (h : s.replies n hop op x pl p = true) :
    State.takeReply { s with out := [] } n hop op x pl k =
      (k p (s.answered n hop op x.tag) (((({ s with out := [] } : State).markReply n x.endUs).heardMon n p).modLink n fun l =>
        { l with outstanding := none, heardCmd := l.heardCmd.filter fun c => !(c.opcode == op && c.tag == x.tag) })).startNext n := by
  unfold State.replies at h
  simp only [Bool.and_eq_true, decide_eq_true_eq] at h
  obtain ⟨⟨⟨⟨h1, h0⟩, h2⟩, _⟩, h4⟩ := h
  have h1' : ({s with out := []} : State).linkHears n = true := h1
  have h2' : ({s with out := []} : State).posOf n hop = some p := h2
  have h5 : ({s with out := []} : State).answered n hop op x.tag = s.answered n hop op x.tag := rfl
  simp only [State.takeReply, h1', h0, h2', h5, h4, Bool.not_true, Bool.false_eq_true, if_false, if_true]

/-- Starting the next exchange touches the command window of its link only. -/
theorem startNext_only (s : State) (n : Nat) : s.windowOnly (s.startNext n) n ∧
    ((s.startNext n).links.get n).mons = (s.links.get n).mons := by
  have fact : ∀ (t : State) (x : Link), t.links = s.links.set n x →
      x = { s.links.get n with
        mons := x.mons, outstanding := x.outstanding, queue := x.queue, winAt := x.winAt, lastFrame := x.lastFrame
        exchanges := x.exchanges, owTest := x.owTest, heardCmd := x.heardCmd, mark := x.mark, replyMarks := x.replyMarks } →
      x.mons = (s.links.get n).mons → t = { s with links := t.links, out := t.out } →
      s.windowOnly t n ∧ (t.links.get n).mons = (s.links.get n).mons := by
    intro t x ht hh hm hr
    refine ⟨⟨⟨hr, ?_⟩, ?_⟩, ?_⟩
    · intro m hm; rw [ht, Table.get_set_other _ hm]
    · rw [ht, Table.get_set]; exact hh
    · rw [ht, Table.get_set]; exact hm
  have refl : s.windowOnly s n ∧ (s.links.get n).mons = (s.links.get n).mons := ⟨⟨⟨rfl, fun _ _ => rfl⟩, rfl⟩, rfl⟩
  unfold State.startNext
  dsimp only
  split
  · exact refl
  · split
    · exact refl
    · split
      · exact fact _ _ rfl rfl rfl rfl
      · exact fact _ _ rfl rfl rfl rfl

theorem windowOnly_trans {s t u : State} {n : Nat} (h : s.windowOnly t n) (g : t.windowOnly u n) : s.windowOnly u n := by
  obtain ⟨⟨h1, h2⟩, h3⟩ := h
  obtain ⟨⟨g1, g2⟩, g3⟩ := g
  refine ⟨⟨?_, fun m hm => (g2 m hm).trans (h2 m hm)⟩, ?_⟩
  · rw [g1, h1]
  · dsimp only at g3 h3 ⊢; rw [g3, h3]

end Sys2Proof.Machine
end

