-- ==== Sys2Proof/Laws/Wicket.lean ====
section
/-! SUPPORT. The wicket layer: a request taken is carried out by its body, and its final reply is the one the body gives. -/

namespace Sys2Proof.Machine

open Sys2Proof

/-- The engine checks of R140 to R143 let the request through. -/
theorem admit_now (s : State) (f : Frame) (c : Cmd) (req : Instr) (also : Bool) (body : State → Answer)
    (h : s.freeNow f c = true) : s.queueOrServe f c req also body = s.serve f c also body := by
  unfold State.freeNow at h
  simp only [Bool.and_eq_true, Bool.or_eq_true, Bool.not_eq_true', decide_eq_true_eq,
    Bool.and_eq_false_iff, decide_eq_false_iff_not] at h
  obtain ⟨h1, h5⟩ := h
  unfold State.queueOrServe
  rw [if_neg (by simp [h1])]
  by_cases hp : f.priority = 0 ∨ c.cls = 0
  · rw [if_pos hp]
  · rw [if_neg hp]
    rcases h5 with h5 | h5
    · exact absurd h5 hp
    · obtain ⟨⟨⟨⟨⟨a, b⟩, c'⟩, e⟩, g⟩, d⟩ := h5
      rw [if_neg a, if_neg (by rintro (⟨x, y⟩ | ⟨x, y⟩ | x) <;> simp_all), if_neg (by simp [g]), if_neg (by simp [d])]

/-- Carrying a request out, in a mode that serves it. -/
theorem serve_now (s : State) (f : Frame) (c : Cmd) (also : Bool) (body : State → Answer)
    (h : (c.kind.served s.modes.mode || also) = true) : s.serve f c also body =
      match body s with | (some r, t) => t.complete f c r | (none, t) => t := by
  unfold State.serve
  exact if_pos h

/-- The state without its host slots. -/
def State.unslotted (s : State) : State := { s with wk := { s.wk with slots := [] } }

@[simp] theorem modWicket_unslotted (s : State) (f : Frame) (g : WicketSt → WicketSt) :
    (s.modWicket f g).unslotted = s.unslotted := rfl

/-- A valid frame changes its host slots and nothing else (R132, R135). -/
@[simp] theorem touch_unslotted (s : State) (f : Frame) : (s.touch f).unslotted = s.unslotted := by
  unfold State.touch
  refine forAll_keep State.unslotted (fun i t => ?_) _ _
  split <;> rfl

/-- A frame that arrives whole goes on to the session checks (R129). -/
theorem receive_whole (s : State) (f : Frame) (c : Cmd) (k : State → State) (h : s.arrives f = true) :
    s.receive f c k = k (s.touch f) := by
  unfold State.arrives at h
  simp only [Bool.and_eq_true, decide_eq_true_eq] at h
  obtain ⟨⟨⟨⟨⟨h1, h2⟩, h3⟩, h4⟩, h5⟩, h6⟩ := h
  unfold State.receive
  rw [if_neg (by simp [h1]), if_neg (by simp [h3]; omega), if_neg (by simp [h4])]
  dsimp only
  rw [if_neg (by omega)]

/-- A request taken whose payload passes step 7 is carried out by its body (R129 to R131). -/
theorem wicket_taken (s : State) (f : Frame) (c : Cmd) (req : Instr) (body : State → Answer) (also opens inM2 : Bool)
    (h : s.takes f c also opens inM2 = true) :
    s.wicket f c req none body also opens inM2 =
      match body ((s.touch f).modWicket f fun w => { w with inProgress := some f.seq, curCode := c.code, curCls := f.priority }) with
      | (some r, t) => t.complete f c r
      | (none, t) => t := by
  unfold State.takes at h
  simp only [Bool.and_eq_true] at h
  obtain ⟨⟨⟨⟨⟨h1, h2⟩, h3⟩, h4⟩, h5⟩, h6⟩ := h
  have h2' : (s.touch f).frameRefused f c opens inM2 = none := by simpa using h2
  have e : ((s.touch f).modWicket f fun w => { w with inProgress := some f.seq, curCode := c.code, curCls := f.priority }).unslotted = s.unslotted := by
    simp
  have now : ((s.touch f).modWicket f fun w => { w with inProgress := some f.seq, curCode := c.code, curCls := f.priority }).queueOrServe f c req also body =
      match body ((s.touch f).modWicket f fun w => { w with inProgress := some f.seq, curCode := c.code, curCls := f.priority }) with
      | (some r, t) => t.complete f c r
      | (none, t) => t := by
    generalize ((s.touch f).modWicket f fun w => { w with inProgress := some f.seq, curCode := c.code, curCls := f.priority }) = t at e
    have em : t.modes = s.modes := (congrArg State.modes e : t.unslotted.modes = s.unslotted.modes)
    have ef : t.freeNow f c = s.freeNow f c :=
      (congrArg (fun u : State => u.freeNow f c) e : t.unslotted.freeNow f c = s.unslotted.freeNow f c)
    rw [admit_now _ _ _ _ _ _ (ef.trans h5), serve_now _ _ _ _ _ (by rw [em]; exact h6)]
  rw [← now]
  unfold State.wicket
  rw [receive_whole _ _ _ _ h1]
  simp only [h2']
  unfold State.wicketOf at h3 h4
  cases hw : (s.touch f).sessionOf f with
  | none => simp
  | some x =>
    simp only [hw, Option.isNone_iff_eq_none, Bool.not_eq_true'] at h3 h4
    simp only [h3, h4, Bool.false_eq_true, if_false]

/-- A loop whose steps neither read nor change what has been sent neither reads nor changes it. -/
theorem forAll_out {α : Type} (o : List Output) (f : α → State → State)
    (h : ∀ a (t : State), f a { t with out := o } = { f a t with out := o }) (l : List α) (s : State) :
    ({ s with out := o } : State).forAll l f = { s.forAll l f with out := o } := by
  unfold State.forAll
  induction l generalizing s with
  | nil => rfl
  | cons a l ih => rw [List.foldl_cons, List.foldl_cons, h, ih]

/-- Touching the slots neither reads nor changes what has been sent. -/
theorem touch_out (s : State) (f : Frame) (o : List Output) :
    ({ s with out := o } : State).touch f = { s.touch f with out := o } := by
  refine forAll_out o _ (fun a t => ?_) _ s
  by_cases h : (t.slot a).addr = some f.src
  · rw [if_pos h, if_pos (show (({ t with out := o } : State).slot a).addr = some f.src from h)]; rfl
  · rw [if_neg h, if_neg (show ¬(({ t with out := o } : State).slot a).addr = some f.src from h)]

theorem takes_out (s : State) (f : Frame) (c : Cmd) (also opens inM2 : Bool) (o : List Output) :
    ({ s with out := o } : State).takes f c also opens inM2 = s.takes f c also opens inM2 := by
  unfold State.takes
  rw [touch_out]
  rfl

/-- What a request command answers when the request is taken: what its body leaves, with the final reply that it gives. -/
theorem run_taken (s : State) (f : Frame) (c : Cmd) (req : Instr) (body : State → Answer) (also opens inM2 : Bool)
    (h : s.takes f c also opens inM2 = true) :
    run (fun s => s.wicket f c req none body also opens inM2) s = .next (match body (s.taken f c) with
      | (some r, t) => t.complete f c r
      | (none, t) => t) := by
  unfold run
  dsimp only
  rw [wicket_taken _ _ _ _ _ _ _ _ (by rw [takes_out]; exact h)]
  rfl

/-- A request taken is served in the state as it was, but for its host slots. -/
@[simp] theorem taken_unslotted (s : State) (f : Frame) (c : Cmd) : (s.taken f c).unslotted = ({ s with out := [] } : State).unslotted := by
  unfold State.taken; simp

@[simp] theorem taken_pending (s : State) (f : Frame) (c : Cmd) : (s.taken f c).pending = s.pending :=
  (congrArg State.pending (taken_unslotted s f c) : (s.taken f c).unslotted.pending = ({ s with out := [] } : State).unslotted.pending)
@[simp] theorem taken_freeCtr (s : State) (f : Frame) (c : Cmd) : (s.taken f c).freeCtr = s.freeCtr :=
  (congrArg State.freeCtr (taken_unslotted s f c) : (s.taken f c).unslotted.freeCtr = ({ s with out := [] } : State).unslotted.freeCtr)
@[simp] theorem taken_ident (s : State) (f : Frame) (c : Cmd) : (s.taken f c).ident = s.ident :=
  (congrArg State.ident (taken_unslotted s f c) : (s.taken f c).unslotted.ident = ({ s with out := [] } : State).unslotted.ident)
@[simp] theorem taken_power (s : State) (f : Frame) (c : Cmd) : (s.taken f c).power = s.power :=
  (congrArg State.power (taken_unslotted s f c) : (s.taken f c).unslotted.power = ({ s with out := [] } : State).unslotted.power)
@[simp] theorem taken_arch (s : State) (f : Frame) (c : Cmd) : (s.taken f c).arch = s.arch :=
  (congrArg State.arch (taken_unslotted s f c) : (s.taken f c).unslotted.arch = ({ s with out := [] } : State).unslotted.arch)
@[simp] theorem taken_night (s : State) (f : Frame) (c : Cmd) : (s.taken f c).night = s.night :=
  (congrArg State.night (taken_unslotted s f c) : (s.taken f c).unslotted.night = ({ s with out := [] } : State).unslotted.night)
@[simp] theorem taken_par (s : State) (f : Frame) (c : Cmd) : (s.taken f c).par = s.par :=
  (congrArg State.par (taken_unslotted s f c) : (s.taken f c).unslotted.par = ({ s with out := [] } : State).unslotted.par)
@[simp] theorem taken_links (s : State) (f : Frame) (c : Cmd) : (s.taken f c).links = s.links :=
  (congrArg State.links (taken_unslotted s f c) : (s.taken f c).unslotted.links = ({ s with out := [] } : State).unslotted.links)
@[simp] theorem taken_bricks (s : State) (f : Frame) (c : Cmd) : (s.taken f c).bricks = s.bricks :=
  (congrArg State.bricks (taken_unslotted s f c) : (s.taken f c).unslotted.bricks = ({ s with out := [] } : State).unslotted.bricks)
@[simp] theorem taken_rows (s : State) (f : Frame) (c : Cmd) : (s.taken f c).rows = s.rows :=
  (congrArg State.rows (taken_unslotted s f c) : (s.taken f c).unslotted.rows = ({ s with out := [] } : State).unslotted.rows)
@[simp] theorem taken_rails (s : State) (f : Frame) (c : Cmd) : (s.taken f c).rails = s.rails :=
  (congrArg State.rails (taken_unslotted s f c) : (s.taken f c).unslotted.rails = ({ s with out := [] } : State).unslotted.rails)
@[simp] theorem taken_est (s : State) (f : Frame) (c : Cmd) : (s.taken f c).est = s.est :=
  (congrArg State.est (taken_unslotted s f c) : (s.taken f c).unslotted.est = ({ s with out := [] } : State).unslotted.est)
@[simp] theorem taken_survey (s : State) (f : Frame) (c : Cmd) : (s.taken f c).survey = s.survey :=
  (congrArg State.survey (taken_unslotted s f c) : (s.taken f c).unslotted.survey = ({ s with out := [] } : State).unslotted.survey)
@[simp] theorem taken_loops (s : State) (f : Frame) (c : Cmd) : (s.taken f c).loops = s.loops :=
  (congrArg State.loops (taken_unslotted s f c) : (s.taken f c).unslotted.loops = ({ s with out := [] } : State).unslotted.loops)
@[simp] theorem taken_trims (s : State) (f : Frame) (c : Cmd) : (s.taken f c).trims = s.trims :=
  (congrArg State.trims (taken_unslotted s f c) : (s.taken f c).unslotted.trims = ({ s with out := [] } : State).unslotted.trims)
@[simp] theorem taken_steer (s : State) (f : Frame) (c : Cmd) : (s.taken f c).steer = s.steer :=
  (congrArg State.steer (taken_unslotted s f c) : (s.taken f c).unslotted.steer = ({ s with out := [] } : State).unslotted.steer)
@[simp] theorem taken_twin (s : State) (f : Frame) (c : Cmd) : (s.taken f c).twin = s.twin :=
  (congrArg State.twin (taken_unslotted s f c) : (s.taken f c).unslotted.twin = ({ s with out := [] } : State).unslotted.twin)
@[simp] theorem taken_time (s : State) (f : Frame) (c : Cmd) : (s.taken f c).time = s.time :=
  (congrArg State.time (taken_unslotted s f c) : (s.taken f c).unslotted.time = ({ s with out := [] } : State).unslotted.time)
@[simp] theorem taken_net (s : State) (f : Frame) (c : Cmd) : (s.taken f c).net = s.net :=
  (congrArg State.net (taken_unslotted s f c) : (s.taken f c).unslotted.net = ({ s with out := [] } : State).unslotted.net)
@[simp] theorem taken_bus (s : State) (f : Frame) (c : Cmd) : (s.taken f c).bus = s.bus :=
  (congrArg State.bus (taken_unslotted s f c) : (s.taken f c).unslotted.bus = ({ s with out := [] } : State).unslotted.bus)
@[simp] theorem taken_trs (s : State) (f : Frame) (c : Cmd) : (s.taken f c).trs = s.trs :=
  (congrArg State.trs (taken_unslotted s f c) : (s.taken f c).unslotted.trs = ({ s with out := [] } : State).unslotted.trs)
@[simp] theorem taken_saf (s : State) (f : Frame) (c : Cmd) : (s.taken f c).saf = s.saf :=
  (congrArg State.saf (taken_unslotted s f c) : (s.taken f c).unslotted.saf = ({ s with out := [] } : State).unslotted.saf)
@[simp] theorem taken_prof (s : State) (f : Frame) (c : Cmd) : (s.taken f c).prof = s.prof :=
  (congrArg State.prof (taken_unslotted s f c) : (s.taken f c).unslotted.prof = ({ s with out := [] } : State).unslotted.prof)
@[simp] theorem taken_modes (s : State) (f : Frame) (c : Cmd) : (s.taken f c).modes = s.modes :=
  (congrArg State.modes (taken_unslotted s f c) : (s.taken f c).unslotted.modes = ({ s with out := [] } : State).unslotted.modes)
@[simp] theorem taken_vault (s : State) (f : Frame) (c : Cmd) : (s.taken f c).vault = s.vault :=
  (congrArg State.vault (taken_unslotted s f c) : (s.taken f c).unslotted.vault = ({ s with out := [] } : State).unslotted.vault)
@[simp] theorem taken_therm (s : State) (f : Frame) (c : Cmd) : (s.taken f c).therm = s.therm :=
  (congrArg State.therm (taken_unslotted s f c) : (s.taken f c).unslotted.therm = ({ s with out := [] } : State).unslotted.therm)
@[simp] theorem taken_upd (s : State) (f : Frame) (c : Cmd) : (s.taken f c).upd = s.upd :=
  (congrArg State.upd (taken_unslotted s f c) : (s.taken f c).unslotted.upd = ({ s with out := [] } : State).unslotted.upd)
@[simp] theorem taken_age (s : State) (f : Frame) (c : Cmd) : (s.taken f c).age = s.age :=
  (congrArg State.age (taken_unslotted s f c) : (s.taken f c).unslotted.age = ({ s with out := [] } : State).unslotted.age)
@[simp] theorem taken_prg (s : State) (f : Frame) (c : Cmd) : (s.taken f c).prg = s.prg :=
  (congrArg State.prg (taken_unslotted s f c) : (s.taken f c).unslotted.prg = ({ s with out := [] } : State).unslotted.prg)
@[simp] theorem taken_recs (s : State) (f : Frame) (c : Cmd) : (s.taken f c).recs = s.recs :=
  (congrArg State.recs (taken_unslotted s f c) : (s.taken f c).unslotted.recs = ({ s with out := [] } : State).unslotted.recs)
@[simp] theorem taken_sec (s : State) (f : Frame) (c : Cmd) : (s.taken f c).sec = s.sec :=
  (congrArg State.sec (taken_unslotted s f c) : (s.taken f c).unslotted.sec = ({ s with out := [] } : State).unslotted.sec)
@[simp] theorem taken_flt (s : State) (f : Frame) (c : Cmd) : (s.taken f c).flt = s.flt :=
  (congrArg State.flt (taken_unslotted s f c) : (s.taken f c).unslotted.flt = ({ s with out := [] } : State).unslotted.flt)

end Sys2Proof.Machine
end

