-- ==== Sys2Proof/Machine/Panel.lean ====
section
/-! DEFINITION. What the module shows outside without holding it as state of its own: the front lamps (R87), the states of its
output pins (R85, R51, R122), and the coil that a path energises with its partner's switches (R411). -/

namespace Sys2Proof.Machine

open Sys2Proof

/-- The states of a front lamp (R87). -/
inductive Lamp where
  | off | green | greenFlashing | greenFourHertz | greenShort | amber | red | redFlashing
  deriving DecidableEq, Repr

/-- The POWER lamp; `greenShort` is the 20 ms flash every 5 s of M0 (R87). -/
def State.lampPower (s : State) : Lamp :=
  if s.modes.mode = .m0 then .greenShort
  else if !s.power.mainUp then .off
  else if s.trs.state = 2 then .amber
  else .green

/-- The ROLE lamp (R87). While the main domain is down or unpowered the table gives the ROLE, STRING and FAULT lamps no state; they
show the last role, mode and faults (DESIGN CHOICE, log 118). -/
def State.lampRole (s : State) : Lamp :=
  match s.twin.role with
  | .none => .off
  | .active => .green
  | .standby => .greenFlashing
  | .coldStandby => .amber

/-- The STRING lamp (R87); the table gives M0 no state of its own (DEDUCED: off, as in M1; log 118). -/
def State.lampString (s : State) : Lamp :=
  match s.modes.mode with
  | .m0 | .m1 => .off
  | .m2 => .redFlashing
  | .m3 => .amber
  | .m4 => .greenFlashing
  | .m5 => .green
  | .m6 => .greenFourHertz
  | .m7 => .red

/-- A latch holds a fault of G4 or G5 (R457). -/
def State.gravelyLatched (s : State) : Bool :=
  (List.range 8).any fun c => match s.flt.latches.get c with | some l => decide (4 ≤ l.inst.grade) | none => false

/-- The FAULT lamp (R87); of states that hold together the gravest shows (DEDUCED, log 118). An acknowledged G1
with nothing graver has no column of the table: off (DESIGN CHOICE, log 118). -/
def State.lampFault (s : State) : Lamp :=
  if s.gravelyLatched then .red
  else if s.faultAt 2 then .redFlashing
  else if s.flt.present.any fun i => decide (i.grade = 1) && !i.acked then .amber
  else .off

/-- The main domain drives no output: it is down or held in reset (R85). -/
def State.outputsDead (s : State) : Bool := !s.power.mainUp || s.power.mainHeld

/-- `P_OUT[p]`: the P-switch of coil path `p` conducts (R20, R85). -/
def State.pOut (s : State) (p : Nat) : Bool := !s.outputsDead && bitOf s.saf.keep p

/-- `H_D[p]` to `H_S[p]`: the H-switch of coil path `p` conducts; open with SAFE_SUP lost (R71, R85). -/
def State.hOut (s : State) (p : Nat) : Bool := s.power.safeSup && bitOf s.saf.hClosed p

/-- `PWM[k]`: the duty in 0.1 %, or none at high impedance: in M0, M1 and M2, on a standby, and with the main domain in reset
(R51, R85, R122, R406). -/
def State.pwmOut (s : State) (k : Nat) : Option Nat :=
  if s.outputsDead || decide (s.modes.mode = .m0) || decide (s.modes.mode = .m1) || decide (s.modes.mode = .m2)
    || decide (s.twin.role = .standby) || decide (s.twin.role = .coldStandby) then none
  else some (s.therm.pwm.getD k 0)

/-- `MCLK`: the 20 MHz modulator clock is driven (R80, R85). -/
def State.modClock (s : State) : Bool := !s.outputsDead

/-- The ports that carry frames and data, for their state in R85. -/
inductive Port where
  | trimTx | can | link | uplink | twinLink | service
  deriving DecidableEq, Repr

/-- How a port stands outside (R85). -/
inductive PortState where
  | driven | highImpedance | recessive | silent | noSignal
  deriving DecidableEq, Repr

/-- The state of a port: driven as its own chapter lays down, and with the main domain down or in reset as in R85. -/
def State.portDrive (s : State) (p : Port) : PortState :=
  if !s.outputsDead then .driven
  else match p with
    | .trimTx => .highImpedance
    | .can => .recessive
    | .link => .silent
    | .uplink | .twinLink | .service => .noSignal

/-- The coil of path `p` carries current, with the partner's switches as given: at least one P-switch and both H-switches
closed; a partner that is not fitted has no H-switch in the chain (R411, R416). -/
def State.coilEnergised (s : State) (p : Nat) (partnerP : Bool) (partnerH : Option Bool) : Bool :=
  (s.pOut p || partnerP) && s.hOut p && partnerH.getD true

end Sys2Proof.Machine
end

