-- ==== Sys2Proof/Tests/Slice0.lean ====
section
/-! SUPPORT. The modeller's own tests: ill-formed terms refused, worked examples of the spec, and for every statement with
hypotheses a state and operands that meet them all, at a boundary of their range where they have one. -/

namespace Sys2Proof.Tests

open Sys2Proof Sys2Proof.Machine

set_option maxRecDepth 100000
set_option Elab.async false

/-! ### States the tests start from -/

/-- A control session with wickets 0 and 1 open. -/
def sess : Session := { token := 7, control := true, wickets := [(0, { isOpen := true }), (1, { isOpen := true })] }

/-- An active module in mode `m` with one host on slot 0. -/
def idle (m : Mode) : State :=
  (((State.reset.modModes fun x => { x with mode := m }).modTwin fun x => { x with role := .active }).modWk fun w =>
    { w with slots := [(0, { addr := some 1, session := some sess })] }).force (P.netPosAddr 0) 1

/-- `idle` with links 0 and 1 on rail 0. -/
def plant (m : Mode) : State := ((idle m).force (P.lnkRail 0) 0).force (P.lnkRail 1) 0

/-- A frame of that host from the service port, with a payload of `n` bytes, in class `c`. -/
def req (n : Nat) (c : Nat := 1) (w : Nat := 0) : Frame :=
  ({ src := 1, via := 2, dport := 48111, wicket := w, seq := 1, session := 7, priority := c, payload := List.replicate n 0 } :
      Frame).closed

/-- A link frame that R199 accepts, of a HOP, an OPCODE, a payload and an origin; KIND 1 is a reply. -/
def line (kind hop opcode : Nat) (l : List Byte) (origin : Nat := 0) : LineHead :=
  { hopN := 7 - hop, origin := origin, len := l.length, bytes := 7 + l.length, crc := lineCrc origin kind opcode 0 l.length l }

/-- A SAMPLE reply of the monitor at position 1, all readings zero. -/
def quietReply : SampleReply :=
  let r : SampleReply := { hop := 1, volt := List.replicate 12 0, therm := List.replicate 4 0, shuttleQ := List.replicate 12 0 }
  { r with head := line 1 1 0x01 (sampleBytes r) }

/-- A BRICK_READ of the last brick, as a frame spells it. -/
def brickFrame : Frame :=
  ({ src := 1, via := 2, dport := 48111, seq := 1, session := 7, code := 0x0301
     payload := wireBytes [(2, 3071), (2, 1), (4, 1)] } : Frame).closed

/-- A section frame of a KIND with its payload, whole. -/
def sectionOf (kind : Nat) (l : List Byte) (f : SectionFrame) : SectionFrame :=
  let f := { f with kind := kind, length := l.length, bytes := 28 + l.length }
  { f with crc := crc32 (f.header ++ l) }

/-- A mirror fragment with its CRC-32. -/
def fragment (x : MirrorFrame) : MirrorFrame := { x with crc := crc32 (x.header ++ x.bytes) }

/-- `plant .m5` with link 0 changed. -/
def onLink (f : Link → Link) : State := (plant .m5).modLink 0 fun l => f { l with state := 2 }

/-- An exchange of this opcode is out on link 0, to the monitor at position 1. -/
def asked (opcode : Nat) (f : Link → Link := id) : State :=
  onLink fun l => f { l with outstanding := some { hop := 2, opcode := opcode } }

/-- Rail 0 in use in M5, steered, with its loop enabled and ready for a survey. -/
def steering : State :=
  (((((((plant .m5).force (P.loopEnable 0) 1).force (P.railSteerMode 0) 1).modSaf fun x =>
      { x with pRead := 3, hRead := 3 }).modTrim 0
    fun x => { x with state := 2 }).modLink 0 fun l => { l with state := 2 }).modLink 1 fun l =>
        { l with state := 2 }).modSurvey
    fun x => { x with means := List.replicate 10 0 }

/-- A write under way in a phase. -/
def writing (w : Writing) : State := (idle .m4).modVault fun v => { v with writing := some w }

/-- An off-pulse test under way. -/
def pulsing (x : PulseTest) : State := (idle .m5).modSaf fun v => { v with pulse := some x, coil := 1, keep := 1, pRead := 1 }

/-- A closing sequence under way. -/
def closing (c : CloseSeq) : State := (idle .m4).modSaf fun v => { v with close := some c }

/-- The program at work. -/
def programming (f : Program → Program) : State := (idle .m5).modPrg fun x => f { x with state := 1 }

/-- The twin link up, the formats equal. -/
def twinned : State := (plant .m5).modTwin fun x => { x with linkUp := true, partnerFormat := 1, silentCycles := 0 }

/-- Both uplink ports with a link. -/
def linked : State := (idle .m4).modNet fun x => { x with links := 3 }

/-- CAN controller 1 with these stores. -/
def canBus (b : Nat) (f : Can → Can) : State := (idle .m5).modBus fun x => { x with can := [(b, f {})] }

/-- What a command answers. -/
def after (c : Instr) (s : State) : State := match exec c s with | .next t => t | _ => s

/-- A standby that is READY. -/
def ready : State := (twinned.modTwin fun x => { x with role := .standby, sync := 5 }).modPar fun x =>
  { x with partnerSettingsCrc := twinned.settingsCrc, partnerSetCrc := twinned.setCrc }

/-- A survey that measures its first value, every monitor of its rail quiet. -/
def quieted : State := (plant .m5).modSurvey fun x => { x with state := 1, rail := 0, quiet := [0, 1, 2, 3] }

theorem quieted_all : ∀ n p, n ∈ quieted.linksOf quieted.survey.rail → p < quieted.monCount n →
    quieted.survey.quiet.contains (2 * n + p) = true := by
  have hl : quieted.linksOf quieted.survey.rail = [0, 1] := by decide +kernel
  have h : ∀ n ∈ [0, 1], quieted.monCount n ≤ 2 := by decide +kernel
  intro n p hn hp
  rw [hl] at hn
  have hm := h n hn
  simp only [List.mem_cons, List.not_mem_nil, or_false] at hn
  have hp2 : p < 2 := by omega
  rcases hn with rfl | rfl <;> interval_cases p <;> rfl

theorem idle_only : ∀ i y, i < 4 → ((idle .m4).slot i).session = some y → y.token = (req 0 2 1).session → i = (req 0 2 1).host
    := by
  have h : ∀ i, i < 4 → i ≠ 0 → ((idle .m4).slot i).session = none := by decide +kernel
  intro i y hi hy _
  by_contra hn
  rw [h i hi hn] at hy
  cases hy

/-- A module in M1 whose boot has passed every step. -/
def startedM1 : State := ((State.reset.modModes fun x => { x with bootFailed := 0 }).modPower fun x =>
  { x with bankMilliVolt := 44000 }).modVault fun v =>
    { v with records := v.records.put 320 (some { content := .settings {} [] }) }

/-! ### Ill-formed terms are refused, one for each kind of check -/

theorem smoke_frame_src : WellFormed (.noop { req 0 with src := 2 ^ 32 }) = false := by decide
theorem smoke_frame_port : WellFormed (.noop { req 0 with port := 65536 }) = false := by decide
theorem smoke_frame_via : WellFormed (.noop { req 0 with via := 3 }) = false := by decide
theorem smoke_frame_bytes : WellFormed (.noop { req 0 with tcpLen := 65536 }) = false := by decide
theorem smoke_frame_length : WellFormed (.noop { req 0 with length := 65536 }) = false := by decide
theorem smoke_frame_host : WellFormed (.noop { req 0 with host := 256 }) = false := by decide
theorem smoke_frame_wicket : WellFormed (.noop { req 0 with wicket := 256 }) = false := by decide
theorem smoke_frame_seq : WellFormed (.noop { req 0 with seq := 65536 }) = false := by decide
theorem smoke_frame_session : WellFormed (.noop { req 0 with session := 2 ^ 32 }) = false := by decide
theorem smoke_frame_priority : WellFormed (.noop { req 0 with priority := 256 }) = false := by decide
theorem smoke_entry_index : WellFormed (.paramWrite (req 16) 1 [{ index := 65536 }]) = false := by decide
theorem smoke_entry_type : WellFormed (.paramWrite (req 16) 1 [{ ty := 256 }]) = false := by decide
theorem smoke_entry_reserved : WellFormed (.paramWrite (req 16) 1 [{ res := 256 }]) = false := by decide
theorem smoke_entry_value : WellFormed (.paramWrite (req 16) 1 [{ value := 2 ^ 64 }]) = false := by decide
theorem smoke_entry_count : WellFormed (.paramWrite (req 16) 1 (List.replicate 129 {})) = false := by decide
theorem smoke_entry_total : WellFormed (.sealedSetWrite (req 20) 0 65536 [{}]) = false := by decide
theorem smoke_index_list : WellFormed (.paramRead (req 6 2) 1 [65536]) = false := by decide
theorem smoke_link : WellFormed (.owdRemeasureTimer 128) = false := by decide
theorem smoke_hop : WellFormed (.echoReply 0 8 {} 0) = false := by decide
theorem smoke_rtt : WellFormed (.echoReply 0 1 {} (2 ^ 32)) = false := by decide
theorem smoke_delay : WellFormed (.setTimingReply 0 1 {} 65536 0) = false := by decide
theorem smoke_registers : WellFormed (.readConfigReply 0 1 {} 0 [65536]) = false := by decide
theorem smoke_register_count : WellFormed (.writeConfigReply 0 1 {} 0 (List.replicate 128 0)) = false := by decide
theorem smoke_position : WellFormed (.registerReadbackTimer 0 2) = false := by decide
theorem smoke_found : WellFormed (.identifyReply 0 1 {} { identity := 2 ^ 32 }) = false := by decide
theorem smoke_applied : WellFormed (.balanceReply 0 1 {} { applied := [128] } 0) = false := by decide
theorem smoke_applied_count : WellFormed (.balanceReply 0 1 {} { applied := List.replicate 13 0 } 0) = false := by decide
theorem smoke_line : WellFormed (.openWireReply 0 1 {} 13 0) = false := by decide
theorem smoke_heard_payload : WellFormed (.heardCommandFrame 0 1 1 {} [256]) = false := by decide
theorem smoke_sample_volt : WellFormed (.sampleReply { volt := [65536] }) = false := by decide
theorem smoke_sample_therm : WellFormed (.sampleReply { therm := [32768] }) = false := by decide
theorem smoke_sample_count : WellFormed (.sampleReply { volt := List.replicate 13 0 }) = false := by decide
theorem smoke_fetch_samples : WellFormed (.surveyFetchReply 0 1 {} 0 0 (List.replicate 33 0)) = false := by decide
theorem smoke_brick : WellFormed (.fullAnchor 3072) = false := by decide
theorem smoke_rail : WellFormed (.directionSet 8 true) = false := by decide
theorem smoke_loop : WellFormed (.loopEnableWrite (req 16) 16 false 1 0) = false := by decide
theorem smoke_target : WellFormed (.balanceTest (req 8) 0 (2 ^ 31)) = false := by decide
theorem smoke_tick : WellFormed (.loopTick { shunt := List.replicate 9 0 }) = false := by decide
theorem smoke_trim : WellFormed (.trimStatusFrame 0 { insertion := 32768 }) = false := by decide
theorem smoke_thermistor : WellFormed (.fastRateReturnTimer 1024) = false := by decide
theorem smoke_ths : WellFormed (.thsSourceInvalidTimeout 32) = false := by decide
theorem smoke_arm_mask : WellFormed (.armRequest (2 ^ 20)) = false := by decide
theorem smoke_path : WellFormed (.pulsePermit 20) = false := by decide
theorem smoke_test_number : WellFormed (.offPulseStart 40) = false := by decide
theorem smoke_input : WellFormed (.safeInputChange 8 true 0 0) = false := by decide
theorem smoke_hall_list : WellFormed (.nightSafeCount (List.replicate 9 0)) = false := by decide
theorem smoke_night : WellFormed (.nightSafeSample { alarms := [128] }) = false := by decide
theorem smoke_straps : WellFormed (.strapPoll { sid := [0] }) = false := by decide
theorem smoke_strap_level : WellFormed (.strapPoll { sidp := 3 }) = false := by decide
theorem smoke_engine : WellFormed (.engineWatchdogExpiry 0) = false := by decide
theorem smoke_engine_high : WellFormed (.allowanceSpent 9) = false := by decide
theorem smoke_ecc : WellFormed (.eccDoubleBitError (.retained 6)) = false := by decide
theorem smoke_monitor : WellFormed (.supplyRailOutOfRange 12 0) = false := by decide
theorem smoke_boot_step : WellFormed (.bootStepFailed 12) = false := by decide
theorem smoke_bus : WellFormed (.canBusOff 2) = false := by decide
theorem smoke_can_id : WellFormed (.programCanReceive 0 { id := 2048 }) = false := by decide
theorem smoke_can_data : WellFormed (.programCanReceive 0 { data := List.replicate 9 0 }) = false := by decide
theorem smoke_node : WellFormed (.auxBootup 128) = false := by decide
theorem smoke_station : WellFormed (.auxHeartbeatLoss 16) = false := by decide
theorem smoke_sdo : WellFormed (.sdoResponse 0 1 []) = false := by decide
theorem smoke_pdo : WellFormed (.rxPdo 2048 []) = false := by decide
theorem smoke_section : WellFormed (.ruling { str := 256 } 1 0) = false := by decide
theorem smoke_mirror : WellFormed (.mirrorFragment { frag := 1, frags := 1 }) = false := by decide
theorem smoke_twin_straps : WellFormed (.twinRequestStraps 32 0 0) = false := by decide
theorem smoke_twin_links : WellFormed (.twinRequestIdentify [128]) = false := by decide
theorem smoke_twin_reply : WellFormed (.twinReply (.chargeTotal 8 none)) = false := by decide
theorem smoke_ptp : WellFormed (.ptpPdelayReq { port := 2 } 0) = false := by decide
theorem smoke_announce : WellFormed (.ptpAnnounce {} { vector := [] }) = false := by decide
theorem smoke_uplink : WellFormed (.prpSupervisionFrame { mac := 2 ^ 48 }) = false := by decide
theorem smoke_port : WellFormed (.portLinkChange 3 true true) = false := by decide
theorem smoke_receipt : WellFormed (.receiptStamp 3 0 0) = false := by decide
theorem smoke_output : WellFormed (.programExecutionEnd { duties := [(8, 0)] }) = false := by decide
theorem smoke_guard_bits : WellFormed (.programExecutionEnd { guard := 2 ^ 24 }) = false := by decide
theorem smoke_breakpoint : WellFormed (.programBreakpointHit 4) = false := by decide
theorem smoke_metering : WellFormed (.budgetPeriodStart { engines := List.replicate 9 (0, []) }) = false := by decide
theorem smoke_oscillators : WellFormed (.ringOscillatorMeasure [1, 2, 3]) = false := by decide
theorem smoke_start : WellFormed (.mainPowerGood { verified := [true] }) = false := by decide
theorem smoke_sweep : WellFormed (.sweepEpoch { pDrop := List.replicate 21 0 }) = false := by decide
theorem smoke_image : WellFormed (.imageFinish (req 0 4) { program := { crc := 2 ^ 32 } }) = false := by decide
theorem smoke_image_bytes : WellFormed (.imageChunk (req 8 4) 0 0 (List.replicate 1441 0)) = false := by decide
theorem smoke_tally : WellFormed (.tallyPublish 2) = false := by decide
theorem smoke_slot : WellFormed (.sessionTimeout 4) = false := by decide
theorem smoke_well_formed : WellFormed (.brickRead brickFrame 3071 1 1) = true := by decide +kernel

/-! ### Examples of the spec

The expected values are the spec's own, from the worked examples of its chapters. -/

/-- Eight rails of one link each in use in M5, at equal shares. -/
def eight : State := (((((List.range 8).foldl (fun (s : State) n => s.force (P.lnkRail n) n) (idle .m5)).modSaf fun x =>
  { x with pRead := 2 ^ 20 - 1, hRead := 2 ^ 20 - 1 }).modSteer fun x => { x with shares := List.replicate 8 (1 / 8) }))

/-- Loop 3 of the worked example of chapter 10. -/
def piLoop : State := ((((((((eight.force (P.loopEnable 3) 1).force (P.railSteerMode 3) 1).force (P.loopOutLimit 3) 0x40000000).force
  (P.loopOutSlew 3) 0).force (P.loopSections 3) 1).force (P.loopCoef 3 0) 0xBD7E00003D810000).force (P.loopCoef 3 1)
  0xBF80000000000000).force (P.loopCoef 3 2) 0).modLoop 3 fun l => { l with handover := false, ran := true }
def tickA : State := after (.loopTick { shunt := [-64000, -64000, -64000, -128000, -64000, -64000, -64000, -64000] }) piLoop
def tickB : State := after (.loopTick { shunt := [-64000, -64000, -64000, -72000, -64000, -64000, -64000, -64000] }) tickA

/-- The outcome, DETAIL and ARG words of the replies sent. -/
def replies (s : State) : List (Nat × Nat × Nat × Nat) := s.out.filterMap fun o => match o with
  | .wicketReply _ _ r => some (r.outcome, r.detail, r.arg0, r.arg1)
  | _ => none

/-- Chapter 05: finding an index. -/
theorem test_index : (P.lnkRail 51, P.railHallScale 3, P.loopOutLimit 12) = (0x0B30, 0x11C1, 0x1982) := by decide

/-- Chapter 02: strapping string 19, position B. -/
theorem test_straps_19 :
    (({ sid := [1, 1, 0, 0, 1], sidp := 0, twposA := 0, twposB := 1 } : StrapPins).faults,
      ((idle .m4).modPower fun x => { x with straps := { sid := [1, 1, 0, 0, 1], sidp := 0, twposA := 0, twposB := 1 } }).stringNo)
      = ([], 19) := by
  decide +kernel

/-- Chapter 03: a Dormant draw of -0.8 A on rail 5 counts -0.080 C a sample. -/
theorem test_night_count :
    ((after (.nightSafeCount [0, 0, 0, 0, 0, -200]) ((eight.modModes fun m => { m with mode := .m0 }).modNight fun x =>
      { x with inCharge := true, rails := [(5, { scale := 0x42200000 })] })).night.rails.get 5).charge = -80 := by
  decide +kernel

/-- Chapter 04: the bytes of the PARAM_READ example, without its CRC-32. -/
theorem test_request_bytes :
    ({ wicket := 2, seq := 0x0107, session := 0x5E2109A4, code := 0x0101, priority := 2
       payload := wireBytes [(2, 2), (2, 0), (2, 0x0010), (2, 0x0100)] } : Frame).closed.covered
      = [0x4B, 0x57, 0x01, 0x01, 0x00, 0x02, 0x07, 0x01, 0xA4, 0x09, 0x21, 0x5E, 0x01, 0x01, 0x02, 0x00
          , 0x08, 0x00, 0x00, 0x00, 0x00, 0x00, 0x00, 0x00, 0x02, 0x00, 0x00, 0x00, 0x10, 0x00, 0x00, 0x01] := by
  decide +kernel

/-- Chapter 04: an export in Thrift is deferred with DETAIL 1 and ARG1 = 1. -/
theorem test_deferred :
    (replies (after (.daybookExport (req 6 4) 0 1) ((idle .m5).modTrs fun t => { t with state := 1, stateSet := true }))).map
      (fun x => (x.1, x.2.1, x.2.2.2)) = [(1, 1, 1)] := by
  decide +kernel

/-- Chapter 04: at the defer limit it is REFUSED_BUDGET, DETAIL 1, ARG1 = 2. -/
theorem test_defer_limit :
    (replies (after (.deferLimitExpiry 0 0) (after (.daybookExport (req 6 4) 0 1)
      ((idle .m5).modTrs fun t => { t with state := 1, stateSet := true })))).map (fun x => (x.1, x.2.1, x.2.2.2)) = [(2, 1, 2)] := by
  decide +kernel

/-- Chapter 05: a count of 255 at the mask 0x0040_0001 fails with LENGTH_INVALID, ARG0 255, ARG1 254. -/
theorem test_brick_read_count :
    replies (after (.brickRead (req 8 2) 1152 255 0x80400001) (idle .m5)) = [(5, 0, 255, 254)] := by
  decide +kernel

/-- Chapter 06: a mean RTT of 15.740 us gives OWD 70 ns and DELAY 93, here with slot 2 at hop 2. -/
theorem test_delay :
    ((after (.echoReply 0 1 (line 1 1 0x03 []) 15740) (asked 0x03 fun l => { l with mons := [(1, { echoes := 7, rttSum := 7 * 15740 })] })).links.get
      0).outstanding = some { hop := 2, opcode := 4, payload := [93, 0, 2, 0] } := by
  decide +kernel

/-- Link 51 on rail 3, its first monitor with applied current +100 on shuttle 3. -/
def shuttling : State := ((idle .m5).force (P.lnkRail 51) 3).modLink 51 fun l =>
  { l with state := 2, sampled := true, mons := [(0, { applied := [0, 0, 0, 100, 0, 0, 0, 0, 0, 0, 0, 0] })] }

/-- Chapter 07: SHUTTLE_Q of +146 books -1,460 uC and 1,343 uC. -/
theorem test_shuttle :
    (let r : SampleReply := { link := 51, volt := List.replicate 12 33000, stack := 39600, therm := [2500, 2500, 2500, 2500]
                              shuttleQ := [0, 0, 0, 146, 0, 0, 0, 0, 0, 0, 0, 0] }
     let t := after (.sampleReply { r with head := line 1 0 0x01 (sampleBytes r) }) shuttling
     ((t.bricks.get 1227).q, (t.bricks.get 1228).q)) = (-1460, 1343) := by
  decide +kernel

/-- Readings of monitor 1 on link 22 in the cycle before its line 7 breaks. -/
def before7 : List (Option Int) :=
  [some 33130, some 33130, some 33130, some 33130, some 33130, some 33130, some 33120, some 33140, some 33130, some 33130
    , some 33130, some 33130]

/-- Chapter 07: line 7 is suspect, and both bricks read the mean of their sum. -/
theorem test_broken_line :
    (let s := ((((idle .m5).force (P.lnkRail 22) 1).modTime fun t => { t with sweep := 100, sweepSet := true }).modRail 1
        fun r => { r with current := -150000 }).modLink 22 fun l =>
          { l with state := 2, sampled := true, mons := [(1, { lastSweep := some 99, vPrev := before7, vCorr := before7 })] }
     let r : SampleReply := { link := 22, hop := 1, stack := 39751, therm := [2500, 2500, 2500, 2500]
                              volt := [33130, 33130, 33130, 33130, 33130, 33130, 34260, 32000, 33130, 33130, 33130, 33130]
                              shuttleQ := List.replicate 12 0 }
     let t := after (.sampleReply { r with head := line 1 1 0x01 (sampleBytes r) }) s
     ((t.mon 22 1).suspect, (t.bricks.get 546).voltage, (t.bricks.get 547).voltage)) = (2 ^ 7, 33130, 33130) := by
  decide +kernel

/-- Brick 1,234 of the worked examples at its second rest point, with balance `q`. -/
def learner (q : Int) : State := ((idle .m5).force (P.lnkRail 51) 3).modBrick 1234 fun b =>
  { b with c := 11400000, e := -530000000000, q := q, flags := 4, restPosition := 8850, restBalance := 4800000
           temperature := some 2500 }

/-- Chapter 08: the learn takes 1,144,366.2 C; POSITION stays at 31.58 % with a glide of 1,378.8 C; RAW_POSITION is 31.46 %. -/
theorem test_learn :
    (let b := ((learner (-170000000000)).restPoint 1234 36522 3170 true).bricks.get 1234
     (b.c, b.position, b.g, b.rawPosition)) = (11443662, 3158, 1378800000, 3146) := by
  decide +kernel

/-- Chapter 08: with Q2 = -200,000.0 C the step is limited to 1,174,200.0 C. -/
theorem test_learn_limited :
    (((learner (-200000000000)).restPoint 1234 36522 3170 true).bricks.get 1234).c = 11742000 := by
  decide +kernel

/-- Chapter 10: tick A of the PI section. -/
theorem test_pi_tick_a :
    (let l := tickA.loops.get 3
     (l.error, l.y, l.output, (l.sections.getD 0 {}).s1, (tickA.trims.get 3).insertionCmd))
      = (0xC2600000#32, 0xC061C000#32, 0xC0000000#32, 0#32, -1000) := by
  decide +kernel

/-- Chapter 10: tick B of the PI section. -/
theorem test_pi_tick_b :
    (let l := tickB.loops.get 3
     (l.error, l.y, (l.sections.getD 0 {}).s1, (tickB.trims.get 3).insertionCmd))
      = (0xC0E00000#32, 0xBEE1C000#32, 0xBBE00000#32, -220) := by
  decide +kernel

/-- Chapter 10: rail 2 is capped at 400 A of 900 A, and the excess goes to rails 0 and 1. -/
theorem test_share_caps :
    (capShares (fun _ => 400) 900 [0, 1, 2] [1 / 4, 1 / 4, 1 / 2, 0, 0, 0, 0, 0]).1.map shareWord
      = [2778, 2778, 4444, 0, 0, 0, 0, 0] := by
  decide +kernel

/-- Chapter 11: 1,249 keeps segment 1, 1,229 leaves it, 1,262 keeps segment 0. -/
theorem test_gear : ((idle .m5).regear 1249 8 1, (idle .m5).regear 1229 8 1, (idle .m5).regear 1262 8 0) = (1, 0, 0) := by
  decide +kernel

/-- Thermistor 3 of position 0 on link 51 filtered to `v`, eight rails at share 0.125. -/
def warm (v : Int) : State :=
  (after .brickThermalEvaluation ((eight.force (P.lnkRail 51) 3).modTherm fun x =>
    { x with therms := [(411, { valid := 100, total := 100, sum := v * 100 })] })).thermalLimit

/-- Chapter 12: at 57.50 C the thermal limit is 2,400 A, named by sensor code 0x819B. -/
theorem test_thermal_limit : ((warm 5750).therm.limit, (warm 5750).therm.limiting) = (2400000, 0x819B) := by decide +kernel

/-- Chapter 13: 480 A at 40 A/V is limited to 9,990 mV, 399.6 A gives exactly 9,990 mV. -/
theorem test_trip_level :
    (idle .m4).deriveVth (fun i => if i = P.ocTripCurrent 2 then 480000 else if i = P.ocTripCurrent 1 then 399600 else 0)
      = ([0, 9990, 9990, 0, 0, 0, 0, 0], 4) := by
  decide +kernel

/-- LK.02 of link 40, then LK.13 of link 12, in M5. -/
def escalated : State := ((eight.raise (src 1 2) (itemLink 40 1) 2).raise (src 1 13) (itemLink 12 0) 2)

/-- Chapter 14: the latch, its item and the escalated instance. -/
theorem test_escalation :
    (escalated.readValue 0x1C01, escalated.readValue 0x1C11, escalated.readValue 0x1C41, escalated.flt.overflow, escalated.worst)
      = (0x01420102, 0x011F0028, 0x010F000C0153010D, 2, some 3) := by
  decide +kernel

/-- Chapter 19: the Daybook entry of that escalation. -/
theorem test_daybook_entry : escalated.recs.day.head?.map (fun e => (e.code, e.arg)) = some (0x810D, 0x710F000C) := by decide +kernel

/-- Chapter 14: once acknowledged, the latch reads 0x8142_0102. -/
theorem test_acknowledged : (escalated.ackFaults 0xFFFF).2.readValue 0x1C01 = 0x81420102 := by decide +kernel

/-- A standby whose brick 1,234 holds 1,143,900.0 C and 360,410.0 C above empty. -/
def joiner : State := (((idle .m5).force (P.lnkRail 51) 3).modTwin fun t => { t with sync := 5, role := .standby }).modBrick 1234
  fun b => { b with c := 11439000, q := 360410000000, e := 0, flags := 0 }

/-- Chapter 15: within the tolerance the standby takes the active module's values and holds POSITION. -/
theorem test_reconciled :
    (let b := (joiner.reconcileBrick joiner.time.sweep (1234, 0, 11443662, 360000000000, false)).bricks.get 1234
     (b.c, b.above, b.rawPosition, b.position)) = (11443662, 360000000000, 3146, 3151) := by
  decide +kernel

/-- Chapter 15: 6,000.0 C away it keeps its own and counts the brick. -/
theorem test_outlier :
    (let t := joiner.reconcileBrick joiner.time.sweep (1234, 0, 11443662, 354410000000, false)
     ((t.bricks.get 1234).c, t.twin.outliersNow)) = (11439000, 1) := by
  decide +kernel

/-- Chapter 19: 24.80 C and 42.10 % add to record 2,468 of region 0 at offset 484. -/
theorem test_ledger_bin :
    (((({ idle .m5 with rows := [(1234, { temperature := some 2480, heldPos := some (4210, 4210) })] } : State).ledBrick
      1234).recs.live.get (ledKey 0 2468)).words.get 484) = 1 := by
  decide +kernel

/-- Chapter 20: the plan of the ninth year. -/
theorem test_plan :
    (let p := ((idle .m5).modAge fun a => { a with
       flash := [12], slowdown := [680, 0, 0, 0], cap := 2010, energy := 15436, planned := true
       plan := { generation := 1, coreStep := 400, refreshDays := 90, slowdown := [590, 0, 0, 0] } }).newPlan
     (p.coreStep, p.refreshDays, p.holdupWriteMax, p.dieGuard)) = (333, 90, 208896, 200) := by
  decide +kernel

/-- Chapter 21: 21.00 mF at 45 V leaves 3,312.5 mJ over the reserve. -/
theorem test_energy_margin :
    (((idle .m5).modAge fun a => { a with cap := 2100 }).modPower fun x => { x with bankMilliVolt := 45000 }).energyMargin
      = 6625 / 2 := by
  decide +kernel

/-! ### Witnesses of the statements, clause by clause -/

theorem witness_StepRunsFrontCommand :
    (∃ (s : State) (c : Instr) (rest : List Instr), s.pending = c :: rest) ∧
    (∃ (s : State), s.pending = []) := by
  refine ⟨?_, ?_⟩
  · refine ⟨{ idle .m4 with pending := [.settingsBurstTimer, .slipBatchDue] }, .settingsBurstTimer, [.slipBatchDue], ?_⟩ <;>
      decide +kernel
  · refine ⟨idle .m4, ?_⟩ <;> decide +kernel

theorem witness_WellFormedCommandsAnswer :
    ∃ (c : Instr) (s : State), WellFormed c = true :=
  by refine ⟨.brickRead brickFrame 3071 1 1, State.reset, ?_⟩ <;> decide +kernel

theorem witness_StepKeepsIdentityAndQueue :
    ∃ (s t : State), step s = .next t :=
  ⟨{ idle .m4 with pending := [.settingsBurstTimer] }, after .settingsBurstTimer (idle .m4), rfl⟩

theorem witness_StepKeepsLatchesAgreeing :
    ∃ (s t : State), s.latchesAgree ∧ step s = .next t :=
  ⟨{ idle .m4 with pending := [.settingsBurstTimer] }, after .settingsBurstTimer (idle .m4), rfl, rfl⟩

theorem witness_StepKeepsVaultCanonical :
    ∃ (s t : State), s.recordsWf ∧ step s = .next t :=
  ⟨{ idle .m4 with pending := [.settingsBurstTimer] }, after .settingsBurstTimer (idle .m4), rfl, rfl⟩

theorem witness_FinalReplyIsSentAndStored :
    ∃ (s : State) (f : Frame) (c : Cmd) (r : Reply) (x : Session), c.code ≠ 1 ∧ (s.slot f.host).session = some x ∧ x.token =
        f.session ∧ (x.wickets.get f.wicket).isOpen = true :=
  by refine ⟨idle .m4, req 0, cmdNoop, {}, sess, ?_, ?_, ?_, ?_⟩ <;> decide +kernel

theorem witness_StatusReadsComplete :
    (∃ (s : State) (f : Frame), s.takes f cmdNoop (inM2 := true) = true ∧ f.length = 0) ∧
    (∃ (s : State) (f : Frame), s.takes f cmdTimeRead = true ∧ f.length = 0) ∧
    (∃ (s : State) (f : Frame), s.takes f cmdProgramStatus = true ∧ f.length = 0) ∧
    (∃ (s : State) (f : Frame) (l : List Nat), s.takes f cmdParamRead = true ∧ 1 ≤ l.length ∧ l.length ≤ 80 ∧ f.length = 4 + 2 *
        l.length) ∧
    (∃ (s : State) (f : Frame) (first count : Nat), s.takes f cmdSlipFetch = true ∧ 1 ≤ count ∧ count ≤ 31 ∧ f.length = 6) ∧
    (∃ (s : State) (f : Frame) (l : List Nat), s.wk.writes = [{ frame := f, code := 0x0101, reads := l }] ∧ l ≠ []) := by
  refine ⟨?_, ?_, ?_, ?_, ?_, ?_⟩
  · refine ⟨idle .m4, req 0, ?_, ?_⟩ <;> decide +kernel
  · refine ⟨idle .m4, req 0 2, ?_, ?_⟩ <;> decide +kernel
  · refine ⟨idle .m4, req 0 2, ?_, ?_⟩ <;> decide +kernel
  · refine ⟨idle .m4, req 164 2, List.replicate 80 0, ?_, ?_, ?_, ?_⟩ <;> decide +kernel
  · refine ⟨idle .m4, req 6 2, 0, 31, ?_, ?_, ?_, ?_⟩ <;> decide +kernel
  · refine ⟨(idle .m4).modWk fun w => { w with writes := [{ frame := req 6 2, code := 0x0101, reads := [0] }] }, req 6 2, [0],
      ?_, ?_⟩ <;> decide +kernel

theorem witness_DataReadsComplete :
    (∃ (s : State) (f : Frame) (first count mask : Nat), s.takes f cmdBrickRead = true ∧ f.length = 8 ∧ first ≤ 3071 ∧ 1 ≤ count
        ∧ count ≤ 3072 - first ∧ mask % 2 ^ 24 ≠ 0 ∧ mask / 2 ^ 24 % 2 ^ 7 = 0 ∧ count * ((List.range 24).filter fun k =>
        mask.testBit k).foldl (fun n k => n + rowBytes.getD k 2) 0 ≤ 1016) ∧
    (∃ (s : State) (f : Frame) (number first count : Nat), s.takes f cmdCaptureRead = true ∧ f.length = 10 ∧ 1 ≤ count ∧ count ≤
        63 ∧ number ≠ 0 ∧ number = s.steer.captureNumber ∧ first ≤ 65535) ∧
    (∃ (s : State) (f : Frame) (r first count : Nat), s.takes f cmdSurveyResult = true ∧ f.length = 6 ∧ 1 ≤ count ∧ count ≤ 42 ∧
        hasIsu s.ident.variant = true ∧ r < 8 ∧ ((∀ b, first ≤ b → b < first + count → s.brickUsed b = true ∧ s.railOf (b / 24)
        = some r))) ∧
    (∃ (s : State) (f : Frame) (first count : Nat), s.takes f cmdDaybookExport = true ∧ f.length = 6 ∧ 1 ≤ count ∧ count ≤ 63) ∧
    (∃ (s : State) (f : Frame) (r count first : Nat), s.takes f cmdLedgerExport = true ∧ f.length = 8 ∧ r ≤ 3 ∧ first < (ledSize
        r).1 ∧ 1 ≤ count ∧ count ≤ (ledSize r).2) ∧
    (∃ (s : State) (f : Frame) (r count first : Nat), s.takes f cmdLedgerExport = true ∧ f.length = 8 ∧ r ≤ 3 ∧ first < (ledSize
        r).1 ∧ 1 ≤ count ∧ count ≤ (ledSize r).2) := by
  refine ⟨?_, ?_, ?_, ?_, ?_, ?_⟩
  · refine ⟨idle .m4, req 8 2, 3071, 1, 1, ?_, ?_, ?_, ?_, ?_, ?_, ?_, ?_⟩ <;> decide +kernel
  · refine ⟨(idle .m4).modSteer fun x => { x with captureNumber := 1 }, req 10 4, 1, 65535, 63, ?_, ?_, ?_, ?_, ?_, ?_, ?_⟩ <;>
      decide +kernel
  · refine ⟨plant .m5, req 6 3, 0, 0, 42, ?_, ?_, ?_, ?_, ?_, ?_, fun b _ h => (by decide +kernel : ∀ b, b < 42 → (plant
      .m5).brickUsed b = true ∧ (plant .m5).railOf (b / 24) = some 0) b (by omega)⟩ <;> decide +kernel
  · refine ⟨idle .m4, req 6 4, 0, 63, ?_, ?_, ?_, ?_⟩ <;> decide +kernel
  · refine ⟨idle .m4, req 8 4, 1, 8, 3071, ?_, ?_, ?_, ?_, ?_, ?_⟩ <;> decide +kernel
  · refine ⟨idle .m4, req 8 4, 3, 6, 0, ?_, ?_, ?_, ?_, ?_, ?_⟩ <;> decide +kernel

theorem witness_SessionOpenCompletes :
    ∃ (s : State) (f : Frame) (kind timeout i : Nat), s.arrives f = true ∧ s.tlsOk f = true ∧ s.freeNow f cmdSessionOpen = true
        ∧ s.modes.mode ≠ .m0 ∧ s.modes.mode ≠ .m2 ∧ f.length = 4 ∧ f.session = 0 ∧ f.host = 0xFF ∧ f.wicket = 0xFF ∧ f.via ≠ 2 ∧
        s.reaches f.src = true ∧ 1 ≤ f.priority ∧ f.priority ≤ 4 ∧ kind ≤ 1 ∧ (timeout = 0 ∨ 2 ≤ timeout ∧ timeout ≤ 300) ∧
        (s.touch f).slotFor f.src = some i ∧ ((kind = 1 → s.controlAllowed f.src = true ∧ (s.touch f).controlHeld = none)) :=
  by refine ⟨((State.reset.modModes fun x => { x with mode := .m3 }).force (P.netPosAddr 0) 1),
      ({ req 4 with via := 0, dport := 48110, session := 0, host := 0xFF, wicket := 0xFF } : Frame).closed, 1, 300, 0, ?_, ?_,
      ?_, ?_, ?_, ?_, ?_, ?_, ?_, ?_, ?_, ?_, ?_, ?_, ?_, ?_, ?_⟩ <;> decide +kernel

theorem witness_SessionsAndWicketsClose :
    (∃ (s : State) (f : Frame), s.takes f cmdSessionClose (inM2 := true) = true ∧ f.length = 0) ∧
    (∃ (s : State) (i : Nat) (x : Session), (s.slot i).session = some x) ∧
    (∃ (s : State) (f : Frame) (seq : Nat), s.takes f cmdWicketOpen (opens := true) (inM2 := true) = true ∧ f.length = 2) ∧
    (∃ (s : State) (f : Frame) (x : Session), s.takes f cmdWicketClose (inM2 := true) = true ∧ f.length = 0 ∧ (s.slot
        f.host).session = some x) := by
  refine ⟨?_, ?_, ?_, ?_⟩
  · refine ⟨idle .m4, req 0, ?_, ?_⟩ <;> decide +kernel
  · refine ⟨idle .m4, 0, sess, ?_⟩ <;> decide +kernel
  · refine ⟨idle .m4, req 2 1 15, 65535, ?_, ?_⟩ <;> decide +kernel
  · refine ⟨idle .m4, req 0, sess, ?_, ?_, ?_⟩ <;> decide +kernel

theorem witness_QueuedWicketWorkCompletes :
    (∃ (s : State) (f : Frame) (w q : Nat) (d : Deferred), s.takes f cmdCancel = true ∧ f.length = 4 ∧ s.wk.deferred.find? (fun
        d => d.frame.session == f.session && d.frame.wicket == w && d.frame.seq == q) = some d) ∧
    (∃ (s : State) (f : Frame) (seq : Nat), s.takes f cmdSlipAck = true ∧ f.length = 4) ∧
    (∃ (s : State) (i : Nat) (x : Session), i < 4 ∧ (s.slot i).session = some x ∧ (s.slot i).batch ≠ [] ∧ (x.service = true ∨
        s.reaches ((s.slot i).addr.getD 0) = true)) ∧
    (∃ (s : State) (f : Frame), s.power.mainUp = true ∧ s.power.mainHeld = false ∧ s.trs.state = 0 ∧ (s.trs.engines.get 1).spent
        = false ∧ (s.arch.engines.get 1).inReset = false ∧ s.modes.mode ≠ .m0 ∧ s.blocked = false ∧ s.wk.writes = [] ∧
        s.wk.deferred = [{ frame := f, code := 0x0005, cls := f.priority, req := .noop f }]) ∧
    (∃ (s : State) (i w : Nat) (d : Deferred), s.wk.deferred.find? (fun d => d.frame.host == i && d.frame.wicket == w && decide
        (3 ≤ d.cls)) = some d) ∧
    (∃ (s : State) (i : Nat), i < 4) ∧
    (∃ (s : State) (d : Deferred), s.power.mainUp = true ∧ s.power.mainHeld = false ∧ s.wk.deferred.find? s.mayRun = some d ∧
        s.blocked = false ∧ s.boundaryBefore d.frame d.cmd = false ∧ (s.arch.engines.get d.engine).inReset = false) ∧
    (∃ (s : State) (f : Frame) (w q : Nat), s.takes f cmdCancel = true ∧ f.length = 4 ∧ s.wk.deferred.find? (fun d =>
        d.frame.session == f.session && d.frame.wicket == w && d.frame.seq == q) = none) := by
  refine ⟨?_, ?_, ?_, ?_, ?_, ?_, ?_, ?_⟩
  · refine ⟨(idle .m4).modWk fun w =>
      { w with deferred := [{ frame := { req 0 1 1 with seq := 9 }, req := .noop (req 0 1 1) }] }, req 4, 1, 9,
      { frame := { req 0 1 1 with seq := 9 }, req := .noop (req 0 1 1) }, ?_, ?_, ?_⟩ <;> decide +kernel
  · refine ⟨idle .m4, req 4 2, 0xFFFFFFFF, ?_, ?_⟩ <;> decide +kernel
  · refine ⟨(idle .m4).modWk fun w =>
      { w with slots := [(3, { session := some { sess with service := true }, slips := [{}] })] }, 3,
      { sess with service := true }, ?_, ?_, ?_, ?_⟩ <;> decide +kernel
  · refine ⟨(idle .m4).modWk fun w =>
      { w with deferred := [{ frame := req 0, code := 0x0005, cls := 1, req := .noop (req 0) }] }, req 0, ?_, ?_, ?_, ?_, ?_,
      ?_, ?_, ?_, ?_⟩ <;> decide +kernel
  · refine ⟨(idle .m4).modWk fun w => { w with deferred := [{ frame := req 0 3, cls := 3, req := .noop (req 0) }] }, 0, 0,
      { frame := req 0 3, cls := 3, req := .noop (req 0) }, ?_⟩ <;> decide +kernel
  · refine ⟨idle .m4, 3, ?_⟩ <;> decide +kernel
  · refine ⟨(idle .m4).modWk fun w =>
      { w with deferred := [{ frame := req 0, code := 0x0005, cls := 1, req := .noop (req 0) }] },
      { frame := req 0, code := 0x0005, cls := 1, req := .noop (req 0) }, ?_, ?_, ?_, ?_, ?_, ?_⟩ <;> decide +kernel
  · refine ⟨idle .m4, req 4, 0, 9, ?_, ?_, ?_⟩ <;> decide +kernel

theorem witness_ParameterWritesComplete :
    (∃ (s : State) (f : Frame) (l : List ParamEntry) (x : List (Nat × Int)), s.takes f cmdParamWrite = true ∧ 1 ≤ l.length ∧
        l.length ≤ 64 ∧ f.length = 4 + 12 * l.length ∧ (s.taken f cmdParamWrite).writeCheck false 4 l = .ok x) ∧
    (∃ (s : State) (f : Frame) (n : Nat) (ty v : Nat) (x : List (Nat × Int)), s.takes f cmdParamWrite = true ∧ f.length = 16 ∧
        (s.taken f cmdParamWrite).writeCheck false 4 [{ index := P.lnkSweepPhase n, ty := ty, value := v }] = .ok x) ∧
    (∃ (s : State) (f : Frame) (k : Nat) (ty v : Nat) (x : List (Nat × Int)), s.takes f cmdParamWrite = true ∧ f.length = 16 ∧
        (s.taken f cmdParamWrite).writeCheck false 4 [{ index := P.loopEnable k, ty := ty, value := v }] = .ok x) ∧
    (∃ (s : State) (f : Frame) (k : Nat) (ty v : Nat) (x : List (Nat × Int)), s.takes f cmdParamWrite = true ∧ f.length = 16 ∧
        (s.taken f cmdParamWrite).writeCheck false 4 [{ index := P.loopSections k, ty := ty, value := v }] = .ok x) ∧
    (∃ (s : State) (f : Frame) (ty v : Nat) (x : List (Nat × Int)), s.takes f cmdParamWrite = true ∧ f.length = 16 ∧ (s.taken f
        cmdParamWrite).writeCheck false 4 [{ index := P.timeReceiptSticky, ty := ty, value := v }] = .ok x) ∧
    (∃ (s : State) (f : Frame) (ty v : Nat) (x : List (Nat × Int)), s.takes f cmdParamWrite = true ∧ f.length = 16 ∧ (s.taken f
        cmdParamWrite).writeCheck false 4 [{ index := P.ageReplanRequest, ty := ty, value := v }] = .ok x) ∧
    (∃ (s : State) (f : Frame) (i : Nat) (ty v : Nat) (x : List (Nat × Int)), s.takes f cmdParamWrite = true ∧ f.length = 16 ∧
        (s.taken f cmdParamWrite).writeCheck false 4 [{ index := P.prgBreakpoint i, ty := ty, value := v }] = .ok x) ∧
    (∃ (s : State) (f : Frame) (i : Nat) (v : Int) (r : PRow), s.wk.writes = [{ frame := f, entries := [(i, v)] }] ∧ wRow i =
        some r ∧ r.acc ≠ .co ∧ i ≠ 0x0360 ∧ i ≠ P.ageReplanRequest ∧ absentUnit s.ident i = none) := by
  refine ⟨?_, ?_, ?_, ?_, ?_, ?_, ?_, ?_⟩
  · refine ⟨idle .m4, req 772, (List.range 64).map fun n => { index := P.lnkSweepPhase n, ty := 0x12, value := 2 ^ 64 - 500 },
      (List.range 64).map fun n => (P.lnkSweepPhase n, -500), ?_, ?_, ?_, ?_, ?_⟩ <;> decide +kernel
  · refine ⟨idle .m4, req 16, 127, 0x12, 500, [(P.lnkSweepPhase 127, 500)], ?_, ?_, ?_⟩ <;> decide +kernel
  · refine ⟨idle .m4, req 16, 15, 0x01, 1, [(P.loopEnable 15, 1)], ?_, ?_, ?_⟩ <;> decide +kernel
  · refine ⟨idle .m4, req 16, 15, 0x01, 8, [(P.loopSections 15, 8)], ?_, ?_, ?_⟩ <;> decide +kernel
  · refine ⟨idle .m4, req 16, 0x01, 0, [(P.timeReceiptSticky, 0)], ?_, ?_, ?_⟩ <;> decide +kernel
  · refine ⟨idle .m4, req 16, 0x01, 1, [(P.ageReplanRequest, 1)], ?_, ?_, ?_⟩ <;> decide +kernel
  · refine ⟨idle .m4, req 16, 3, 0x03, 0xFFFFFFFF, [(P.prgBreakpoint 3, 0xFFFFFFFF)], ?_, ?_, ?_⟩ <;> decide +kernel
  · refine ⟨(idle .m4).modWk fun w => { w with writes := [{ frame := req 16, entries := [(P.lnkSweepPhase 0, 500)] }] }, req 16,
      P.lnkSweepPhase 0, 500, ⟨0x0802, 16, 128, 1, 0x12, .rw, 2, 0, .span (-500) 500⟩, ?_, ?_, ?_, ?_, ?_, ?_⟩ <;> decide
      +kernel

theorem witness_SettingsAndSealedSetComplete :
    (∃ (s : State) (f : Frame), s.takes f cmdSettingsCommit = true ∧ f.length = 0 ∧ (s.taken f cmdSettingsCommit).validate =
        none) ∧
    (∃ (s : State) (f : Frame), s.takes f cmdSettingsDiscard = true ∧ f.length = 0) ∧
    (∃ (s : State) (f : Frame) (crc : Nat) (l : List ParamEntry) (x : List (Nat × Int)), s.takes f cmdSealedSetWrite = true ∧
        (s.modes.mode = .m3 ∨ s.modes.mode = .m4) ∧ 1 ≤ l.length ∧ l.length ≤ 64 ∧ f.length = 8 + 12 * l.length ∧ ((∀ e ∈ l, ∃
        r, wRow e.index = some r ∧ r.acc = .sl)) ∧ crc32 (rawEntries l) = crc ∧ (s.taken f cmdSealedSetWrite).writeCheck true 8
        l = .ok x) ∧
    (∃ (s : State) (f : Frame) (crc : Nat) (x : List (Nat × Int)), s.takes f cmdSealedSetConfirm = true ∧ (s.modes.mode = .m3 ∨
        s.modes.mode = .m4) ∧ f.length = 4 ∧ s.par.pendingSet = some (x, crc) ∧ s.wk.confirming = none ∧ crc32 s.par.pendingRaw
        = crc ∧ x.all inRange = true) ∧
    (∃ (s : State), s.par.burst = true ∧ s.settings.isSome = true) ∧
    (∃ (s : State) (f : Frame) (crc : Nat) (x : List (Nat × Int)), s.takes f cmdSealedSetConfirm = true ∧ (s.modes.mode = .m3 ∨
        s.modes.mode = .m4) ∧ f.length = 4 ∧ s.par.pendingSet = some (x, crc) ∧ s.wk.confirming = none ∧ (guardConfirms
        s.par.pendingRaw crc x = false ∨ strongConfirms s.par.pendingRaw crc x = false)) := by
  refine ⟨?_, ?_, ?_, ?_, ?_, ?_⟩
  · refine ⟨idle .m3, req 0, ?_, ?_, ?_⟩ <;> decide +kernel
  · refine ⟨idle .m3, req 0, ?_, ?_⟩ <;> decide +kernel
  · refine ⟨idle .m4, req 20, crc32 (rawEntries [{ index := P.brkOvLimit, ty := 2, value := 42000 }]),
      [{ index := P.brkOvLimit, ty := 2, value := 42000 }], [(P.brkOvLimit, 42000)], ?_, ?_, ?_, ?_, ?_, ?_, ?_, ?_⟩ <;> decide
      +kernel
  · refine ⟨(idle .m3).modPar fun p => { p with pendingSet := some ([(P.brkOvLimit, 42000)], crc32 [1]), pendingRaw := [1] },
      req 4, crc32 [1], [(P.brkOvLimit, 42000)], ?_, ?_, ?_, ?_, ?_, ?_, ?_⟩ <;> decide +kernel
  · refine ⟨((idle .m4).modPar fun p => { p with burst := true }).modVault fun v =>
      { v with records := v.records.set 320 (some { content := .settings {} [] }) }, ?_, ?_⟩ <;> decide +kernel
  · refine ⟨(idle .m3).modPar fun p => { p with pendingSet := some ([(P.brkOvLimit, 42000)], 5) }, req 4, 5, [(P.brkOvLimit,
      42000)], ?_, ?_, ?_, ?_, ?_, ?_⟩ <;> decide +kernel

theorem witness_ControlCommandsComplete :
    (∃ (s : State) (f : Frame), s.takes f cmdModeRequest = true ∧ f.length = 1 ∧ s.modes.mode = .m4 ∧ ((∀ p, p < 20 → (s.taken f
        cmdModeRequest).pathClosed p = false ∧ s.saf.coil.testBit p = false))) ∧
    (∃ (s u : State) (f : Frame), s.takes f cmdModeRequest = true ∧ f.length = 1 ∧ s.modes.mode = .m4 ∧ (s.taken f
        cmdModeRequest).requestDormant 0 = (none, u)) ∧
    (∃ (s : State) (f : Frame), s.takes f cmdRestart (inM2 := true) = true ∧ f.length = 1 ∧ s.onString = false) ∧
    (∃ (s : State) (f : Frame), s.takes f cmdRestart (inM2 := true) = true ∧ f.length = 1 ∧ s.modes.mode.runs = false) ∧
    (∃ (s : State) (f : Frame), s.takes f cmdClose = true ∧ f.length = 0 ∧ s.modes.mode = .m4 ∧ s.saf.close = none ∧ (s.taken f
        cmdClose).closeUnmet = none) ∧
    (∃ (s : State) (f : Frame), s.takes f cmdStop = true ∧ f.length = 0 ∧ s.onString = true ∧ s.active = true ∧ s.saf.close =
        none ∧ s.saf.opening = none ∧ s.prof.openWait = false ∧ s.prof.stopRamp = none) ∧
    (∃ (s : State) (f : Frame), s.takes f cmdTrip = true ∧ f.length = 0 ∧ s.whole (src 3 8) noItem) ∧
    (∃ (s : State) (f : Frame) (source : Nat), s.takes f cmdFaultAck = true ∧ f.length = 2) ∧
    (∃ (s : State) (f : Frame) (source : Nat), s.wk.writes = [{ frame := f, code := 0x0206, ack := some source }]) := by
  refine ⟨?_, ?_, ?_, ?_, ?_, ?_, ?_, ?_, ?_⟩
  · refine ⟨idle .m4, req 1, ?_, ?_, ?_, (by decide +kernel : ∀ p, p < 20 → ((idle .m4).taken (req 1) cmdModeRequest).pathClosed
      p = false ∧ (idle .m4).saf.coil.testBit p = false)⟩ <;> decide +kernel
  · refine ⟨(idle .m4).modPower fun x => { x with bankMilliVolt := 44000 }, (((((idle .m4).modPower fun x =>
      { x with bankMilliVolt := 44000 }).taken (req 1) cmdModeRequest).requestDormant 0).2), req 1, ?_, ?_, ?_, ?_⟩ <;> decide
      +kernel
  · refine ⟨idle .m4, req 1, ?_, ?_, ?_⟩ <;> decide +kernel
  · refine ⟨idle .m2, req 1, ?_, ?_, ?_⟩ <;> decide +kernel
  · refine ⟨((idle .m4).modPower fun x => { x with bankMilliVolt := 44000 }).modSec (fun x => { x with convFresh := true }), req
      0, ?_, ?_, ?_, ?_, ?_⟩ <;> decide +kernel
  · refine ⟨idle .m5, req 0 0, ?_, ?_, ?_, ?_, ?_, ?_, ?_, ?_⟩ <;> decide +kernel
  · refine ⟨idle .m5, req 0 0, ?_, ?_, rfl⟩ <;> decide +kernel
  · refine ⟨idle .m5, req 2, 65535, ?_, ?_⟩ <;> decide +kernel
  · refine ⟨(idle .m4).modWk fun w => { w with writes := [{ frame := req 2, code := 0x0206, ack := some 65535 }] }, req 2,
      65535, ?_⟩ <;> decide +kernel

theorem witness_TestAndProgramCommandsComplete :
    (∃ (s : State) (f : Frame) (b : Nat) (t : Int), s.takes f cmdBalanceTest = true ∧ f.length = 8 ∧ s.brickUsed b = true ∧
        s.hasUpper b = true ∧ t ≠ 0 ∧ t.natAbs ≤ 100000 ∧ s.survey.state = 0 ∧ s.est.pairs = []) ∧
    (∃ (s : State) (f : Frame) (r : Nat), s.takes f cmdSurveyStart = true ∧ f.length = 1 ∧ hasIsu s.ident.variant = true ∧ r < 8
        ∧ s.railUsed r = true ∧ s.hasLoop r = true ∧ s.survey.state = 0 ∧ s.steerState r ≠ 5 ∧ (s.taken f
        cmdSurveyStart).surveyCondition r = 0) ∧
    (∃ (s : State) (f : Frame) (r : Nat), s.takes f cmdSurveyAbort = true ∧ f.length = 1 ∧ hasIsu s.ident.variant = true ∧
        s.survey.state = 1 ∧ s.survey.rail = r ∧ r < 8) ∧
    (∃ (s : State) (f : Frame) (mask : Nat), s.takes f cmdLoopFlagsClear = true ∧ f.length = 2 ∧ mask < 2 ^ 16 ∧ ((∀ k, k < 8 →
        mask.testBit k = true → s.hasLoop k = true))) ∧
    (∃ (s : State) (f : Frame) (k : Nat) (a : U32), s.takes f cmdLoopTest = true ∧ f.length = 12 ∧ k < 16 ∧ ((k < 8 → s.hasLoop
        k = true)) ∧ f32Finite a = true ∧ f32Val a ≠ 0 ∧ ((k < 8 → mag32 a ≤ 400)) ∧ s.steer.tuneState ≠ 1 ∧ s.survey.state = 0
        ∧ (s.taken f cmdLoopTest).testCondition k = 0) ∧
    (∃ (s : State) (f : Frame), s.takes f cmdProgramControl (also := decide (s.modes.mode = .m7)) = true ∧ f.length = 1 ∧
        s.prg.state = 1 ∧ s.prg.exchange = 0) := by
  refine ⟨?_, ?_, ?_, ?_, ?_, ?_⟩
  · refine ⟨plant .m5, req 8, 46, -100000, ?_, ?_, ?_, ?_, ?_, ?_, ?_, ?_⟩ <;> decide +kernel
  · refine ⟨steering, req 1 3, 0, ?_, ?_, ?_, ?_, ?_, ?_, ?_, ?_, ?_⟩ <;> decide +kernel
  · refine ⟨(idle .m5).modSurvey fun x => { x with state := 1, rail := 7 }, req 1, 7, ?_, ?_, ?_, ?_, ?_, ?_⟩ <;> decide +kernel
  · refine ⟨idle .m4, req 2, 65535, ?_, ?_, ?_, (by decide +kernel : ∀ k, k < 8 → Nat.testBit 65535 k = true → (idle
      .m4).hasLoop k = true)⟩ <;> decide +kernel
  · refine ⟨(idle .m4).force (P.loopEnable 15) 1, req 12 3, 15, 0x43C80000#32, ?_, ?_, ?_, ?_, ?_, ?_, ?_, ?_, ?_, ?_⟩ <;>
      decide +kernel
  · refine ⟨programming id, req 1, ?_, ?_, ?_, ?_⟩ <;> decide +kernel

theorem witness_UpdateCommandsComplete :
    (∃ (s : State) (f : Frame) (kind length digest : Nat), s.takes f cmdLeaseAcquire (also := decide (s.modes.mode = .m2)) (inM2
        := true) = true ∧ f.length = 56 ∧ kind ≤ 1 ∧ ((s.modes.mode = .m2 → kind = 0)) ∧ 1 ≤ length ∧ length ≤ imageMost kind ∧
        s.noTrial = true ∧ s.upd.holder = none ∧ s.upd.staged ≠ some (kind, digest)) ∧
    (∃ (s : State) (f : Frame), s.takes f cmdLeaseRelease = true ∧ f.length = 0 ∧ s.upd.holder = some f.src) ∧
    (∃ (s : State) (f : Frame) (d : List Byte), s.takes f cmdImageChunk (also := decide (s.modes.mode = .m2)) (inM2 := true) =
        true ∧ 1 ≤ d.length ∧ d.length ≤ 1016 ∧ f.length = 8 + d.length ∧ s.upd.holder = some f.src ∧ s.upd.received + d.length
        ≤ s.upd.length) ∧
    (∃ (s : State) (f : Frame) (c : ImageCheck), s.takes f cmdImageFinish (also := decide (s.modes.mode = .m2)) (inM2 := true) =
        true ∧ f.length = 0 ∧ s.upd.holder = some f.src ∧ s.upd.length ≤ s.upd.received) ∧
    (∃ (s : State) (f : Frame) (number : Nat), s.takes f cmdIssueTrial = true ∧ f.length = 4 ∧ s.noTrial = true ∧
        s.upd.control.slotIssue.getD (1 - s.upd.runningSlot) 0 = number ∧ s.upd.control.slotState.getD (1 - s.upd.runningSlot) 0
        = 2 ∧ s.fitted = false) ∧
    (∃ (s : State) (f : Frame), s.takes f cmdIssueConfirm = true ∧ f.length = 1 ∧ s.upd.trial = true) ∧
    (∃ (s : State) (f : Frame), s.takes f cmdIssueReject = true ∧ f.length = 1 ∧ s.upd.trial = true) ∧
    (∃ (s : State) (f : Frame) (i : Nat) (d : List Byte), s.takes f cmdAnchorWrite = true ∧ i ≤ 3 ∧ 1 ≤ d.length ∧ d.length ≤
        1000 ∧ f.length = 4 + d.length) ∧
    (∃ (s : State) (x : Nat), s.upd.holder = some x) ∧
    (∃ (s : State), s.upd.holder = none) ∧
    (∃ (s : State), s.upd.trial = true ∧ s.upd.trialFrom.isSome = true) := by
  refine ⟨?_, ?_, ?_, ?_, ?_, ?_, ?_, ?_, ?_, ?_, ?_⟩
  · refine ⟨idle .m2, req 56 4, 0, 8384512, 9, ?_, ?_, ?_, ?_, ?_, ?_, ?_, ?_, ?_⟩ <;> decide +kernel
  · refine ⟨(idle .m3).modUpd fun u => { u with holder := some 1 }, req 0 4, ?_, ?_, ?_⟩ <;> decide +kernel
  · refine ⟨(idle .m3).modUpd fun u => { u with holder := some 1, length := 1016 }, req 1024 4, List.replicate 1016 0, ?_, ?_,
      ?_, ?_, ?_, ?_⟩ <;> decide +kernel
  · refine ⟨(idle .m3).modUpd fun u => { u with holder := some 1 }, req 0 4, {}, ?_, ?_, ?_, ?_⟩ <;> decide +kernel
  · refine ⟨(idle .m3).modUpd fun u => { u with control := { u.control with slotState := [3, 2], slotIssue := [1, 2] } }, req 4
      4, 2, ?_, ?_, ?_, ?_, ?_, ?_⟩ <;> decide +kernel
  · refine ⟨(idle .m3).modUpd fun u => { u with trial := true }, req 1 4, ?_, ?_, ?_⟩ <;> decide +kernel
  · refine ⟨(idle .m3).modUpd fun u => { u with trial := true }, req 1 4, ?_, ?_, ?_⟩ <;> decide +kernel
  · refine ⟨idle .m3, req 1004 4, 3, List.replicate 1000 1, ?_, ?_, ?_, ?_, ?_⟩ <;> decide +kernel
  · refine ⟨(idle .m4).modUpd fun u => { u with holder := some 1 }, 1, ?_⟩ <;> decide +kernel
  · refine ⟨idle .m4, ?_⟩ <;> decide +kernel
  · refine ⟨(idle .m4).modUpd fun u => { u with trial := true, trialFrom := some 0 }, ?_, ?_⟩ <;> decide +kernel

theorem witness_LinkRepliesComplete :
    (∃ (s : State) (n hop p rtt : Nat) (x : LineHead), s.replies n hop 0x03 x [] p = true ∧ (s.mon n p).echoes < 7) ∧
    (∃ (s : State) (n hop p rtt : Nat) (x : LineHead), s.replies n hop 0x03 x [] p = true ∧ (s.mon n p).echoes = 7) ∧
    (∃ (s : State) (n hop p delay slot : Nat) (x : LineHead), s.replies n hop 0x04 x (wireBytes [(2, delay), (1, slot), (1, 0)])
        p = true) ∧
    (∃ (s : State) (n hop p first : Nat) (regs : List Nat) (x : LineHead), s.replies n hop 0x08 x (regBytes first regs) p = true
        ∧ (s.registers.drop first).take regs.length = regs) ∧
    (∃ (s : State) (n hop p first : Nat) (regs : List Nat) (x : LineHead), s.replies n hop 0x09 x (regBytes first regs) p = true
        ∧ (s.registers.drop first).take regs.length = regs) ∧
    (∃ (s : State) (n hop p first i : Nat) (regs : List Nat) (x : LineHead), s.replies n hop 0x08 x (regBytes first regs) p =
        true ∧ i < regs.length ∧ first + i < 4 ∧ regs.getD i 0 ≠ s.registers.getD (first + i) 0 ∧ s.whole (src 1 13) (itemLink n
        p)) ∧
    (∃ (s : State) (n hop p : Nat) (f : Found) (x : LineHead), s.replies n hop 0x02 x f.bytes p = true ∧ (s.links.get n).waking
        = false ∧ (s.links.get n).hopCheck = some (hop + 1)) ∧
    (∃ (s : State) (n hop : Nat) (f : Found) (x : LineHead), s.linkHears n = true ∧ x.accepts 1 hop 0x05 f.bytes = true ∧
        (s.links.get n).enumerating = true) := by
  refine ⟨?_, ?_, ?_, ?_, ?_, ?_, ?_, ?_⟩
  · refine ⟨(asked 0x03), 0, 1, 1, 500, line 1 1 0x03 [], ?_, ?_⟩ <;> decide +kernel
  · refine ⟨asked 0x03 (fun l => { l with mons := [(1, { echoes := 7, rttSum := 124816 })] }), 0, 1, 1, 0, line 1 1 0x03 [], ?_,
      ?_⟩ <;> decide +kernel
  · refine ⟨asked 0x04, 0, 1, 1, 0, 1, line 1 1 0x04 (wireBytes [(2, 0), (1, 1), (1, 0)]), ?_⟩ <;> decide +kernel
  · refine ⟨asked 0x08, 0, 1, 1, 0, (asked 0x08).registers, line 1 1 0x08 (regBytes 0 (asked 0x08).registers), ?_, ?_⟩ <;>
      decide +kernel
  · refine ⟨asked 0x09, 0, 1, 1, 0, (asked 0x09).registers, line 1 1 0x09 (regBytes 0 (asked 0x09).registers), ?_, ?_⟩ <;>
      decide +kernel
  · refine ⟨asked 0x08, 0, 1, 1, 0, 0, [0], line 1 1 0x08 (regBytes 0 [0]), ?_, ?_, ?_, ?_, rfl⟩ <;> decide +kernel
  · refine ⟨asked 0x02 (fun l => { l with hopCheck := some 2 }), 0, 1, 1, {}, line 1 1 0x02 (Found.bytes {}), ?_, ?_, ?_⟩ <;>
      decide +kernel
  · refine ⟨onLink (fun l => { l with enumerating := true }), 0, 1, {}, line 1 1 0x05 (Found.bytes {}), ?_, ?_, ?_⟩ <;> decide
      +kernel

theorem witness_LinkTimersComplete :
    (∃ (s : State) (n : Nat), s.sends n = true ∧ s.swept n = true ∧ (s.links.get n).outstanding.isSome = true) ∧
    (∃ (s : State) (n p : Nat), s.sends n = true ∧ s.swept n = true ∧ (s.reached n).contains p = true ∧ (s.links.get
        n).outstanding.isSome = true) ∧
    (∃ (s : State) (n : Nat), (s.links.get n).enumerating = true ∧ (s.links.get n).enumByPartner = false ∧ s.pos = 0 ∧
        s.twin.role = .none ∧ s.twinState = 2) ∧
    (∃ (s : State) (n : Nat) (c : LinkCmd), (s.links.get n).outstanding = some c ∧ c.opcode ≠ 0x06 ∧ (s.links.get n).waking =
        false ∧ c.resends < 2 ∧ (s.links.get n).queue = []) ∧
    (∃ (s : State) (n : Nat), s.linkUsed n = true ∧ (s.links.get n).state ≠ 0 ∧ (s.links.get n).state ≠ 4) ∧
    (∃ (s : State) (n : Nat), (s.links.get n).waking = true ∧ s.sends n = true ∧ s.modes.mode = .m3) ∧
    (∃ (s : State) (n : Nat), (s.links.get n).waking = true ∧ s.sends n = true ∧ s.modes.mode ≠ .m1 ∧ s.modes.mode ≠ .m3 ∧
        s.whole (src 1 3) (itemLink n)) ∧
    (∃ (s : State) (n : Nat), s.linkUsed n = true ∧ s.pos = 1 ∧ s.twin.role = .none ∧ (s.links.get n).state ≠ 0 ∧ (s.links.get
        n).state ≠ 1) ∧
    (∃ (s : State) (n hop opcode : Nat) (x : LineHead) (l : List Nat), s.hearsCommand n hop opcode x l = true ∧ x.origin ≠ s.pos
        ∧ s.twin.role = .none ∧ s.pos = 1) ∧
    (∃ (s : State) (n hop opcode : Nat) (x : LineHead) (l : List Nat), s.hearsCommand n hop opcode x l = true ∧ x.origin ≠ s.pos
        ∧ s.twin.role = .active ∧ s.whole (src 1 11) (itemLink n)) ∧
    (∃ (s : State) (n : Nat), s.linkUsed n = true ∧ s.toneDisagrees n = true ∧ s.whole (src 1 9) (itemLink n)) := by
  refine ⟨?_, ?_, ?_, ?_, ?_, ?_, ?_, ?_, ?_, ?_, ?_⟩
  · refine ⟨asked 0x03, 0, ?_, ?_, ?_⟩ <;> decide +kernel
  · refine ⟨asked 0x03, 0, 1, ?_, ?_, ?_, ?_⟩ <;> decide +kernel
  · refine ⟨(onLink fun l => { l with enumerating := true }).modTwin (fun x =>
      { x with role := .none, linkUp := true, silentCycles := 0 }), 0, ?_, ?_, ?_, ?_, ?_⟩ <;> decide +kernel
  · refine ⟨asked 0x03 (fun l => { l with outstanding := some { hop := 2, opcode := 0x03, resends := 1 } }), 0,
      { hop := 2, opcode := 0x03, resends := 1 }, ?_, ?_, ?_, ?_, ?_⟩ <;> decide +kernel
  · refine ⟨onLink id, 0, ?_, ?_, ?_⟩ <;> decide +kernel
  · refine ⟨(plant .m3).modLink 0 (fun l => { l with waking := true }), 0, ?_, ?_, ?_⟩ <;> decide +kernel
  · refine ⟨(plant .m5).modLink 0 (fun l => { l with waking := true }), 0, ?_, ?_, ?_, ?_, rfl⟩ <;> decide +kernel
  · refine ⟨((onLink id).modTwin fun x => { x with role := .none }).modPower (fun x =>
      { x with straps := { x.straps with twposB := 1 } }), 0, ?_, ?_, ?_, ?_, ?_⟩ <;> decide +kernel
  · refine ⟨((onLink id).modTwin fun x => { x with role := .none }).modPower (fun x =>
      { x with straps := { x.straps with twposB := 1 } }), 0, 7, 0x01, line 0 7 0x01 [0#8], [0], ?_, ?_, ?_, ?_⟩ <;> decide
      +kernel
  · refine ⟨onLink id, 0, 7, 0x01, line 0 7 0x01 [0#8] 1, [0], ?_, ?_, ?_, rfl⟩ <;> decide +kernel
  · refine ⟨onLink (fun l => { l with tone := true }), 0, ?_, ?_, rfl⟩ <;> decide +kernel

theorem witness_MeasurementRepliesComplete :
    (∃ (s : State) (n hop p flags status : Nat) (applied : List Int) (x : LineHead), s.replies n hop 0x06 x (balanceBytes flags
        applied status) p = true ∧ applied.length = 12) ∧
    (∃ (s : State) (n hop p line : Nat) (h : LineHead) (x : OpenWire), s.replies n hop 0x07 h (wireBytes [(1, line), (1, 1)]) p
        = true ∧ (s.links.get n).owTest = some x ∧ x.line = line ∧ bitOf x.mons p = true) ∧
    (∃ (s : State) (n hop p line : Nat) (h : LineHead) (x : OpenWire), s.replies n hop 0x07 h (wireBytes [(1, line), (1, 0)]) p
        = true ∧ (s.links.get n).owTest = some x ∧ x.line = line ∧ bitOf x.mons p = true ∧ s.whole (src 0 9) (itemLink n p
        line)) ∧
    (∃ (s : State) (n hop p status : Nat) (x : LineHead), s.replies n hop 0x0A x (wireBytes [(2, status)]) p = true) ∧
    (∃ (s : State) (r : SampleReply) (p : Nat), s.linkHears r.link = true ∧ r.head.accepts 1 r.hop 0x01 (sampleBytes r) = true ∧
        s.posOf r.link r.hop = some p ∧ r.head.endUs ≤ 600 ∧ s.swept r.link = true ∧ (s.links.get r.link).sampled = true ∧
        s.counts (r.link % 2) = true) := by
  refine ⟨?_, ?_, ?_, ?_, ?_⟩
  · refine ⟨asked 0x06, 0, 1, 1, 1, 0, List.replicate 12 5, line 1 1 0x06 (balanceBytes 1 (List.replicate 12 5) 0), ?_, ?_⟩ <;>
      decide +kernel
  · refine ⟨asked 0x07 (fun l => { l with owTest := some { line := 3 } }), 0, 1, 1, 3, line 1 1 0x07 (wireBytes [(1, 3), (1,
      1)]), { line := 3 }, ?_, ?_, ?_, ?_⟩ <;> decide +kernel
  · refine ⟨asked 0x07 (fun l => { l with owTest := some { line := 3 } }), 0, 1, 1, 3, line 1 1 0x07 (wireBytes [(1, 3), (1,
      0)]), { line := 3 }, ?_, ?_, ?_, ?_, rfl⟩ <;> decide +kernel
  · refine ⟨asked 0x0A, 0, 1, 1, 0, line 1 1 0x0A (wireBytes [(2, 0)]), ?_⟩ <;> decide +kernel
  · refine ⟨onLink (fun l => { l with sampled := true }), quietReply, 1, ?_, ?_, ?_, ?_, ?_, ?_, ?_⟩ <;> decide +kernel

theorem witness_MeasurementWorkCompletes :
    (∃ (s : State) (n p : Nat), s.sends n = true ∧ s.swept n = true ∧ (s.reached n).contains p = true ∧ (s.maySend n = true ∨
        s.pairOn n = true) ∧ (s.links.get n).outstanding.isSome = true) ∧
    (∃ (s : State) (n b : Nat), s.usedLinks = [n] ∧ b ∈ s.bricksOfLink n) ∧
    (∃ (s : State) (n : Nat), s.testsLines n = true ∧ (s.links.get n).owLines = []) ∧
    (∃ (s : State) (n p : Nat), s.nat P.measStackCount ≤ (s.mon n p).stackFails ∧ (s.mon n p).stackTest = false ∧ s.testsLines n
        = true ∧ (s.links.get n).owTest = none ∧ (s.links.get n).owSpecial = [] ∧ (s.links.get n).owDeferred = []) ∧
    (∃ (s : State) (n : Nat), s.linkUsed n = true) ∧
    (∃ (s : State) (n hop a b c d m e : Nat) (x : LineHead), s.hearsCommand n hop 0x01 x [a, b, c, d, m, e] = true ∧ s.sends n =
        false ∧ (s.links.get n).state ≠ 5) ∧
    (∃ (s : State) (n hop line a b : Nat) (x : LineHead), s.hearsCommand n hop 0x07 x [line, 1, a, b] = true ∧ s.sends n = false
        ∧ (s.links.get n).owTest = none ∧ (s.links.get n).state ≠ 5) := by
  refine ⟨?_, ?_, ?_, ?_, ?_, ?_, ?_⟩
  · refine ⟨(asked 0x03).force (P.lnkBalanceEnable 0) 1, 0, 1, ?_, ?_, ?_, ?_, ?_⟩ <;> decide +kernel
  · refine ⟨(idle .m5).force (P.lnkRail 0) 0, 0, 23, ?_, ?_⟩ <;> decide +kernel
  · refine ⟨onLink id, 0, ?_, ?_⟩ <;> decide +kernel
  · refine ⟨onLink (fun l => { l with mons := [(1, { stackFails := 255 })] }), 0, 1, ?_, ?_, ?_, ?_, ?_, ?_⟩ <;> decide +kernel
  · refine ⟨onLink id, 0, ?_⟩ <;> decide +kernel
  · refine ⟨(onLink id).modTwin (fun x => { x with role := .standby }), 0, 7, 1, 0, 0, 0, 0, 0, line 0 7 0x01 [1#8, 0, 0, 0, 0,
      0] 1, ?_, ?_, ?_⟩ <;> decide +kernel
  · refine ⟨(onLink id).modTwin (fun x => { x with role := .standby }), 0, 2, 1, 0, 0, line 0 2 0x07 [1#8, 1, 0, 0] 1, ?_, ?_,
      ?_, ?_⟩ <;> decide +kernel

theorem witness_AnchorsComplete :
    (∃ (s : State) (b : Nat), s.brickUsed b = true ∧ (s.bricks.get b).excluded = false ∧ (s.bricks.get b).voltage ≠ 0xFFFF ∧
        s.nat P.estFullVoltage ≤ (s.bricks.get b).voltage ∧ (s.bricks.get b).below (s.nat P.estFullDivisor) ((s.bricks.get b).dq
        : Rat) = true ∧ (s.bricks.get b).moved (s.bricks.get b).fullAt = true) ∧
    (∃ (s : State) (b : Nat), s.brickUsed b = true ∧ (s.bricks.get b).excluded = false ∧ s.nat P.estEmptySweeps ≤ (s.bricks.get
        b).emptyRun ∧ (s.bricks.get b).moved (s.bricks.get b).emptyAt = true) := by
  refine ⟨?_, ?_⟩
  · refine ⟨(plant .m5).modBrick 47 (fun b => { b with voltage := 65534 }), 47, ?_, ?_, ?_, ?_, ?_, ?_⟩ <;> decide +kernel
  · refine ⟨(plant .m5).modBrick 47 (fun b => { b with emptyRun := 100000 }), 47, ?_, ?_, ?_, ?_⟩ <;> decide +kernel

theorem witness_EstimateWorkCompletes :
    (∃ (s : State), s.vault.writing = none) ∧
    (∃ (s : State), s.vault.writing = none ∧ s.est.holdoff = true) ∧
    (∃ (s : State) (r : Nat), s.railUsed r = true ∧ (s.rails.get r).restTaken = false ∧ (s.rails.get r).restHold = false ∧
        (s.nat P.estRestTime - s.nat P.estRestHold) * 60 ≤ (s.rails.get r).restTimer) ∧
    (∃ (s : State) (r : Nat), s.railUsed r = true ∧ (s.rails.get r).restTaken = false ∧ (s.rails.get r).restHold = true ∧ s.nat
        P.estRestTime * 60 ≤ (s.rails.get r).restTimer) ∧
    (∃ (s : State) (r : Nat) (charge : Bool), s.railUsed r = true ∧ s.restBelow r ((s.rails.get r).current : Rat) = false ∧ (if
        charge then 0 < (s.rails.get r).current else (s.rails.get r).current < 0)) ∧
    (∃ (s : State) (b : Nat), s.brickUsed b = true ∧ (s.bricks.get b).voltage ≠ 0xFFFF ∧ bitOf (s.bricks.get b).status 6 = false
        ∧ (s.bricks.get b).rawPosition = 10000 ∧ 0 < (s.bricks.get b).dq ∧ (s.bricks.get b).voltage + s.nat P.estDriftMargin <
        s.nat P.estFullVoltage ∧ s.whole (src 0 10) (itemBrick b)) ∧
    (∃ (s : State) (r : Nat), s.railUsed r = true ∧ (s.rails.get r).shuntValid = true ∧ (s.rails.get r).hallValid = true ∧
        s.whole (src 0 13) (item 3 r)) ∧
    (∃ (s : State), s.est.position ≠ 0xFFFF) ∧
    (∃ (s : State), s.counts 0 = true ∧ s.counts 1 = true) := by
  refine ⟨?_, ?_, ?_, ?_, ?_, ?_, ?_, ?_, ?_⟩
  · refine ⟨idle .m4, ?_⟩ <;> decide +kernel
  · refine ⟨(idle .m4).modEst fun x => { x with holdoff := true }, ?_, ?_⟩ <;> decide +kernel
  · refine ⟨(plant .m5).modRail 0 (fun x => { x with restTimer := 100000 }), 0, ?_, ?_, ?_, ?_⟩ <;> decide +kernel
  · refine ⟨(plant .m5).modRail 0 (fun x => { x with restTimer := 100000, restHold := true }), 0, ?_, ?_, ?_, ?_⟩ <;> decide
      +kernel
  · refine ⟨(plant .m5).modRail 0 (fun x => { x with current := -100000 }), 0, false, ?_, ?_, ?_⟩ <;> decide +kernel
  · refine ⟨(plant .m5).modBrick 0 (fun b => { b with voltage := 0, dq := 1, q := 999999999999999, e := 0 }), 0, ?_, ?_, ?_, ?_,
      ?_, ?_, rfl⟩ <;> decide +kernel
  · refine ⟨plant .m5, 0, ?_, ?_, ?_, rfl⟩ <;> decide +kernel
  · refine ⟨(plant .m5).modEst fun x => { x with position := 65534 }, ?_⟩ <;> decide +kernel
  · refine ⟨plant .m5, ?_, ?_⟩ <;> decide +kernel

theorem witness_SurveyEventsComplete :
    (∃ (s : State), hasIsu s.ident.variant = true ∧ s.active = true) ∧
    (∃ (s : State) (r : Nat) (l : List Nat), s.survey.todo = r :: l ∧ s.survey.windowOpen = true ∧ s.survey.state = 0 ∧
        s.railUsed r = true ∧ s.hasLoop r = true ∧ s.steerState r ≠ 5 ∧ s.active = true ∧ s.surveyCondition r = 0) ∧
    (∃ (s : State) (r : Nat), s.survey.windowOpen = true ∧ s.survey.state = 0 ∧ s.survey.todo = [r] ∧ r <
        s.survey.lastResult.length ∧ r < s.survey.lastNumber.length) ∧
    (∃ (s : State), s.survey.state = 1 ∧ ((∀ n p, n ∈ s.linksOf s.survey.rail → p < s.monCount n → s.survey.quiet.contains (2 *
        n + p) = true))) ∧
    (∃ (s : State), s.survey.state = 1 ∧ s.survey.rail < s.survey.lastResult.length) ∧
    (∃ (s : State), s.survey.state = 2 ∧ 10000 * (s.survey.period + 1) ≤ s.survey.sweeps) ∧
    (∃ (s : State), s.survey.state = 3 ∧ 2 ≤ s.survey.period ∧ s.survey.period < s.nat P.survPeriods ∧ 10000 * (s.survey.period
        + 1) ≤ s.survey.sweeps) ∧
    (∃ (s : State), s.survey.state = 4 ∧ s.survey.weight = 0 ∧ s.survey.ending = none) ∧
    (∃ (s : State) (n hop p block sweep : Nat) (x : LineHead) (c : LinkCmd) (samples : List Nat), s.replies n hop 0x0B x
        (wireBytes (samples.map fun y => (2, y))) p = true ∧ (s.links.get n).outstanding = some c ∧ samples.length = 32 ∧ 2 ≤
        s.survey.state ∧ c.fetches block sweep = true ∧ (s.time.sweep + 2 ^ 16 - sweep) % 2 ^ 16 ≤ s.survey.sweeps) ∧
    (∃ (s : State), s.survey.state = 5 ∧ s.survey.rail < s.survey.lastResult.length) := by
  refine ⟨?_, ?_, ?_, ?_, ?_, ?_, ?_, ?_, ?_, ?_⟩
  · refine ⟨idle .m5, ?_, ?_⟩ <;> decide +kernel
  · refine ⟨steering.modSurvey (fun x => { x with windowOpen := true, todo := [0] }), 0, [], ?_, ?_, ?_, ?_, ?_, ?_, ?_, ?_⟩ <;>
      decide +kernel
  · refine ⟨(idle .m5).modSurvey (fun x => { x with windowOpen := true, todo := [7] }), 7, ?_, ?_, ?_, ?_, ?_⟩ <;> decide
      +kernel
  · refine ⟨quieted, ?_, quieted_all⟩ <;> decide +kernel
  · refine ⟨(idle .m5).modSurvey fun x => { x with state := 1, rail := 7 }, ?_, ?_⟩ <;> decide +kernel
  · refine ⟨(idle .m5).modSurvey fun x => { x with state := 2, sweeps := 10000 }, ?_, ?_⟩ <;> decide +kernel
  · refine ⟨(idle .m5).modSurvey fun x => { x with state := 3, period := 2, sweeps := 30000 }, ?_, ?_, ?_, ?_⟩ <;> decide
      +kernel
  · refine ⟨(idle .m5).modSurvey fun x => { x with state := 4 }, ?_, ?_, ?_⟩ <;> decide +kernel
  · refine ⟨((asked 0x0B).modLink 0 fun l =>
      { l with outstanding := some { hop := 2, opcode := 0x0B, payload := [0, 0, 0, 0] } }).modSurvey (fun x =>
      { x with state := 2 }), 0, 1, 1, 0, 0, line 1 1 0x0B (wireBytes ((List.replicate 32 0).map fun y => (2, y))),
      { hop := 2, opcode := 0x0B, payload := [0, 0, 0, 0] }, List.replicate 32 0, ?_, ?_, ?_, ?_, ?_, ?_⟩ <;> decide +kernel
  · refine ⟨(idle .m5).modSurvey fun x => { x with state := 5, rail := 7 }, ?_, ?_⟩ <;> decide +kernel

theorem witness_LoopRunsComplete :
    (∃ (s : State) (x : TickInputs), s.power.mainUp = true ∧ s.power.mainHeld = false ∧ (s.arch.engines.get 5).inReset = false ∧
        ((∀ k, k < 8 → s.loopRuns k = false))) ∧
    (∃ (s : State) (x : TickInputs) (k : Nat), s.power.mainUp = true ∧ s.power.mainHeld = false ∧ s.loopRuns k = true ∧ k < 8 ∧
        ((∀ j, j < 8 → j ≠ k → s.loopRuns j = false))) ∧
    (∃ (s : State), s.active = true ∧ (s.arch.engines.get 5).inReset = false ∧ s.trs.state ≠ 2 ∧ 3 ≤ s.modes.mode.num) ∧
    (∃ (s : State), s.steer.sampleCount = 65536 ∧ s.steer.tuneState = 1) ∧
    (∃ (s : State) (r : Nat), s.power.mainUp = true ∧ s.power.mainHeld = false ∧ (s.arch.engines.get 5).inReset = false ∧ (∀ k,
        k < 8 → s.loopRuns k = false) ∧ s.active = true ∧ r < 8 ∧ s.trimUsed r = true) := by
  refine ⟨?_, ?_, ?_, ?_, ?_⟩
  · refine ⟨idle .m5, {}, ?_, ?_, ?_, (by decide +kernel : ∀ k, k < 8 → (idle .m5).loopRuns k = false)⟩ <;> decide +kernel
  · refine ⟨steering, {}, 0, ?_, ?_, ?_, ?_, (by decide +kernel : ∀ j, j < 8 → j ≠ 0 → steering.loopRuns j = false)⟩ <;> decide
      +kernel
  · refine ⟨idle .m5, ?_, ?_, ?_, ?_⟩ <;> decide +kernel
  · refine ⟨(idle .m5).modSteer fun x => { x with sampleCount := 65536, tuneState := 1 }, ?_, ?_⟩ <;> decide +kernel
  · refine ⟨plant .m5, 0, ?_, ?_, ?_, (by decide +kernel : ∀ k, k < 8 → (plant .m5).loopRuns k = false), ?_, ?_, ?_⟩ <;> decide
      +kernel

theorem witness_TrimSupervisionCompletes :
    (∃ (s : State) (r : Nat), (s.loops.get r).fallback = true ∧ s.flt.present = [] ∧ (s.trims.get r).state = 2) ∧
    (∃ (s : State) (r : Nat), s.railUsed r = true ∧ s.whole (src 0 14) (item 3 r)) ∧
    (∃ (s : State) (r : Nat), s.railUsed r = true ∧ s.hasLoop r = true) ∧
    (∃ (s : State) (r : Nat), bitOf s.arch.modFailed r = false) ∧
    (∃ (s : State) (r : Nat) (x : TrimFrame), s.trimUsed r = true ∧ x.accepts = true) ∧
    (∃ (s : State) (r : Nat), s.trimUsed r = true ∧ 20 ≤ (s.trims.get r).silent ∧ s.whole (src 1 20) (itemTrim r)) ∧
    (∃ (s : State) (r : Nat), s.trimUsed r = true ∧ (s.trims.get r).state = 2 ∧ (s.trims.get r).mode = 1 ∧ s.whole (src 4 21)
        (itemRail r)) ∧
    (∃ (s : State) (k : Nat), s.loopRuns k = true ∧ 200000 ≤ (s.loops.get k).limitRun ∧ s.whole (src 4 23) (itemLoop k)) ∧
    (∃ (s : State) (r : Nat), s.trimUsed r = true ∧ (s.trims.get r).state ≠ 0 ∧ s.whole (src 0 22) (itemRail r) ∧ 1000 * s.val
        (P.railTrimCurrentTol r) < ((20 * (s.trims.get r).current - (s.rails.get r).current).natAbs : Int)) := by
  refine ⟨?_, ?_, ?_, ?_, ?_, ?_, ?_, ?_, ?_⟩
  · refine ⟨(steering.modLoop 7 fun l => { l with fallback := true }).modTrim 7 (fun x => { x with state := 2 }), 7, ?_, ?_, ?_⟩
      <;> decide +kernel
  · refine ⟨steering, 0, ?_, rfl⟩ <;> decide +kernel
  · refine ⟨steering, 0, ?_, ?_⟩ <;> decide +kernel
  · refine ⟨steering.modRail 0 (fun x => { x with shuntValid := false, countSource := 1 }), 0, ?_⟩ <;> decide +kernel
  · refine ⟨steering, 0, { crc := crc16 (TrimFrame.body {}) }, ?_, ?_⟩ <;> decide +kernel
  · refine ⟨steering.modTrim 0 (fun x => { x with silent := 20 }), 0, ?_, ?_, rfl⟩ <;> decide +kernel
  · refine ⟨steering.modTrim 0 (fun x => { x with mode := 1 }), 0, ?_, ?_, ?_, rfl⟩ <;> decide +kernel
  · refine ⟨steering.modLoop 0 (fun x => { x with limitRun := 200000 }), 0, ?_, ?_, rfl⟩ <;> decide +kernel
  · refine ⟨steering.modTrim 0 (fun x => { x with current := 30000 }), 0, ?_, ?_, rfl, ?_⟩ <;> decide +kernel

theorem witness_CanFramesComplete :
    (∃ (s : State) (b delay : Nat) (x : CanFrame) (l : List CanFrame), b < 2 ∧ s.power.mainUp = true ∧ s.power.mainHeld = false
        ∧ (s.can b).slot0.onBus = false ∧ (s.can b).slot1.onBus = false ∧ (s.can b).fifoOnBus = true ∧ (s.can b).fifo = x :: l)
        ∧
    (∃ (s : State) (b : Nat), b < 2 ∧ (s.can b).slot0.onBus = false ∧ (s.can b).slot1.onBus = false ∧ (s.can b).fifoOnBus = true
        ∧ s.canMode b = 2 ∧ (s.can b).attempts < s.nat (P.canRetryLimit b)) ∧
    (∃ (s : State) (b : Nat) (x : CanFrame) (l : List CanFrame), b < 2 ∧ (s.can b).slot0.onBus = false ∧ (s.can b).slot1.onBus =
        false ∧ (s.can b).fifoOnBus = true ∧ (s.can b).fifo = x :: l ∧ s.canMode b = 2 ∧ s.nat (P.canRetryLimit b) ≤ (s.can
        b).attempts ∧ s.whole (src 1 40) (itemBus b)) ∧
    (∃ (s : State) (b : Nat), b < 2 ∧ (s.can b).slot0.onBus = false ∧ (s.can b).slot1.onBus = false ∧ (s.can b).fifoOnBus = true
        ∧ s.canMode b = 2) ∧
    (∃ (s : State) (b : Nat), b < 2 ∧ s.canMode b = 2 ∧ (s.can b).busOff = false ∧ s.whole (src 1 41) (itemBus b)) ∧
    (∃ (s : State) (b : Nat), b < 2 ∧ (s.can b).busOff = true) ∧
    (∃ (s : State) (b : Nat) (x : CanFrame), b < 2 ∧ s.canMode b ≠ 0 ∧ ((List.range 4).any fun j => s.filterTakes (4 * b + j) x)
        = true ∧ (s.can b).rx.length < 64) := by
  refine ⟨?_, ?_, ?_, ?_, ?_, ?_, ?_⟩
  · refine ⟨canBus 1 (fun c => { c with fifoOnBus := true, fifo := [{}] }), 1, 0, {}, [], ?_, ?_, ?_, ?_, ?_, ?_, ?_⟩ <;> decide
      +kernel
  · refine ⟨canBus 1 (fun c => { c with fifoOnBus := true, fifo := [{}] }), 1, ?_, ?_, ?_, ?_, ?_, ?_⟩ <;> decide +kernel
  · refine ⟨canBus 1 (fun c => { c with fifoOnBus := true, fifo := [{}], attempts := 255 }), 1, {}, [], ?_, ?_, ?_, ?_, ?_, ?_,
      ?_, rfl⟩ <;> decide +kernel
  · refine ⟨canBus 1 (fun c => { c with fifoOnBus := true, fifo := [{}] }), 1, ?_, ?_, ?_, ?_, ?_⟩ <;> decide +kernel
  · refine ⟨canBus 1 id, 1, ?_, ?_, ?_, rfl⟩ <;> decide +kernel
  · refine ⟨canBus 1 (fun c => { c with busOff := true }), 1, ?_, ?_⟩ <;> decide +kernel
  · refine ⟨(canBus 1 id).force (P.prgRxFilter 7) 0x8000000000000000, 1, {}, ?_, ?_, ?_, ?_⟩ <;> decide +kernel

theorem witness_AuxiliaryBusCompletes :
    (∃ (s : State) (node : Nat), s.canMode 1 ≠ 0) ∧
    (∃ (s : State) (node nmt : Nat), s.canMode 1 ≠ 0) ∧
    (∃ (s : State) (st : Nat), st < 16 ∧ (s.bus.aux.get st).present = true ∧ s.whole (src 1 42) (itemBus 1 st)) ∧
    (∃ (s : State), s.canMode 1 = 2 ∧ s.nat (P.canHbProducer 1) ≠ 0 ∧ (s.can 1).fifo.length < 32) ∧
    (∃ (s : State) (id : Nat) (data : List Byte), s.canMode 1 ≠ 0) ∧
    (∃ (s : State) (id : Nat), s.canMode 1 = 2 ∧ ((∃ i, i ∈ s.mappings true ∧ s.pdoId i = id)) ∧ s.pdoWithheld id = false ∧
        (s.can 1).fifo.length < 32) ∧
    (∃ (s : State) (b node : Nat) (x : Sdo) (d : List Byte), b < 2 ∧ s.sdo b = some x ∧ s.canMode b ≠ 0 ∧ s.nat (P.auxNodeId
        x.station) = node ∧ d.length = 8 ∧ d.getD 0 0#8 = 0x60#8 ∧ x.write = true ∧ x.segmented = false) ∧
    (∃ (s : State) (b : Nat) (x : Sdo), b < 2 ∧ s.sdo b = some x) := by
  refine ⟨?_, ?_, ?_, ?_, ?_, ?_, ?_, ?_⟩
  · refine ⟨canBus 1 id, 1, ?_⟩ <;> decide +kernel
  · refine ⟨canBus 1 id, 1, 5, ?_⟩ <;> decide +kernel
  · refine ⟨(canBus 1 id).modBus (fun x => { x with aux := [(15, { present := true })] }), 15, ?_, ?_, rfl⟩ <;> decide +kernel
  · refine ⟨(canBus 1 id).force (P.canHbProducer 1) 1000, ?_, ?_, ?_⟩ <;> decide +kernel
  · refine ⟨canBus 1 id, 0x180, [], ?_⟩ <;> decide +kernel
  · refine ⟨((canBus 1 id).force (P.pdoCob 0) 0x80001180).force (P.pdoField 0) 0xFFFFFFFF, 0x180, ?_, ?_, ?_, ?_⟩ <;> decide
      +kernel
  · refine ⟨(canBus 1 id).modBus (fun x => { x with sdo1 := some { write := true } }), 1, (canBus 1 id).nat (P.auxNodeId 0),
      { write := true }, 0x60#8 :: List.replicate 7 0, ?_, ?_, ?_, ?_, ?_, ?_, ?_, ?_⟩ <;> decide +kernel
  · refine ⟨(canBus 1 id).modBus (fun x => { x with sdo1 := some {} }), 1, {}, ?_, ?_⟩ <;> decide +kernel

theorem witness_DispatchCompletes :
    (∃ (s : State) (f : SectionFrame) (order ack : Nat) (value : Int), s.takesSection 1 f (orderBytes order value ack) = true ∧
        s.prof.lastSeq ≠ some f.seq ∧ ((∀ x, x ∈ s.prof.waiting → x.1.seq ≠ f.seq))) ∧
    (∃ (s : State) (f : SectionFrame) (position reserved : Nat) (master : Int), s.takesSection 2 f (masterBytes master position
        reserved) = true ∧ s.prof.masters = [] ∧ s.prof.lateMasters = [] ∧ f.early = true) ∧
    (∃ (s : State), s.modes.mode = .m5 ∧ s.active = true ∧ s.prof.ordersLost = false ∧ s.prof.stopRamp = none ∧ s.prof.openWait
        = false ∧ s.saf.opening = none ∧ s.prof.moving = false ∧ s.whole (src 7 30) noItem) ∧
    (∃ (s : State), s.modes.mode = .m5 ∧ s.active = true ∧ s.prof.ordersLost = false ∧ s.prof.stopRamp = some true ∧ s.whole
        (src 7 30) noItem) ∧
    (∃ (s : State), s.onString = true ∧ s.active = true ∧ s.prof.following = true ∧ s.whole (src 7 31) noItem) ∧
    (∃ (s : State), s.prof.stopRamp = some true ∧ s.prof.i = 0 ∧ s.prof.v = 0 ∧ s.prof.a = 0 ∧ s.saf.opening = none) ∧
    (∃ (s : State) (crc count st dis chg : Nat), s.canMode 0 ≠ 0 ∧ s.sec.convCount ≠ some count ∧ st ≠ 4 ∧ crc = crc16
        (wireBytes [(1, count), (1, st), (2, dis), (2, chg)])) ∧
    (∃ (s : State), s.canMode 0 ≠ 0 ∧ s.onString = true ∧ s.whole (src 1 30) (itemBus 0)) ∧
    (∃ (s : State), s.netUp = true) ∧
    (∃ (s : State) (n : Notice), s.active = true ∧ s.netUp = true ∧ s.sec.notices.find? (fun m => decide (m.number = n.number)
        && m.sent) = some n) := by
  refine ⟨?_, ?_, ?_, ?_, ?_, ?_, ?_, ?_, ?_, ?_⟩
  · refine ⟨(idle .m5).modNet (fun n => { n with roleHeld := true }), sectionOf 1 (orderBytes 2 1 0) { via := 1 }, 2, 0, 1, ?_,
      ?_, (fun _ h => absurd h (by simp [idle, State.force, State.modWk, State.modTwin, State.modModes, State.modPar,
      State.modNet, State.reset]))⟩ <;> decide +kernel
  · refine ⟨idle .m5, sectionOf 2 (masterBytes 0 10000 0) {}, 10000, 0, 0, ?_, ?_, ?_, ?_⟩ <;> decide +kernel
  · refine ⟨idle .m5, ?_, ?_, ?_, ?_, ?_, ?_, ?_, rfl⟩ <;> decide +kernel
  · refine ⟨(idle .m5).modProf fun x => { x with stopRamp := some true }, ?_, ?_, ?_, ?_, rfl⟩ <;> decide +kernel
  · refine ⟨(idle .m5).modProf fun x => { x with inForce := some { code := 2 } }, ?_, ?_, ?_, rfl⟩ <;> decide +kernel
  · refine ⟨(idle .m5).modProf fun x => { x with stopRamp := some true }, ?_, ?_, ?_, ?_, ?_⟩ <;> decide +kernel
  · refine ⟨idle .m5, crc16 (wireBytes [(1, 1), (1, 3), (2, 0), (2, 0)]), 1, 3, 0, 0, ?_, ?_, ?_, ?_⟩ <;> decide +kernel
  · refine ⟨idle .m5, ?_, ?_, rfl⟩ <;> decide +kernel
  · refine ⟨idle .m5, ?_⟩ <;> decide +kernel
  · refine ⟨(idle .m5).modSec (fun x => { x with notices := [{ sent := true }] }), { sent := true }, ?_, ?_, ?_⟩ <;> decide
      +kernel

theorem witness_SuppliesComplete :
    (∃ (s : State), s.power.supB = true ∧ s.power.mainUp = true ∧ s.power.mainHeld = false ∧ s.whole (src 4 1) (itemContact 1))
        ∧
    (∃ (s : State), s.power.supA = true ∧ s.power.supB = false ∧ s.power.mainUp = true ∧ s.power.mainHeld = false ∧
        s.power.onBank = false ∧ s.whole (src 4 2) noItem ∧ s.instOf (src 4 2) noItem = none) ∧
    (∃ (s : State), s.power.onBank = true) ∧
    (∃ (s : State), s.power.mainUp = true ∧ s.power.supA = false ∧ s.power.supB = false ∧ s.power.kaPresent = true) ∧
    (∃ (s : State), s.power.mainUp = true ∧ s.power.mainHeld = false ∧ s.whole (src 3 5) noItem ∧ s.instOf (src 3 5) noItem =
        none) ∧
    (∃ (s : State), s.power.mainUp = true ∧ s.power.mainHeld = false ∧ s.whole (src 3 6) noItem ∧ s.instOf (src 3 6) noItem =
        none) ∧
    (∃ (s : State) (m v : Nat), (m = 2 ∨ 6 ≤ m ∧ m < 12) ∧ railOut m v = true ∧ s.whole (src 4 4) (itemMonitor m)) ∧
    (∃ (s : State) (v : Nat), v < 9500 ∧ s.whole (src 4 3) (itemPin 0 31)) ∧
    (∃ (s : State) (m v : Nat), m < 12 ∧ m ≠ 4 ∧ railBack m v = true) ∧
    (∃ (s : State), s.power.mainUp = false) ∧
    (∃ (s : State) (t : Nat), s.power.mainUp = true) := by
  refine ⟨?_, ?_, ?_, ?_, ?_, ?_, ?_, ?_, ?_, ?_, ?_⟩
  · refine ⟨idle .m4, ?_, ?_, ?_, rfl⟩ <;> decide +kernel
  · refine ⟨(idle .m4).modPower fun x => { x with supB := false }, ?_, ?_, ?_, ?_, ?_, rfl, ?_⟩ <;> decide +kernel
  · refine ⟨(idle .m4).modPower fun x => { x with onBank := true }, ?_⟩ <;> decide +kernel
  · refine ⟨(idle .m4).modPower fun x => { x with supA := false, supB := false }, ?_, ?_, ?_, ?_⟩ <;> decide +kernel
  · refine ⟨idle .m4, ?_, ?_, rfl, ?_⟩ <;> decide +kernel
  · refine ⟨idle .m4, ?_, ?_, rfl, ?_⟩ <;> decide +kernel
  · refine ⟨idle .m4, 11, 0, ?_, ?_, rfl⟩ <;> decide +kernel
  · refine ⟨idle .m4, 9499, ?_, rfl⟩ <;> decide +kernel
  · refine ⟨idle .m4, 11, 816, ?_, ?_, ?_⟩ <;> decide +kernel
  · refine ⟨(idle .m0).modPower fun x => { x with mainUp := false }, ?_⟩ <;> decide +kernel
  · refine ⟨idle .m4, 20000, ?_⟩ <;> decide +kernel

theorem witness_FailuresComplete :
    (∃ (s : State) (p : Nat), p < 20) ∧
    (∃ (s : State) (e : Nat), (e = 1 ∨ e = 8)) ∧
    (∃ (s : State) (e : Nat), 2 ≤ e ∧ e ≤ 7 ∧ s.whole (src 5 1) (itemEngine e)) ∧
    (∃ (s : State) (region : Nat), s.whole (src 5 6) (itemRegion region)) ∧
    (∃ (s : State) (e : Nat), 2 ≤ e ∧ e ≤ 7) ∧
    (∃ (s : State), s.power.fabricClockGood = false) ∧
    (∃ (s : State), s.power.synthLocked = false) ∧
    (∃ (s : State) (e : Nat), 1 ≤ e ∧ e ≤ 8 ∧ (s.arch.engines.get e).inReset = true ∧ 0 < (s.arch.engines.get e).buffer.length ∧
        s.wk.fabric = [] ∧ s.whole (src 5 7) (itemEngine e)) ∧
    (∃ (s : State) (ms : Nat), 2400 ≤ ms ∧ s.modes.latchStrong = true ∧ s.modes.latchNight = true) ∧
    (∃ (s : State) (ms : Nat), ms < 2000) ∧
    (∃ (s : State), s.power.mainUp = true ∧ s.power.mainHeld = false ∧ s.modes.mode ≠ .m2) := by
  refine ⟨?_, ?_, ?_, ?_, ?_, ?_, ?_, ?_, ?_, ?_, ?_⟩
  · refine ⟨idle .m5, 19, ?_⟩ <;> decide +kernel
  · refine ⟨idle .m5, 8, ?_⟩ <;> decide +kernel
  · refine ⟨idle .m5, 7, ?_, ?_, rfl⟩ <;> decide +kernel
  · exact ⟨idle .m5, 9, rfl⟩
  · refine ⟨idle .m5, 7, ?_, ?_⟩ <;> decide +kernel
  · refine ⟨(idle .m5).modPower fun x => { x with fabricClockGood := false }, ?_⟩ <;> decide +kernel
  · refine ⟨(idle .m5).modPower fun x => { x with synthLocked := false }, ?_⟩ <;> decide +kernel
  · refine ⟨(idle .m5).modArch (fun x => { x with engines := [(8, { inReset := true, buffer := [{}] })] }), 8, ?_, ?_, ?_, ?_,
      ?_, rfl⟩ <;> decide +kernel
  · refine ⟨(idle .m7).modModes (fun x => { x with latchStrong := true, latchNight := true }), 2400, ?_, ?_, ?_⟩ <;> decide
      +kernel
  · refine ⟨idle .m7, 1999, ?_⟩ <;> decide +kernel
  · refine ⟨idle .m4, ?_, ?_, ?_⟩ <;> decide +kernel

theorem witness_DormantAndWakesComplete :
    (∃ (s : State), s.nat P.modeDormantIdle ≠ 0 ∧ s.twin.role ≠ .standby ∧ s.twin.role ≠ .coldStandby ∧ s.modes.dormantEntry =
        false ∧ s.dormantUnmet = none) ∧
    (∃ (s : State), s.modes.mode = .m4 ∧ s.modes.dormantEntry = true ∧ s.modes.dormantSealed = true ∧ s.twin.role ≠ .standby ∧
        s.modes.restartPending = none ∧ s.saf.close = none) ∧
    (∃ (s : State) (x : NightInputs), s.night.inCharge = true) ∧
    (∃ (s : State) (x : NightInputs), s.night.inCharge = true ∧ x.button = true ∧ 40 ≤ s.night.buttonRun ∧ bitOf
        s.night.wakeMask 7 = true ∧ s.night.heldWake = none ∧ s.power.supA = true) ∧
    (∃ (s : State) (hall : List Int), s.night.inCharge = true ∧ s.power.safeSup = true) ∧
    (∃ (s : State) (hall : List Int), s.night.inCharge = true ∧ s.power.safeSup = false) ∧
    (∃ (s : State), s.night.inCharge = true ∧ s.night.heldWake = none ∧ s.power.supA = true) ∧
    (∃ (s : State) (b : Nat), b < 2 ∧ b < canCount s.ident.variant ∧ bitOf s.night.wakeMask 3 = true ∧ s.night.inCharge = true ∧
        s.night.heldWake = none ∧ s.power.supA = true) ∧
    (∃ (s : State), s.modes.housekeeping = true ∧ s.modes.mode = .m4 ∧ s.upd.holder.isSome = true) ∧
    (∃ (s : State), s.modes.housekeeping = true ∧ s.modes.mode = .m4 ∧ s.faultAt 2 = false ∧ ((∀ i, i < 4 → (s.slot i).session =
        none)) ∧ s.prof.pendingOrder = none ∧ s.prof.waiting = [] ∧ s.upd.holder = none ∧ s.twin.role ≠ .standby ∧ s.twin.role ≠
        .coldStandby ∧ s.modes.dormantEntry = false ∧ s.dormantUnmet = none) := by
  refine ⟨?_, ?_, ?_, ?_, ?_, ?_, ?_, ?_, ?_, ?_⟩
  · refine ⟨((idle .m4).force P.modeDormantIdle 1).modPower fun x => { x with bankMilliVolt := 44000 }, ?_, ?_, ?_, ?_, ?_⟩ <;>
      decide +kernel
  · refine ⟨(idle .m4).modModes fun x => { x with dormantEntry := true, dormantSealed := true }, ?_, ?_, ?_, ?_, ?_, ?_⟩ <;>
      decide +kernel
  · refine ⟨(idle .m0).modNight (fun x => { x with inCharge := true }), {}, ?_⟩ <;> decide +kernel
  · refine ⟨(idle .m0).modNight (fun x => { x with inCharge := true, buttonRun := 40 }), { button := true }, ?_, ?_, ?_, ?_, ?_,
      ?_⟩ <;> decide +kernel
  · refine ⟨(idle .m0).modNight (fun x => { x with inCharge := true }), [1], ?_, ?_⟩ <;> decide +kernel
  · refine ⟨((idle .m0).modNight (fun x => { x with inCharge := true })).modPower (fun x => { x with safeSup := false }), [1],
      ?_, ?_⟩ <;> decide +kernel
  · refine ⟨(idle .m0).modNight (fun x => { x with inCharge := true }), ?_, ?_, ?_⟩ <;> decide +kernel
  · refine ⟨(idle .m0).modNight (fun x => { x with inCharge := true }), 1, ?_, ?_, ?_, ?_, ?_, ?_⟩ <;> decide +kernel
  · refine ⟨((idle .m4).modModes fun x => { x with housekeeping := true }).modUpd fun u => { u with holder := some 1 }, ?_, ?_,
      ?_⟩ <;> decide +kernel
  · refine ⟨(((idle .m4).modModes fun x => { x with housekeeping := true }).modPower fun x =>
      { x with bankMilliVolt := 44000 }).modWk (fun w => { w with slots := [] }), ?_, ?_, ?_, (by decide +kernel : ∀ i, i < 4 →
      (((((idle .m4).modModes fun x => { x with housekeeping := true }).modPower fun x =>
      { x with bankMilliVolt := 44000 }).modWk (fun w => { w with slots := [] })).slot i).session = none), ?_, ?_, ?_, ?_, ?_,
      ?_, ?_⟩ <;> decide +kernel

theorem witness_ModeEventsComplete :
    (∃ (s : State), s.modes.mode = .m6 ∧ s.active = true ∧ s.prof.stopRamp = none ∧ s.prof.openWait = false ∧ s.saf.opening =
        none) ∧
    (∃ (s : State) (warm : Bool), s.modes.restartPending = some warm ∧ s.power.mainHeld = false) ∧
    (∃ (s : State) (pins : StrapPins), s.power.mainUp = true ∧ s.power.mainHeld = false ∧ s.modes.mode.runs = true ∧
        s.flt.broken = []) := by
  refine ⟨?_, ?_, ?_⟩
  · refine ⟨idle .m6, ?_, ?_, ?_, ?_, ?_⟩ <;> decide +kernel
  · refine ⟨(idle .m4).modModes (fun x => { x with restartPending := some true }), true, ?_, ?_⟩ <;> decide +kernel
  · refine ⟨idle .m4, {}, ?_, ?_, ?_, ?_⟩ <;> decide +kernel

theorem witness_StrongroomLinesComplete :
    (∃ (s : State) (mask : Nat), mask < 2 ^ 20 ∧ s.mayArm = true) ∧
    (∃ (s : State) (mask : Nat), mask < 2 ^ 20 ∧ s.mayArm = false) ∧
    (∃ (s : State), s.saf.pRead = 0) := by
  refine ⟨?_, ?_, ?_⟩
  · refine ⟨((idle .m4).modPower fun x => { x with safeSupSettled := true }), 2 ^ 20 - 1, ?_, ?_⟩ <;> decide +kernel
  · refine ⟨idle .m4, 2 ^ 20 - 1, ?_, ?_⟩ <;> decide +kernel
  · refine ⟨idle .m4, ?_⟩ <;> decide +kernel

theorem witness_SafetyDemandsComplete :
    (∃ (s : State) (k : Nat) (ch1 ch2 : Int), k < 8 ∧ s.power.mainUp = true ∧ s.power.mainHeld = false ∧ s.arch.guardStopped =
        false ∧ s.inputUsed k = true ∧ (ch1 < 15000 ∨ ch2 < 15000)) ∧
    (∃ (s : State) (k : Nat) (ch1 ch2 : Int), k < 8 ∧ s.power.mainUp = true ∧ s.power.mainHeld = false ∧ s.inputUsed k = true ∧
        (ch1 < 15000 ∨ ch2 < 15000)) ∧
    (∃ (s : State) (k : Nat) (ch1 ch2 : Int), k < 8 ∧ s.power.mainUp = true ∧ s.power.mainHeld = false ∧ s.arch.guardStopped =
        false ∧ s.inputUsed k = true ∧ (s.saf.guardIn.get k).discrepancy = false ∧ 15000 ≤ ch1 ∧ 15000 ≤ ch2) ∧
    (∃ (s : State) (k : Nat), k < 8 ∧ s.inputUsed k = true ∧ (s.saf.guardIn.get k).taken = true ∧ (s.saf.guardIn.get k).ch1 ≠
        (s.saf.guardIn.get k).ch2) ∧
    (∃ (s : State) (k : Nat), k < 8 ∧ (s.saf.guardIn.get k).demand = true ∧ (s.saf.guardIn.get k).discrepancy = false ∧
        (s.saf.guardIn.get k).closedSeen = true ∧ (s.saf.guardIn.get k).ch1 = true ∧ (s.saf.guardIn.get k).ch2 = true ∧ bitOf
        (s.nat P.safInputAutoReset) k = true) ∧
    (∃ (s : State) (k : Nat), k < 8 ∧ (s.saf.strongIn.get k).discrepancy ≠ (s.saf.guardIn.get k).discrepancy ∧ s.whole (src 3
        28) (itemInput k)) ∧
    (∃ (s : State) (r : Nat) (before now : Int), r < 8 ∧ 10 * s.saf.vth.getD r 0 ≤ now.natAbs ∧ s.power.mainUp = true ∧
        s.power.mainHeld = false) ∧
    (∃ (s : State) (r : Nat) (before now : Int), r < 8 ∧ now.natAbs < 10 * s.saf.vth.getD r 0 ∧ bitOf s.saf.sf4Guard r = false)
        := by
  refine ⟨?_, ?_, ?_, ?_, ?_, ?_, ?_, ?_⟩
  · refine ⟨(idle .m5).force (P.safInputKind 7) 1, 7, 15000, 14999, ?_, ?_, ?_, ?_, ?_, ?_⟩ <;> decide +kernel
  · refine ⟨(idle .m5).force (P.safInputKind 7) 1, 7, 14999, 15000, ?_, ?_, ?_, ?_, ?_⟩ <;> decide +kernel
  · refine ⟨(idle .m5).force (P.safInputKind 7) 1, 7, 15000, 24000, ?_, ?_, ?_, ?_, ?_, ?_, ?_, ?_⟩ <;> decide +kernel
  · refine ⟨((idle .m5).force (P.safInputKind 7) 1).modSaf (fun x =>
      { x with guardIn := [(7, { taken := true, ch1 := true })] }), 7, ?_, ?_, ?_, ?_⟩ <;> decide +kernel
  · refine ⟨((idle .m5).force P.safInputAutoReset 0xFF).modSaf (fun x =>
      { x with guardIn := [(7, { taken := true, ch1 := true, ch2 := true, demand := true, closedSeen := true })] }), 7, ?_, ?_,
      ?_, ?_, ?_, ?_, ?_⟩ <;> decide +kernel
  · refine ⟨(idle .m5).modSaf (fun x => { x with guardIn := [(7, { taken := true, discrepancy := true })] }), 7, ?_, ?_, rfl⟩
      <;> decide +kernel
  · refine ⟨idle .m5, 7, 0, -99900, ?_, ?_, ?_, ?_⟩ <;> decide +kernel
  · refine ⟨idle .m5, 7, 0, 99899, ?_, ?_, ?_⟩ <;> decide +kernel

theorem witness_SwitchTestsComplete :
    (∃ (s : State) (p : Nat), p < 20 ∧ s.power.mainUp = true ∧ s.power.mainHeld = false ∧ s.arch.guardStopped = false ∧
        s.saf.deferred = false ∧ s.saf.pulse = none ∧ bitOf s.saf.coil p = true ∧ bitOf s.saf.keep p = true) ∧
    (∃ (s : State) (p : Nat), p < 20 ∧ s.power.mainUp = true ∧ s.power.mainHeld = false ∧ s.arch.guardStopped = false ∧
        s.saf.deferred = false ∧ s.saf.pulse = none ∧ bitOf s.saf.hClosed p = true) ∧
    (∃ (s : State) (p : Nat), p < 20 ∧ bitOf s.saf.hClosed p = true ∧ bitOf s.saf.hArmed p = true ∧ s.power.mainUp = true ∧
        s.power.mainHeld = false) ∧
    (∃ (s : State) (x : PulseTest) (mv : Int), s.saf.pulse = some x ∧ x.phase = 0 ∧ (if x.hSwitch then hReadsOpen mv = true else
        pReadsOn mv = false)) ∧
    (∃ (s : State) (x : PulseTest) (mv : Int), s.saf.pulse = some x ∧ x.phase = 0 ∧ x.hSwitch = true ∧ hReadsOpen mv = false ∧
        s.whole (src 3 31) (itemSwitch x.path true)) ∧
    (∃ (s : State) (x : PulseTest), s.saf.pulse = some x ∧ x.phase = 1) ∧
    (∃ (s : State) (x : PulseTest) (mv : Int), s.saf.pulse = some x ∧ x.phase = 2 ∧ x.hSwitch = false ∧ bitOf s.saf.coil x.path
        = true ∧ x.failed = false ∧ pReadsOn mv = true) ∧
    (∃ (s : State) (x : PulseTest) (mv : Int), s.saf.pulse = some x ∧ x.phase = 2 ∧ x.hSwitch = false ∧ bitOf s.saf.coil x.path
        = true ∧ pReadsOn mv = false) ∧
    (∃ (s : State) (p : Nat), p < 20 ∧ 3 ≤ s.saf.disagree.get p ∧ bitOf s.saf.coil p = true ∧ bitOf s.saf.pRead p = false) ∧
    (∃ (s : State) (p : Nat), p < 20 ∧ 3 ≤ s.saf.disagree.get p ∧ bitOf s.saf.coil p = false ∧ bitOf s.saf.pRead p = true ∧
        s.whole (src 3 30) (itemSwitch p false)) ∧
    (∃ (s : State), s.twin.linkUp = true ∧ s.coreUp = true) ∧
    (∃ (s : State) (p : Nat), p < 20 ∧ bitOf s.saf.coil p = true ∧ bitOf s.saf.keep p = true ∧ s.saf.pulse = none ∧ s.nat
        P.safEconomyDuty < 1000) ∧
    (∃ (s : State) (p : Nat) (q : PartnerStatus), p < 20 ∧ s.twin.partner = some q ∧ bitOf q.coil p = true ∧ s.active = true ∧
        s.fitted = true ∧ bitOf s.saf.coil p = false) := by
  refine ⟨?_, ?_, ?_, ?_, ?_, ?_, ?_, ?_, ?_, ?_, ?_, ?_, ?_⟩
  · refine ⟨(idle .m5).modSaf (fun x => { x with coil := 2 ^ 19, keep := 2 ^ 19 }), 19, ?_, ?_, ?_, ?_, ?_, ?_, ?_, ?_⟩ <;>
      decide +kernel
  · refine ⟨(idle .m5).modSaf (fun x => { x with hClosed := 2 ^ 19 }), 19, ?_, ?_, ?_, ?_, ?_, ?_, ?_⟩ <;> decide +kernel
  · refine ⟨(idle .m5).modSaf (fun x => { x with hClosed := 2 ^ 19, hArmed := 2 ^ 19 }), 19, ?_, ?_, ?_, ?_, ?_⟩ <;> decide
      +kernel
  · refine ⟨pulsing {}, {}, 3001, ?_, ?_, ?_⟩ <;> decide +kernel
  · refine ⟨pulsing { hSwitch := true }, { hSwitch := true }, 3000, ?_, ?_, ?_, ?_, rfl⟩ <;> decide +kernel
  · refine ⟨pulsing { phase := 1 }, { phase := 1 }, ?_, ?_⟩ <;> decide +kernel
  · refine ⟨pulsing { phase := 2 }, { phase := 2 }, 3000, ?_, ?_, ?_, ?_, ?_, ?_⟩ <;> decide +kernel
  · refine ⟨pulsing { phase := 2 }, { phase := 2 }, 3001, ?_, ?_, ?_, ?_, ?_⟩ <;> decide +kernel
  · refine ⟨(idle .m5).modSaf (fun x => { x with coil := 2 ^ 19, disagree := [(19, 3)] }), 19, ?_, ?_, ?_, ?_⟩ <;> decide
      +kernel
  · refine ⟨(idle .m5).modSaf (fun x => { x with pRead := 2 ^ 19, disagree := [(19, 3)] }), 19, ?_, ?_, ?_, ?_, rfl⟩ <;> decide
      +kernel
  · refine ⟨twinned, ?_, ?_⟩ <;> decide +kernel
  · refine ⟨((idle .m5).force P.safEconomyDuty 999).modSaf (fun x => { x with coil := 2 ^ 19, keep := 2 ^ 19 }), 19, ?_, ?_, ?_,
      ?_, ?_⟩ <;> decide +kernel
  · refine ⟨twinned.modTwin (fun x => { x with partner := some { coil := 2 ^ 19 } }), 19, { coil := 2 ^ 19 }, ?_, ?_, ?_, ?_,
      ?_, ?_⟩ <;> decide +kernel

theorem witness_ContactorSequencesComplete :
    (∃ (s : State) (c : CloseSeq), s.saf.close = some c ∧ (c.stage = 2 ∨ c.stage = 5 ∨ c.stage = 9 ∨ c.stage = 12)) ∧
    (∃ (s : State) (c : CloseSeq) (k mask : Nat), s.saf.close = some c ∧ ((k = 4 ∧ mask = poleMask c.rails 0) ∨ (k = 8 ∧ mask =
        2 ^ 18) ∨ (k = 11 ∧ mask = 2 ^ 17)) ∧ c.stage = k) ∧
    (∃ (s : State) (c : CloseSeq), s.saf.close = some c ∧ c.stage = 15) ∧
    (∃ (s : State) (c : CloseSeq), s.saf.close = some c ∧ c.stage = 16 ∧ bitOf s.saf.pRead 18 = false) ∧
    (∃ (s : State) (c : CloseSeq), s.saf.close = some c ∧ c.stage = 14 ∧ s.precharged = true) ∧
    (∃ (s : State) (c : CloseSeq), s.saf.close = some c ∧ c.stage = 14 ∧ s.whole (src 3 51) (itemPath 18)) ∧
    (∃ (s : State), s.prof.openWait = true ∧ s.twin.orphanStop = false) ∧
    (∃ (s : State), s.saf.opening = some 0) ∧
    (∃ (s : State), s.saf.opening = some 1) ∧
    (∃ (s : State), s.saf.opening = some 2 ∧ s.onString = true) := by
  refine ⟨?_, ?_, ?_, ?_, ?_, ?_, ?_, ?_, ?_, ?_⟩
  · refine ⟨closing { stage := 12 }, { stage := 12 }, ?_, ?_⟩ <;> decide +kernel
  · refine ⟨closing { stage := 11 }, { stage := 11 }, 11, 2 ^ 17, ?_, ?_, ?_⟩ <;> decide +kernel
  · refine ⟨closing { stage := 15 }, { stage := 15 }, ?_, ?_⟩ <;> decide +kernel
  · refine ⟨closing { stage := 16 }, { stage := 16 }, ?_, ?_, ?_⟩ <;> decide +kernel
  · refine ⟨closing { stage := 14 }, { stage := 14 }, ?_, ?_, ?_⟩ <;> decide +kernel
  · refine ⟨closing { stage := 14 }, { stage := 14 }, ?_, ?_, rfl⟩ <;> decide +kernel
  · refine ⟨(idle .m5).modProf fun x => { x with openWait := true }, ?_, ?_⟩ <;> decide +kernel
  · refine ⟨(idle .m5).modSaf fun x => { x with opening := some 0 }, ?_⟩ <;> decide +kernel
  · refine ⟨(idle .m5).modSaf fun x => { x with opening := some 1 }, ?_⟩ <;> decide +kernel
  · refine ⟨(idle .m5).modSaf fun x => { x with opening := some 2 }, ?_, ?_⟩ <;> decide +kernel

theorem witness_GuardRequestsComplete :
    (∃ (s : State), s.prg.guardPlaced = [0] ∧ s.prg.stopSeen = false ∧ s.saf.opening = none ∧ s.prof.openWait = false ∧
        s.modes.mode = .m4 ∧ s.weldFindings = false ∧ s.saf.close = none ∧ s.closeUnmet = none) ∧
    (∃ (s : State), s.prg.guardPlaced = [1] ∧ s.onString = true ∧ s.active = true ∧ s.saf.close = none ∧ s.prof.stopRamp = none
        ∧ s.prof.openWait = false ∧ s.saf.opening = none) ∧
    (∃ (s : State) (r : Nat), r < 8 ∧ s.prg.guardPlaced = [8 + r] ∧ s.modes.mode = .m5 ∧ bitOf s.saf.leftOpen r = true ∧
        s.sec.bus1.isSome = true ∧ s.railMatches r = true ∧ s.anyDemand = false) ∧
    (∃ (s : State) (r : Nat), r < 8 ∧ s.prg.guardPlaced = [16 + r] ∧ s.modes.mode = .m5 ∧ ((∃ q, q ∈ s.railsInUse ∧ q ≠ r)) ∧
        1000 ≤ s.steer.zeroRun.getD r 0) := by
  refine ⟨?_, ?_, ?_, ?_⟩
  · refine ⟨(((idle .m4).modPrg fun x => { x with guardPlaced := [0] }).modPower fun x =>
      { x with bankMilliVolt := 44000 }).modSec fun x => { x with convFresh := true }, ?_, ?_, ?_, ?_, ?_, ?_, ?_, ?_⟩ <;>
      decide +kernel
  · refine ⟨(idle .m5).modPrg fun x => { x with guardPlaced := [1] }, ?_, ?_, ?_, ?_, ?_, ?_, ?_⟩ <;> decide +kernel
  · refine ⟨((idle .m5).modPrg fun x => { x with guardPlaced := [15] }).modSaf (fun x => { x with leftOpen := 2 ^ 7 }), 7, ?_,
      ?_, ?_, ?_, ?_, ?_, ?_⟩ <;> decide +kernel
  · refine ⟨(steering.modPrg fun x => { x with guardPlaced := [23] }).modSteer (fun x =>
      { x with zeroRun := List.replicate 8 1000 }), 7, ?_, ?_, ?_, ?_, ?_⟩ <;> decide +kernel

theorem witness_TwinRequestsComplete :
    (∃ (s : State), s.twinUp = true) ∧
    (∃ (s : State) (str pos variant : Nat), s.twinUp = true ∧ str ≠ s.stringNo ∧ s.whole (src 7 4) noItem) ∧
    (∃ (s : State) (n : Nat), s.twinUp = true ∧ s.formatsMatch = true ∧ s.linkUsed n = true ∧ s.pos = 1 ∧ s.twin.role = .none) ∧
    (∃ (s : State) (n : Nat), s.twinUp = true ∧ s.formatsMatch = true ∧ s.active = true ∧ s.linkUsed n = true ∧ (s.links.get
        n).outstanding.isSome = true) ∧
    (∃ (s : State) (rx : Nat), s.twinUp = true) ∧
    (∃ (s : State) (r b1 b2 : Nat) (v1 v2 : Int), r < 8 ∧ s.twinUp = true ∧ s.formatsMatch = true ∧ (s.rails.get
        r).chargeLog.find? (fun x => x.1 == b1) = some (b1, v1) ∧ (s.rails.get r).chargeLog.find? (fun x => x.1 == b2) = some
        (b2, v2)) ∧
    (∃ (s : State) (r b1 b2 : Nat), r < 8 ∧ s.twinUp = true ∧ s.formatsMatch = true ∧ ((∀ x ∈ (s.rails.get r).chargeLog, x.1 ≠
        b1))) ∧
    (∃ (s : State) (kind : Nat), s.twinUp = true ∧ s.formatsMatch = true ∧ s.active = true ∧ kind ≤ 4) ∧
    (∃ (s : State), s.twinUp = true ∧ s.formatsMatch = true) := by
  refine ⟨?_, ?_, ?_, ?_, ?_, ?_, ?_, ?_, ?_⟩
  · refine ⟨twinned, ?_⟩ <;> decide +kernel
  · refine ⟨twinned, twinned.stringNo + 1, 0, 0, ?_, ?_, rfl⟩ <;> decide +kernel
  · refine ⟨(twinned.modTwin fun x => { x with role := .none }).modPower (fun x =>
      { x with straps := { x.straps with twposB := 1 } }), 0, ?_, ?_, ?_, ?_, ?_⟩ <;> decide +kernel
  · refine ⟨twinned.modLink 0 (fun l => { l with outstanding := some {} }), 0, ?_, ?_, ?_, ?_, ?_⟩ <;> decide +kernel
  · refine ⟨twinned, 5, ?_⟩ <;> decide +kernel
  · refine ⟨twinned.modRail 7 (fun x => { x with chargeLog := [(1, 10), (2, 20)] }), 7, 1, 2, 10, 20, ?_, ?_, ?_, ?_, ?_⟩ <;>
      decide +kernel
  · refine ⟨twinned, 7, 1, 2, ?_, ?_, ?_, (by decide +kernel : ∀ x ∈ (twinned.rails.get 7).chargeLog, x.1 ≠ 1)⟩ <;> decide
      +kernel
  · refine ⟨twinned, 4, ?_, ?_, ?_, ?_⟩ <;> decide +kernel
  · refine ⟨twinned, ?_, ?_⟩ <;> decide +kernel

theorem witness_RulingsComplete :
    (∃ (s : State) (f : SectionFrame) (active : Nat), s.takesSection 6 f (rulingBytes 2 active) = true ∧ s.twin.rulingEpoch <
        f.epoch ∧ s.paired = true ∧ s.active = true ∧ active ≠ s.pos ∧ s.twin.silentCycles < 3) ∧
    (∃ (s : State) (f : SectionFrame), s.takesSection 6 f (rulingBytes 2 s.pos) = true ∧ s.twin.rulingEpoch < f.epoch ∧ s.paired
        = true ∧ s.twin.role = .standby ∧ s.readyBar = true) ∧
    (∃ (s : State), s.twin.taking = true ∧ s.twin.heardSince = false ∧ s.survey.state = 0) := by
  refine ⟨?_, ?_, ?_⟩
  · refine ⟨twinned.force P.twinPaired 1, sectionOf 6 (rulingBytes 2 1) { epoch := 1 }, 1, ?_, ?_, ?_, ?_, ?_, ?_⟩ <;> decide
      +kernel
  · refine ⟨(ready.force P.twinPaired 1).modPar (fun x =>
      { x with partnerSettingsCrc := (ready.force P.twinPaired 1).settingsCrc }), sectionOf 6 (rulingBytes 2 (ready.force
      P.twinPaired 1).pos) { epoch := 1 }, ?_, ?_, ?_, ?_, ?_⟩ <;> decide +kernel
  · refine ⟨(ready.modTwin fun x => { x with taking := true }), ?_, ?_, ?_⟩ <;> decide +kernel

theorem witness_TwinEventsComplete :
    (∃ (s : State) (x : MirrorFrame), s.twinUp = true ∧ x.accepts = true ∧ x.frag = 0 ∧ x.format = s.upd.running.mirrorFormat ∧
        s.twin.role ≠ .coldStandby) ∧
    (∃ (s : State) (x : MirrorFrame), s.twinUp = true ∧ x.accepts = false ∧ x.frag = 0) ∧
    (∃ (s : State) (t1 t2 t3 t4 : Nat), s.twinUp = true ∧ s.twin.offsetT1 = some t1) ∧
    (∃ (s : State) (n : Nat), s.twinUp = true ∧ s.upd.partnerStage = 1) ∧
    (∃ (s : State), s.coreUp = true) ∧
    (∃ (s : State), s.paired = true ∧ s.twin.standingAt = some s.time.ns ∧ s.whole (src 7 10) itemTwin) ∧
    (∃ (s : State), s.standsBy = true ∧ s.orphaned = true ∧ s.twin.orphanStop = false ∧ s.onString = true ∧ s.whole (src 7 12)
        noItem ∧ s.prof.openWait = false ∧ s.saf.opening = none) ∧
    (∃ (s : State), s.active = true ∧ s.twin.linkUp = true) ∧
    (∃ (s : State), s.netUp = true) ∧
    (∃ (s : State) (f : SectionFrame) (payload : List Byte), s.netUp = true ∧ s.hearsSection 5 f = true ∧ f.accepts 5 payload =
        true ∧ f.str = s.stringNo ∧ f.position = 1 - s.pos ∧ payload.length = 32) := by
  refine ⟨?_, ?_, ?_, ?_, ?_, ?_, ?_, ?_, ?_, ?_⟩
  · refine ⟨twinned, fragment {}, ?_, ?_, ?_, ?_, ?_⟩ <;> decide +kernel
  · refine ⟨twinned, { crc := 1 }, ?_, ?_, ?_⟩ <;> decide +kernel
  · refine ⟨twinned.modTwin (fun x => { x with offsetT1 := some 1 }), 1, 2, 3, 4, ?_, ?_⟩ <;> decide +kernel
  · refine ⟨twinned.modUpd (fun u => { u with partnerStage := 1 }), 1, ?_, ?_⟩ <;> decide +kernel
  · refine ⟨idle .m5, ?_⟩ <;> decide +kernel
  · refine ⟨(twinned.force P.twinPaired 1).modTwin fun x => { x with standingAt := some twinned.time.ns }, ?_, ?_, rfl⟩ <;>
      decide +kernel
  · refine ⟨twinned.modTwin fun x => { x with role := .standby, silentCycles := 2000 }, ?_, ?_, ?_, ?_, rfl, ?_, ?_⟩ <;> decide
      +kernel
  · refine ⟨twinned, ?_, ?_⟩ <;> decide +kernel
  · refine ⟨idle .m5, ?_⟩ <;> decide +kernel
  · refine ⟨idle .m5, sectionOf 5 (List.replicate 32 0) { position := 1 }, List.replicate 32 0, ?_, ?_, ?_, ?_, ?_, ?_⟩ <;>
      decide +kernel

theorem witness_ThermalSupervisionCompletes :
    (∃ (s : State) (k : Nat), s.time.sweep % 100 = 0 ∧ k ∈ s.usedTherms ∧ 0 < (s.therm.therms.get k).valid ∧ (s.therm.therms.get
        k).total ≤ 2 * (s.therm.therms.get k).valid) ∧
    (∃ (s : State) (k : Nat) (v : Int), k < 1024 ∧ (s.therm.therms.get k).value = some v ∧ v < s.val P.thBrickThrottle - s.val
        P.thBrickFastBand - s.val P.thBrickHysteresis) ∧
    (∃ (s : State) (k : Nat), s.arch.guardStopped = false ∧ s.time.sweep % 10 = 0 ∧ k ∈ s.usedTherms ∧ 0 < (s.therm.therms.get
        k).gValid ∧ (s.therm.therms.get k).gTotal ≤ 2 * (s.therm.therms.get k).gValid) ∧
    (∃ (s : State) (k : Nat), k < 1024 ∧ s.whole (src 2 4) (item 7 (thermCode k))) ∧
    (∃ (s : State) (n : Nat), n < 128 ∧ s.packFailed n = true ∧ s.onString = true ∧ s.whole (src 2 5) (itemLink n) ∧ s.instOf
        (src 2 5) (itemLink n) = none) ∧
    (∃ (s : State) (n : Nat), n < 128 ∧ s.packFailed n = true ∧ s.onString = false ∧ s.whole (src 2 5) (itemLink n)) ∧
    (∃ (s : State) (i : Nat), i < 32 ∧ s.nat (P.thsSource i) ≠ 0 ∧ s.auxFeedback (s.nat (P.thsSource i)) = none ∧ s.whole (src 2
        33) (item 7 (0x0400 + i))) := by
  refine ⟨?_, ?_, ?_, ?_, ?_, ?_, ?_⟩
  · refine ⟨(plant .m5).modTherm (fun x => { x with therms := [(9, { valid := 50, total := 100 })] }), 9, ?_, ?_, ?_, ?_⟩ <;>
      decide +kernel
  · refine ⟨(plant .m5).modTherm (fun x => { x with therms := [(1023, { value := some (-4000) })] }), 1023, -4000, ?_, ?_, ?_⟩
      <;> decide +kernel
  · refine ⟨(plant .m5).modTherm (fun x => { x with therms := [(9, { gValid := 5, gTotal := 10 })] }), 9, ?_, ?_, ?_, ?_, ?_⟩
      <;> decide +kernel
  · refine ⟨plant .m5, 1023, ?_, rfl⟩ <;> decide +kernel
  · refine ⟨((idle .m5).force (P.lnkRail 127) 7).modTherm (fun x =>
      { x with therms := (List.range 8).map fun j => (1016 + j, { failed := true }) }), 127, ?_, ?_, ?_, rfl, ?_⟩ <;> decide
      +kernel
  · refine ⟨((idle .m4).force (P.lnkRail 127) 7).modTherm (fun x =>
      { x with therms := (List.range 8).map fun j => (1016 + j, { failed := true }) }), 127, ?_, ?_, ?_, rfl⟩ <;> decide +kernel
  · refine ⟨(idle .m4).force (P.thsSource 31) 0x200, 31, ?_, ?_, ?_, rfl⟩ <;> decide +kernel

theorem witness_PtpMessagesComplete :
    (∃ (s : State) (h : PtpHead) (a : Announce), s.takesPtp h = true ∧ (s.port h.port).announced = false) ∧
    (∃ (s : State) (h : PtpHead) (a : Announce), s.takesPtp h = true ∧ (s.port h.port).announced = true ∧ (s.port h.port).best =
        h.source ∧ s.time.followed = h.port) ∧
    (∃ (s : State) (i : Nat), i < 2) ∧
    (∃ (s : State) (h : PtpHead) (rx origin : Nat) (corr : Int), s.takesPtp h = true ∧ (s.port h.port).announced = true ∧
        (s.port h.port).best = h.source) ∧
    (∃ (s : State) (h : PtpHead) (rx origin d : Nat) (corr : Int), s.takesPtp h = true ∧ (s.port h.port).announced = true ∧
        (s.port h.port).best = h.source ∧ (s.port h.port).peerDelay = some d ∧ d ≤ s.nat P.ptpPdelayLimit) ∧
    (∃ (s : State) (h : PtpHead) (rx origin d : Nat) (c corr : Int), s.takesPtp h = true ∧ (s.port h.port).sync = some (h.seq,
        rx, c) ∧ (s.port h.port).best = h.source ∧ (s.port h.port).peerDelay = some d ∧ d ≤ s.nat P.ptpPdelayLimit) ∧
    (∃ (s : State) (g i : Nat) (lo hi : Int), s.time.qualify = some (g, lo, hi) ∧ [0, 1].find? (fun i => (s.port i).synced &&
        decide ((s.port i).gm = g)) = some i) ∧
    (∃ (s : State) (l : Int), s.time.leap = some l) ∧
    (∃ (s : State), s.time.leap = none) ∧
    (∃ (s : State), s.power.mainUp = true ∧ s.power.mainHeld = false) := by
  refine ⟨?_, ?_, ?_, ?_, ?_, ?_, ?_, ?_, ?_, ?_⟩
  · refine ⟨linked, { port := 1 }, {}, ?_, ?_⟩ <;> decide +kernel
  · refine ⟨((linked.modNet id).modTime fun x => { x with followed := 1, ports := [(1, { announced := true })] }),
      { port := 1 }, {}, ?_, ?_, ?_, ?_⟩ <;> decide +kernel
  · refine ⟨linked, 1, ?_⟩ <;> decide +kernel
  · refine ⟨(linked.modTime fun x => { x with ports := [(1, { announced := true })] }), { port := 1 }, 5, 0, 0, ?_, ?_, ?_⟩ <;>
      decide +kernel
  · refine ⟨(linked.modTime fun x => { x with ports := [(1, { announced := true, peerDelay := some 100 })] }), { port := 1 }, 5,
      0, 100, 0, ?_, ?_, ?_, ?_, ?_⟩ <;> decide +kernel
  · refine ⟨(linked.modTime fun x =>
      { x with ports := [(1, { announced := true, sync := some (0, 5, 0), peerDelay := some 100 })] }), { port := 1 }, 5, 0,
      100, 0, 0, ?_, ?_, ?_, ?_, ?_⟩ <;> decide +kernel
  · refine ⟨linked.modTime (fun x =>
      { x with qualify := some (9, 0, 0), ports := [(1, { vector := [0, 0, 0, 0, 0, 9], synced := true })] }), 9, 1, 0, 0, ?_,
      ?_⟩ <;> decide +kernel
  · refine ⟨linked.modTime (fun x => { x with leap := some 1 }), 1, ?_⟩ <;> decide +kernel
  · refine ⟨linked, ?_⟩ <;> decide +kernel
  · refine ⟨linked, ?_, ?_⟩ <;> decide +kernel

theorem witness_PeerDelaysAndStampsComplete :
    (∃ (s : State) (h : PtpHead) (rx : Nat), s.takesPtp h = true) ∧
    (∃ (s : State) (i : Nat), i < 2 ∧ s.ptpUp = true ∧ bitOf s.net.links i = true) ∧
    (∃ (s : State) (h : PtpHead) (t2 rx : Nat), s.takesPtp h = true ∧ (s.port h.port).pdSeq = h.seq) ∧
    (∃ (s : State) (h : PtpHead) (t1 t2 t3 t4 : Nat) (corr : Int), s.takesPtp h = true ∧ (s.port h.port).pdSeq = h.seq ∧ (s.port
        h.port).pdT1 = some t1 ∧ (s.port h.port).pdT24 = some (t2, t4)) ∧
    (∃ (s : State) (i : Nat), i < 2 ∧ s.ptpUp = true ∧ (s.port i).master = true ∧ bitOf s.net.links i = true) ∧
    (∃ (s : State) (q tag stamp : Nat), q < 3 ∧ tag < 2 ^ 16 ∧ (s.net.receipts.get q).entries.length < 16 ∧ (s.net.receipts.get
        q).awaiting = []) ∧
    (∃ (s : State) (q stamp : Nat), q < 2 ∧ (s.net.receipts.get q).entries = [] ∧ (s.net.receipts.get q).awaiting = [4096 +
        (s.port q).pdSeq % 4096] ∧ (s.arch.engines.get 7).inReset = false) ∧
    (∃ (s : State) (q n stamp : Nat), q < 3 ∧ n < 4096 ∧ (s.net.receipts.get q).entries = [] ∧ (s.net.receipts.get q).awaiting =
        [4096 * 2 + n] ∧ (s.arch.engines.get 7).inReset = false) ∧
    (∃ (s : State) (q tag stamp : Nat), q < 3 ∧ tag < 2 ^ 16 ∧ 16 ≤ (s.net.receipts.get q).entries.length ∧ s.whole (src 7 22)
        (itemQueue q)) := by
  refine ⟨?_, ?_, ?_, ?_, ?_, ?_, ?_, ?_, ?_⟩
  · refine ⟨linked, { port := 1 }, 5, ?_⟩ <;> decide +kernel
  · refine ⟨linked, 1, ?_, ?_, ?_⟩ <;> decide +kernel
  · refine ⟨linked, { port := 1 }, 5, 6, ?_, ?_⟩ <;> decide +kernel
  · refine ⟨(linked.modTime fun x => { x with ports := [(1, { pdT1 := some 1, pdT24 := some (2, 4) })] }), { port := 1 }, 1, 2,
      3, 4, 0, ?_, ?_, ?_, ?_⟩ <;> decide +kernel
  · refine ⟨(linked.modTime fun x => { x with ports := [(1, { master := true })] }), 1, ?_, ?_, ?_, ?_⟩ <;> decide +kernel
  · refine ⟨linked, 2, 65535, 5, ?_, ?_, ?_, ?_⟩ <;> decide +kernel
  · refine ⟨linked.modNet (fun x => { x with receipts := [(1, { awaiting := [4096] })] }), 1, 5, ?_, ?_, ?_, ?_⟩ <;> decide
      +kernel
  · refine ⟨linked.modNet (fun x => { x with receipts := [(2, { awaiting := [4096 * 2 + 4095] })] }), 2, 4095, 5, ?_, ?_, ?_,
      ?_, ?_⟩ <;> decide +kernel
  · refine ⟨linked.modNet (fun x => { x with receipts := [(2, { entries := List.replicate 16 (0, 0) })] }), 2, 65535, 5, ?_, ?_,
      ?_, rfl⟩ <;> decide +kernel

theorem witness_UplinksComplete :
    (∃ (s : State), s.addressed = true) ∧
    (∃ (s : State) (x : UplinkFrame), s.acceptsFrame x = true ∧ x.rct = none) ∧
    (∃ (s : State) (x : UplinkFrame) (q lan : Nat), s.acceptsFrame x = true ∧ x.rct = some (q, lan)) ∧
    (∃ (s : State) (x : UplinkFrame) (q lan : Nat), s.hearsFrame x = true ∧ x.rct = some (q, lan) ∧ s.hasCopy x.mac q = true) ∧
    (∃ (s : State) (i : Nat), i < 2) ∧
    (∃ (s : State) (i : Nat) (ok : Bool), i < 2) ∧
    (∃ (s : State) (i : Nat) (ok : Bool), i < 2 ∧ (s.ident.fibre = false ∨ ok = true)) ∧
    (∃ (s : State) (x : UplinkFrame) (addr : Nat), s.acceptsFrame x = true ∧ s.answersOn addr = true) ∧
    (∃ (s : State) (x : UplinkFrame) (addr sender : Nat), s.acceptsFrame x = true ∧ s.answersOn addr = true ∧ s.reaches sender =
        true) ∧
    (∃ (s : State), s.net.roleHeld = true ∧ s.active = true ∧ 0 < s.net.arpLeft) := by
  refine ⟨?_, ?_, ?_, ?_, ?_, ?_, ?_, ?_, ?_, ?_⟩
  · refine ⟨linked, ?_⟩ <;> decide +kernel
  · refine ⟨linked, { port := 1 }, ?_, ?_⟩ <;> decide +kernel
  · refine ⟨linked, { port := 1, mac := 5, rct := some (65535, 10) }, 65535, 10, ?_, ?_⟩ <;> decide +kernel
  · refine ⟨linked.modNet (fun x => { x with seen := [(5, 65535, 0, linked.time.ns)] }),
      { port := 1, mac := 5, rct := some (65535, 10) }, 65535, 10, ?_, ?_, ?_⟩ <;> decide +kernel
  · refine ⟨linked, 1, ?_⟩ <;> decide +kernel
  · refine ⟨linked, 1, true, ?_⟩ <;> decide +kernel
  · refine ⟨linked, 1, true, ?_, ?_⟩ <;> decide +kernel
  · refine ⟨linked, { port := 1 }, 1, ?_, ?_⟩ <;> decide +kernel
  · refine ⟨linked, { port := 1 }, 1, 2, ?_, ?_, ?_⟩ <;> decide +kernel
  · refine ⟨linked.modNet fun x => { x with roleHeld := true, arpLeft := 1 }, ?_, ?_, ?_⟩ <;> decide +kernel

theorem witness_ProgramCompletes :
    (∃ (s : State), s.cycleDue = true ∧ s.active = true ∧ s.prg.skip = false ∧ s.prg.executing = false ∧ s.prg.pending = 0 ∧
        s.prg.exchange = 0 ∧ s.prg.state = 1) ∧
    (∃ (s : State), s.cycleDue = true ∧ s.active = true ∧ s.prg.skip = true) ∧
    (∃ (s : State), s.cycleDue = true ∧ s.active = true ∧ s.prg.skip = false ∧ s.prg.executing = false ∧ s.prg.pending = 3 ∧
        s.prg.state = 1) ∧
    (∃ (s : State) (p : ProgramImage), s.cycleDue = true ∧ s.active = true ∧ s.prg.skip = false ∧ s.prg.executing = false ∧
        s.prg.pending = 0 ∧ s.prg.exchange = 2 ∧ s.prg.state = 1 ∧ s.upd.stagedProgram = some p) ∧
    (∃ (s : State), s.upd.stagedProgram.isSome = true ∧ s.prg.exchange = 1) ∧
    (∃ (s : State) (o : ProgramOutput), s.prg.executing = true ∧ s.prg.state = 1 ∧ s.active = true) ∧
    (∃ (s : State), s.prg.executing = true ∧ s.prg.state = 1 ∧ s.prg.overrun = false ∧ s.whole (src 5 30) noItem) ∧
    (∃ (s : State) (i : Nat), i < 4 ∧ s.prg.executing = true ∧ s.prg.state = 1 ∧ s.nat (P.prgBreakpoint i) ≠ 0xFFFFFFFF) ∧
    (∃ (s : State) (offset : Nat), s.prg.executing = true ∧ s.prg.state = 1 ∧ s.whole (src 5 31) noItem) ∧
    (∃ (s : State) (o : ProgramOutput) (k v : Nat), s.prg.executing = true ∧ s.prg.state = 1 ∧ s.active = true ∧ bitOf o.guard 1
        = true ∧ bitOf s.prg.guardBits 1 = false ∧ k < s.prg.duties.length ∧ o.duties = [(k, v)] ∧ k < 8 ∧ bitOf (s.nat
        P.prgPwmClaim) k = true ∧ f32Finite (BitVec.ofNat 32 v) = false) := by
  refine ⟨?_, ?_, ?_, ?_, ?_, ?_, ?_, ?_, ?_, ?_⟩
  · refine ⟨programming id, ?_, ?_, ?_, ?_, ?_, ?_, ?_⟩ <;> decide +kernel
  · refine ⟨programming fun x => { x with skip := true }, ?_, ?_, ?_⟩ <;> decide +kernel
  · refine ⟨programming fun x => { x with pending := 3 }, ?_, ?_, ?_, ?_, ?_, ?_⟩ <;> decide +kernel
  · refine ⟨(programming fun x => { x with exchange := 2 }).modUpd (fun u => { u with stagedProgram := some {} }), {}, ?_, ?_,
      ?_, ?_, ?_, ?_, ?_, ?_⟩ <;> decide +kernel
  · refine ⟨(programming fun x => { x with exchange := 1 }).modUpd (fun u => { u with stagedProgram := some {} }), ?_, ?_⟩ <;>
      decide +kernel
  · refine ⟨programming (fun x => { x with executing := true }), {}, ?_, ?_, ?_⟩ <;> decide +kernel
  · refine ⟨programming (fun x => { x with executing := true }), ?_, ?_, ?_, rfl⟩ <;> decide +kernel
  · refine ⟨(programming (fun x => { x with executing := true })).force (P.prgBreakpoint 3) 0, 3, ?_, ?_, ?_, ?_⟩ <;> decide
      +kernel
  · refine ⟨programming (fun x => { x with executing := true }), 0, ?_, ?_, rfl⟩ <;> decide +kernel
  · refine ⟨(programming (fun x => { x with executing := true })).force P.prgPwmClaim 0xFF,
      { guard := 2, duties := [(7, 0x7FC00000)] }, 7, 0x7FC00000, ?_, ?_, ?_, ?_, ?_, ?_, ?_, ?_, ?_, ?_⟩ <;> decide +kernel

theorem witness_LedgerCompletes :
    (∃ (s : State), s.accrues = true ∧ s.trs.state ≠ 2 ∧ s.time.sweep % 1000 = 0 ∧ ((∀ n, n < 128 → s.nat (P.lnkBricks n) ≤
        24))) ∧
    (∃ (s : State), s.time.sweep % 1000 ≠ 0) ∧
    (∃ (s : State), (s.modes.mode.runs = true ∨ s.modes.mode = .m7) ∧ (if s.recs.dayTaken then s.recs.closedDay else s.utcSecs /
        86400 - 1) < s.utcSecs / 86400) ∧
    (∃ (s : State), s.recs.dayTaken = true ∧ s.utcSecs / 86400 ≤ s.recs.closedDay) := by
  refine ⟨?_, ?_, ?_, ?_⟩
  · refine ⟨idle .m5, ?_, ?_, ?_, (by decide +kernel : ∀ n, n < 128 → (idle .m5).nat (P.lnkBricks n) ≤ 24)⟩ <;> decide +kernel
  · refine ⟨(idle .m5).modTime fun x => { x with sweep := 999 }, ?_⟩ <;> decide +kernel
  · refine ⟨((idle .m5).modTime fun x => { x with ns := 10 ^ 14 }).modRecs fun x => { x with dayTaken := true }, ?_, ?_⟩ <;>
      decide +kernel
  · refine ⟨(idle .m5).modRecs fun x => { x with dayTaken := true, closedDay := (idle .m5).utcSecs / 86400 }, ?_, ?_⟩ <;> decide
      +kernel

theorem witness_BudgetsComplete :
    (∃ (s : State) (m : Metering), s.power.mainUp = true ∧ s.power.mainHeld = false ∧ s.time.sweep % 100 = 0) ∧
    (∃ (s : State) (m : Metering), s.time.sweep % 100 ≠ 0) ∧
    (∃ (s : State) (e : Nat), 1 ≤ e ∧ e ≤ 8) ∧
    (∃ (s : State), s.trs.state ≤ 1 ∧ s.trs.stateSet = true ∧ s.power.onBank = false ∧ ((s.power.supA || s.power.supB) = true) ∧
        max (s.trs.monitors.get 0).value (s.trs.monitors.get 1).value < 10 * s.nat P.trsThriftSupply) ∧
    (∃ (s : State), s.trs.state ≤ 1 ∧ s.trs.stateSet = true ∧ s.power.onBank = false ∧ ((s.power.supA || s.power.supB) = true) ∧
        10 * (s.nat P.trsThriftSupply + 50) < max (s.trs.monitors.get 0).value (s.trs.monitors.get 1).value) := by
  refine ⟨?_, ?_, ?_, ?_, ?_⟩
  · refine ⟨idle .m5, {}, ?_, ?_, ?_⟩ <;> decide +kernel
  · refine ⟨(idle .m5).modTime (fun x => { x with sweep := 99 }), {}, ?_⟩ <;> decide +kernel
  · refine ⟨idle .m5, 8, ?_, ?_⟩ <;> decide +kernel
  · refine ⟨((idle .m5).modTrs fun x =>
      { x with state := 1, stateSet := true, monitors := [(0, { value := 0 }), (1, { value := 0 })] }), ?_, ?_, ?_, ?_, ?_⟩ <;>
      decide +kernel
  · refine ⟨((idle .m5).modTrs fun x => { x with state := 1, stateSet := true, monitors := [(0, { value := 65535 })] }), ?_, ?_,
      ?_, ?_, ?_⟩ <;> decide +kernel

theorem witness_AgeingCompletes :
    (∃ (s : State) (counts : List Nat), counts.length = 4 ∧ s.ageingRuns = true) ∧
    (∃ (s : State) (counts : List Nat), counts.length = 4 ∧ s.ageingRuns = false) ∧
    (∃ (s : State) (errors : Nat), s.ageingRuns = true ∧ errors ≤ 64) ∧
    (∃ (s : State) (errors : Nat), s.ageingRuns = true ∧ 64 < errors ∧ s.whole (src 6 6) (itemRegion (sampleRegion
        s.age.flashNext))) ∧
    (∃ (s : State), s.ageingRuns = true ∧ s.power.supA = true ∧ s.power.supB = true ∧ s.vault.writing = none ∧ s.modes.startedAt
        + 60000000000 ≤ s.time.ns ∧ 45000 ≤ s.power.bankMilliVolt) ∧
    (∃ (s : State) (us : Nat), s.age.bankTest = true) ∧
    (∃ (s : State), s.ageingRuns = true ∧ 72000 ≤ s.age.daySync) ∧
    (∃ (s : State), s.age.trigger ≠ 0 ∧ s.age.running = none ∧ s.ageingRuns = true ∧ s.survey.state = 0 ∧ s.steer.tuneState ≠ 1
        ∧ s.vault.writing = none) := by
  refine ⟨?_, ?_, ?_, ?_, ?_, ?_, ?_, ?_⟩
  · refine ⟨idle .m5, [1, 2, 3, 4], ?_, ?_⟩ <;> decide +kernel
  · refine ⟨idle .m0, [1, 2, 3, 4], ?_, ?_⟩ <;> decide +kernel
  · refine ⟨idle .m5, 64, ?_, ?_⟩ <;> decide +kernel
  · refine ⟨idle .m5, 65, ?_, ?_, rfl⟩ <;> decide +kernel
  · refine ⟨((idle .m5).modTime fun x => { x with ns := 60000000000 }).modPower fun x => { x with bankMilliVolt := 45000 }, ?_,
      ?_, ?_, ?_, ?_, ?_⟩ <;> decide +kernel
  · refine ⟨(idle .m5).modAge (fun x => { x with bankTest := true }), 1000, ?_⟩ <;> decide +kernel
  · refine ⟨(idle .m5).modAge fun x => { x with daySync := 72000 }, ?_, ?_⟩ <;> decide +kernel
  · refine ⟨(idle .m5).modAge fun x => { x with trigger := 1 }, ?_, ?_, ?_, ?_, ?_, ?_⟩ <;> decide +kernel

theorem witness_VaultWritesComplete :
    (∃ (s : State) (o : Nat) (w : Writing), s.vault.writing = none ∧ s.power.mainUp = true ∧ s.power.mainHeld = false ∧
        s.nextOrder = some o ∧ s.writeOf o = some w ∧ ((o = 1 → s.dieTooHot = false ∧ (s.therm.vaultHeld = false ∨
        s.dieBelowShutdown = true))) ∧ ((8 ≤ o → s.vault.yielded = none))) ∧
    (∃ (s : State), s.vault.writing = none ∧ s.power.mainUp = true ∧ s.power.mainHeld = false ∧ s.nextOrder = some 1 ∧
        s.dieTooHot = true ∧ s.whole (src 2 14) noItem) ∧
    (∃ (s : State), s.vault.writing.isSome = true) ∧
    (∃ (s : State) (w : Writing), s.vault.writing = some w ∧ w.phase = 0 ∧ s.dieTooHot = false ∧ ((s.modes.mode = .m2 →
        s.power.supA = true ∨ s.power.supB = true)) ∧ ((7 ≤ w.order ∨ w.done ≠ 0 ∨ s.permitted w.bytesLeft = true))) ∧
    (∃ (s : State) (w : Writing), s.vault.writing = some w ∧ w.phase = 0 ∧ s.dieTooHot = false ∧ ((s.modes.mode = .m2 →
        s.power.supA = true ∨ s.power.supB = true)) ∧ w.order ≤ 6 ∧ w.done = 0 ∧ s.permitted w.bytesLeft = false) ∧
    (∃ (s : State) (w : Writing), s.vault.writing = some w ∧ w.phase = 1 ∧ s.dieTooHot = false ∧ ((s.modes.mode = .m2 →
        s.power.supA = true ∨ s.power.supB = true)) ∧ s.permitted w.bytesLeft = true) ∧
    (∃ (s : State) (w : Writing), s.vault.writing = some w ∧ w.phase = 1 ∧ s.dieTooHot = false ∧ ((s.modes.mode = .m2 →
        s.power.supA = true ∨ s.power.supB = true)) ∧ w.order ≤ 6 ∧ w.done = 0 ∧ s.permitted w.bytesLeft = false) ∧
    (∃ (s : State) (w : Writing), s.vault.writing = some w ∧ w.phase = 1 ∧ 59 ≤ s.vault.refused ∧ s.whole (src 6 3) (item 9
        w.region)) ∧
    (∃ (s : State) (w : Writing), s.vault.writing = some w ∧ w.phase = 2 ∧ w.order ≤ 7 ∧ w.done + 1 < w.pages ∧ s.dieTooHot =
        false ∧ ((s.modes.mode = .m2 → s.power.supA = true ∨ s.power.supB = true))) ∧
    (∃ (s : State) (w : Writing), s.vault.writing = some w ∧ w.phase = 2 ∧ w.order ≤ 7 ∧ w.pages ≤ w.done + 1) ∧
    (∃ (s : State) (w : Writing), s.vault.writing = some w ∧ w.phase = 2 ∧ w.order = 10 ∧ w.done + 1 < w.pages ∧ (w.done + 1) %
        16 = 0 ∧ s.power.onBank = false ∧ s.vault.queued % 256 ≠ 0) ∧
    (∃ (s : State) (w : Writing) (crc : Nat), s.vault.writing = some w ∧ w.phase = 3) ∧
    (∃ (s : State) (w : Writing) (read source : Nat), s.vault.writing = some w ∧ w.phase = 3 ∧ read ≠ source ∧ s.vault.yielded =
        none ∧ s.whole (src 6 3) (item 9 w.region)) ∧
    (∃ (s : State) (w : Writing), s.vault.writing = some w ∧ w.phase = 4 ∧ s.vault.yielded = none ∧ w.slot < 64 ∧ ((w.region = 3
        → w.slot = s.vault.lockNext))) ∧
    (∃ (s : State), s.power.mainUp = true ∧ s.power.mainHeld = false ∧ s.inRom = false ∧ bitOf s.vault.queued 10 = false) := by
  refine ⟨?_, ?_, ?_, ?_, ?_, ?_, ?_, ?_, ?_, ?_, ?_, ?_, ?_, ?_, ?_⟩
  · refine ⟨(idle .m4).modVault (fun v => { v with queued := 2, lockouts := [{}] }), 1,
      { order := 1, region := 3, generation := 1, content := .lockout {} }, ?_, ?_, ?_, ?_, ?_, ?_, ?_⟩ <;> decide +kernel
  · refine ⟨(((idle .m4).modVault fun v => { v with queued := 2 }).modTherm fun x =>
      { x with dies := [(3, { value := 13000 })] }), ?_, ?_, ?_, ?_, ?_, rfl⟩ <;> decide +kernel
  · refine ⟨writing { content := .program {} }, ?_⟩ <;> decide +kernel
  · refine ⟨writing { order := 6, done := 1, content := .program {} }, { order := 6, done := 1, content := .program {} }, ?_,
      ?_, ?_, ?_, ?_⟩ <;> decide +kernel
  · refine ⟨writing { order := 6, content := .program {} }, { order := 6, content := .program {} }, ?_, ?_, ?_, ?_, ?_, ?_, ?_⟩
      <;> decide +kernel
  · refine ⟨(writing { phase := 1, content := .program {} }).modPower (fun x => { x with bankMilliVolt := 48000 }),
      { phase := 1, content := .program {} }, ?_, ?_, ?_, ?_, ?_⟩ <;> decide +kernel
  · refine ⟨writing { phase := 1, order := 6, content := .program {} }, { phase := 1, order := 6, content := .program {} }, ?_,
      ?_, ?_, ?_, ?_, ?_, ?_⟩ <;> decide +kernel
  · refine ⟨(writing { phase := 1, content := .program {} }).modVault (fun v => { v with refused := 59 }),
      { phase := 1, content := .program {} }, ?_, ?_, ?_, rfl⟩ <;> decide +kernel
  · refine ⟨writing { phase := 2, order := 7, pages := 2, content := .program {} },
      { phase := 2, order := 7, pages := 2, content := .program {} }, ?_, ?_, ?_, ?_, ?_, ?_⟩ <;> decide +kernel
  · refine ⟨writing { phase := 2, order := 7, content := .program {} }, { phase := 2, order := 7, content := .program {} }, ?_,
      ?_, ?_, ?_⟩ <;> decide +kernel
  · refine ⟨(writing { phase := 2, pages := 17, done := 15, content := .program {} }).modVault (fun v =>
      { v with queued := 2 }), { phase := 2, pages := 17, done := 15, content := .program {} }, ?_, ?_, ?_, ?_, ?_, ?_, ?_⟩ <;>
      decide +kernel
  · refine ⟨writing { phase := 3, content := .program {} }, { phase := 3, content := .program {} }, 5, ?_, ?_⟩ <;> decide
      +kernel
  · refine ⟨writing { phase := 3, content := .program {} }, { phase := 3, content := .program {} }, 5, 6, ?_, ?_, ?_, ?_, rfl⟩
      <;> decide +kernel
  · refine ⟨writing { phase := 4, slot := 63, content := .program {} }, { phase := 4, slot := 63, content := .program {} }, ?_,
      ?_, ?_, ?_, ?_⟩ <;> decide +kernel
  · refine ⟨idle .m4, ?_, ?_, ?_, ?_⟩ <;> decide +kernel

theorem witness_SealsTakeForce :
    (∃ (s : State) (w : Writing) (g : Nat) (e : Table (Option Int)) (v : List Nat), s.vault.writing = some w ∧ w.phase = 4 ∧
        w.order = 2 ∧ w.content = .safety g e v ∧ s.modes.lockoutPending = none) ∧
    (∃ (s : State) (w : Writing) (x : Settings) (a : List (Option (List Byte))), s.vault.writing = some w ∧ w.phase = 4 ∧
        w.order = 4 ∧ w.content = .settings x a ∧ s.par.committing = true ∧ bitOf s.vault.queued 4 = false ∧ s.upd.trial = false
        ∧ s.modes.lockoutPending = none) ∧
    (∃ (s : State) (w : Writing) (p : Plan), s.vault.writing = some w ∧ w.phase = 4 ∧ w.order = 6 ∧ w.content = .plan p ∧
        s.modes.lockoutPending = none) ∧
    (∃ (s : State) (w : Writing) (g : LedgerGen), s.vault.writing = some w ∧ w.phase = 4 ∧ w.order = 7 ∧ w.content = .ledger g ∧
        s.modes.lockoutPending = none) := by
  refine ⟨?_, ?_, ?_, ?_⟩
  · refine ⟨writing { phase := 4, order := 2, content := .safety 1 [] [] },
      { phase := 4, order := 2, content := .safety 1 [] [] }, 1, [], [], ?_, ?_, ?_, ?_, ?_⟩ <;> decide +kernel
  · refine ⟨(writing { phase := 4, order := 4, content := .settings {} [] }).modPar (fun p => { p with committing := true }),
      { phase := 4, order := 4, content := .settings {} [] }, {}, [], ?_, ?_, ?_, ?_, ?_, ?_, ?_, ?_⟩ <;> decide +kernel
  · refine ⟨writing { phase := 4, order := 6, content := .plan {} }, { phase := 4, order := 6, content := .plan {} }, {}, ?_,
      ?_, ?_, ?_, ?_⟩ <;> decide +kernel
  · refine ⟨writing { phase := 4, order := 7, content := .ledger {} }, { phase := 4, order := 7, content := .ledger {} }, {},
      ?_, ?_, ?_, ?_, ?_⟩ <;> decide +kernel

theorem witness_PublicationCompletes :
    (∃ (s : State) (c : Nat), c < 2 ∧ s.tallies c = true ∧ s.fresh c = false) ∧
    (∃ (s : State) (c : Nat), c < 2 ∧ s.tallies c = true ∧ s.fresh c = false ∧ s.whole (src 5 8) (itemEngine (3 + c))) := by
  refine ⟨?_, ?_⟩
  · refine ⟨plant .m5, 1, ?_, ?_, ?_⟩ <;> decide +kernel
  · refine ⟨plant .m5, 1, ?_, ?_, ?_, rfl⟩ <;> decide +kernel

theorem witness_StartsComplete :
    (∃ (s : State) (x : StartInputs), s.night.inCharge = false ∧ s.power.mainUp = false) ∧
    (∃ (s : State) (x : StartInputs), s.modes.restartPending = some true ∧ s.power.mainUp = true ∧ s.power.mainHeld = true ∧
        s.power.synthLocked = true ∧ s.power.fabricClockGood = true) ∧
    (∃ (s : State) (x : StartInputs), s.modes.restartPending = some false ∧ s.power.mainUp = true ∧ s.power.mainHeld = true ∧
        s.power.synthLocked = true ∧ s.power.fabricClockGood = true) ∧
    (∃ (s : State) (x : StartInputs), s.night.inCharge = false ∧ s.power.mainUp = false ∧ x.straps.faults = [] ∧ x.button = true
        ∧ 44000 ≤ s.power.bankMilliVolt) ∧
    (∃ (s : State) (x : StartInputs), s.night.inCharge = false ∧ s.power.mainUp = false ∧ x.straps.faults ≠ []) ∧
    (∃ (s : State) (x : StartInputs), s.night.inCharge = false ∧ s.power.mainUp = false ∧ x.straps.faults = [] ∧ x.button =
        false ∧ 44000 ≤ s.power.bankMilliVolt ∧ (s.selection x.verified).slot.isSome = true ∧ (s.modes.latchStrong = true ∨
        s.modes.latchNight = true ∨ x.selfTest = false)) ∧
    (∃ (s : State) (x : StartInputs), s.night.inCharge = false ∧ s.power.mainUp = false ∧ s.power.bankMilliVolt < 44000) := by
  refine ⟨?_, ?_, ?_, ?_, ?_, ?_, ?_⟩
  · refine ⟨State.reset.modPower (fun x => { x with mainUp := false }), {}, ?_, ?_⟩ <;> decide +kernel
  · refine ⟨((idle .m4).modModes fun x => { x with restartPending := some true }).modPower (fun x =>
      { x with mainHeld := true }), {}, ?_, ?_, ?_, ?_, ?_⟩ <;> decide +kernel
  · refine ⟨((idle .m4).modModes fun x => { x with restartPending := some false }).modPower (fun x =>
      { x with mainHeld := true }), {}, ?_, ?_, ?_, ?_, ?_⟩ <;> decide +kernel
  · refine ⟨State.reset.modPower (fun x => { x with mainUp := false, bankMilliVolt := 44000 }), { button := true }, ?_, ?_, ?_,
      ?_, ?_⟩ <;> decide +kernel
  · refine ⟨State.reset.modPower (fun x => { x with mainUp := false }), { straps := { sidp := 0 } }, ?_, ?_, ?_⟩ <;> decide
      +kernel
  · refine ⟨State.reset.modPower (fun x => { x with mainUp := false, bankMilliVolt := 44000 }), { selfTest := false }, ?_, ?_,
      ?_, ?_, ?_, ?_, ?_⟩ <;> decide +kernel
  · refine ⟨State.reset.modPower (fun x => { x with mainUp := false, bankMilliVolt := 43999 }), {}, ?_, ?_, ?_⟩ <;> decide
      +kernel

theorem witness_BootCompletes :
    (∃ (s : State), s.booted = true ∧ s.modes.settled = true ∧ s.therm.bootShutdown = none) ∧
    (∃ (s : State) (n : Nat), 1 ≤ n ∧ n ≤ 11 ∧ n ≠ 3 ∧ s.modes.mode = .m1 ∧ s.modes.bootFailed = 0 ∧ s.power.mainHeld = false ∧
        s.whole (src 5 5) (item 0 0 n)) ∧
    (∃ (s : State), s.modes.mode = .m1 ∧ s.modes.bootFailed ≠ 0 ∧ s.modes.bootFails < s.nat P.modeBootRetries) ∧
    (∃ (s : State), s.modes.mode = .m1 ∧ s.modes.bootFailed ≠ 0 ∧ s.nat P.modeBootRetries ≤ s.modes.bootFails) ∧
    (∃ (s : State), s.modes.sweeping = true ∧ s.nat P.modeSettleSweeps ≤ s.modes.settle) ∧
    (∃ (s : State), s.modes.sweeping = true ∧ s.modes.settled = false ∧ s.booted = false ∧ s.flt.broken = []) ∧
    (∃ (s : State), s.modes.sweeping = true ∧ s.modes.settled = false ∧ s.booted = true ∧ s.therm.bootShutdown = none) := by
  refine ⟨?_, ?_, ?_, ?_, ?_, ?_, ?_⟩
  · refine ⟨startedM1.modModes fun x => { x with settled := true }, ?_, ?_, ?_⟩ <;> decide +kernel
  · refine ⟨idle .m1, 11, ?_, ?_, ?_, ?_, ?_, ?_, rfl⟩ <;> decide +kernel
  · refine ⟨((idle .m1).force P.modeBootRetries 1).modModes fun x => { x with bootFailed := 1 }, ?_, ?_, ?_⟩ <;> decide +kernel
  · refine ⟨((idle .m1).force P.modeBootRetries 1).modModes fun x => { x with bootFailed := 1, bootFails := 1 }, ?_, ?_, ?_⟩ <;>
      decide +kernel
  · refine ⟨(idle .m1).modModes fun x => { x with sweeping := true, settle := 65535 }, ?_, ?_⟩ <;> decide +kernel
  · refine ⟨(idle .m1).modModes fun x => { x with sweeping := true }, ?_, ?_, ?_, ?_⟩ <;> decide +kernel
  · refine ⟨startedM1.modModes fun x => { x with sweeping := true }, ?_, ?_, ?_, ?_⟩ <;> decide +kernel

theorem witness_EngineReturnCompletes :
    (∃ (s : State) (e : Nat), 1 ≤ e ∧ e ≤ 8 ∧ (s.arch.engines.get e).inReset = true ∧ s.power.mainHeld = false ∧ ((∀ d, d ∈
        s.wk.fabric → d.engine ≠ e)) ∧ (s.arch.engines.get e).buffer = []) ∧
    (∃ (s : State) (e : Nat), 1 ≤ e ∧ e ≤ 8 ∧ (s.arch.engines.get e).inReset = true ∧ s.power.mainHeld = false ∧ ((∀ d, d ∈
        s.wk.fabric → d.engine ≠ e)) ∧ ((∀ m, m ∈ (s.arch.engines.get e).buffer → m.expected ≠ (s.arch.engines.get e).epoch)))
        := by
  refine ⟨?_, ?_⟩
  · refine ⟨(idle .m5).modArch (fun x => { x with engines := [(8, { inReset := true })] }), 8, ?_, ?_, ?_, ?_, ?_, ?_⟩ <;>
      decide +kernel
  · refine ⟨(idle .m5).modArch (fun x => { x with engines := [(8, { inReset := true, epoch := 1, buffer := [{}] })] }), 8, ?_,
      ?_, ?_, ?_, ?_, ?_⟩ <;> decide +kernel

theorem witness_SweepCompletes :
    (∃ (s : State) (x : SweepInputs), s.power.mainUp = true ∧ s.power.mainHeld = false ∧ s.modes.mode ≠ .m0 ∧ s.modes.mode ≠ .m2
        ∧ s.modes.bootExit ≠ some .m2 ∧ s.time.step = none ∧ s.time.sweepSet = true) ∧
    (∃ (s : State) (x : SweepInputs), (s.power.mainUp = false ∨ s.power.mainHeld = true ∨ s.modes.mode = .m0 ∨ s.modes.mode =
        .m2)) ∧
    (∃ (s : State) (x : SweepInputs), s.power.mainUp = true ∧ s.power.mainHeld = false ∧ s.modes.mode = .m1 ∧ s.modes.bootExit =
        some .m2 ∧ s.power.straps.faults = [] ∧ s.modes.restartPending = none ∧ 44000 ≤ x.monitors.getD 3 s.power.bankMilliVolt)
        := by
  refine ⟨?_, ?_, ?_⟩
  · refine ⟨(plant .m5).modTime (fun x => { x with sweepSet := true }), {}, ?_, ?_, ?_, ?_, ?_, ?_, ?_⟩ <;> decide +kernel
  · refine ⟨idle .m2, {}, ?_⟩ <;> decide +kernel
  · refine ⟨((idle .m1).modModes fun x => { x with bootExit := some .m2 }), { monitors := [0, 0, 0, 44000] }, ?_, ?_, ?_, ?_,
      ?_, ?_, ?_⟩ <;> decide +kernel

theorem witness_RefusedRequestsHaveNoEffect :
    (∃ (s : State) (f : Frame), s.hears f = true ∧ f.bytes < 28) ∧
    (∃ (s : State) (f : Frame), s.hears f = true ∧ 28 ≤ f.bytes ∧ f.head = true ∧ f.crcOk = false) ∧
    (∃ (s : State) (f : Frame), s.hears f = true ∧ 28 ≤ f.bytes ∧ f.head = true ∧ f.crcOk = true ∧ (1024 < f.length ∨ f.length ≠
        f.bytes - 28)) ∧
    (∃ (s : State) (f : Frame) (c : Cmd) (opens inM2 : Bool) (r : Reply), s.hears f = true ∧ s.arrives f = true ∧ (s.touch
        f).frameRefused f c opens inM2 = some r) ∧
    (∃ (s : State) (f : Frame) (c : Cmd) (opens inM2 : Bool) (bad : Option Reply) (r : Reply), s.hears f = true ∧ s.arrives f =
        true ∧ (s.touch f).frameRefused f c opens inM2 = none ∧ bad = some r) := by
  refine ⟨?_, ?_, ?_, ?_, ?_⟩
  · refine ⟨idle .m4, { req 0 with tcpLen := 27 }, ?_, ?_⟩ <;> decide +kernel
  · refine ⟨idle .m4, { req 0 with crc := (req 0).crc + 1 }, ?_, ?_, ?_, ?_⟩ <;> decide +kernel
  · refine ⟨idle .m4, req 1025, ?_, ?_, ?_, ?_, ?_⟩ <;> decide +kernel
  · refine ⟨idle .m4, ({ req 0 with session := 0 } : Frame).closed, cmdNoop, false, false, refusal 0x0F 1, ?_, ?_, ?_⟩ <;>
      decide +kernel
  · refine ⟨idle .m4, req 1, cmdNoop, false, false, some (lengthInvalid 1 0), lengthInvalid 1 0, ?_, ?_, ?_, ?_⟩ <;> decide
      +kernel

theorem witness_CommandClassesAreChecked :
    (∃ (s : State) (f : Frame) (c : Cmd) (x : Session) (inM2 : Bool), f.host < 4 ∧ (s.slot f.host).session = some x ∧ x.token =
        f.session ∧ ((∀ i y, i < 4 → (s.slot i).session = some y → y.token = f.session → i = f.host)) ∧ (s.slot f.host).addr =
        some f.src ∧ f.wicket < 16 ∧ (x.wickets.get f.wicket).isOpen = true ∧ knownCodes.contains f.code = true ∧ (s.modes.mode
        ≠ .m2 ∨ inM2 = true)) ∧
    (∃ (s : State) (f : Frame) (c : Cmd) (x : Session) (inM2 : Bool), f.host < 4 ∧ (s.slot f.host).session = some x ∧ x.token =
        f.session ∧ (∀ i y, i < 4 → (s.slot i).session = some y → y.token = f.session → i = f.host) ∧ (s.slot f.host).addr =
        some f.src ∧ f.wicket < 16 ∧ (x.wickets.get f.wicket).isOpen = true ∧ (s.modes.mode ≠ .m2 ∨ inM2 = true) ∧ f.priority <
        c.cls) ∧
    (∃ (s : State) (f : Frame) (c : Cmd) (x : Session) (inM2 : Bool), f.host < 4 ∧ (s.slot f.host).session = some x ∧ x.token =
        f.session ∧ (∀ i y, i < 4 → (s.slot i).session = some y → y.token = f.session → i = f.host) ∧ (s.slot f.host).addr =
        some f.src ∧ f.wicket < 16 ∧ (x.wickets.get f.wicket).isOpen = true ∧ (s.modes.mode ≠ .m2 ∨ inM2 = true) ∧ c.cls ≤
        f.priority ∧ f.priority ≤ 4 ∧ x.control = true ∧ s.roleRefuses c = none ∧ (c.kind = .u → f.via = 2)) := by
  refine ⟨?_, ?_, ?_⟩
  · refine ⟨idle .m4, req 0 2 1, cmdParamRead, sess, false, ?_, ?_, ?_, idle_only, ?_, ?_, ?_, ?_, ?_⟩ <;> decide +kernel
  · refine ⟨idle .m4, req 0 2 1, cmdSurveyStart, sess, false, ?_, ?_, ?_, idle_only, ?_, ?_, ?_, ?_, ?_⟩ <;> decide +kernel
  · refine ⟨idle .m4, req 0 2 1, cmdParamRead, sess, false, ?_, ?_, ?_, idle_only, ?_, ?_, ?_, ?_, ?_, ?_, ?_, ?_, ?_⟩ <;>
      decide +kernel

theorem witness_FullFifoRefusesFrames :
    (∃ (s : State) (b : Nat) (x : CanFrame), 32 ≤ (s.can b).fifo.length) ∧
    (∃ (s : State) (id i : Nat), s.canMode 1 = 2 ∧ i ∈ s.mappings true ∧ s.pdoId i = id ∧ s.pdoWithheld id = false ∧ 32 ≤ (s.can
        1).fifo.length) ∧
    (∃ (s : State) (n b : Nat) (x : CanFrame), s.canMode b = 2 ∧ n < 16 ∧ 32 ≤ (s.can b).fifo.length) := by
  refine ⟨?_, ?_, ?_⟩
  · refine ⟨canBus 1 (fun c => { c with fifo := List.replicate 32 {} }), 1, {}, ?_⟩ <;> decide +kernel
  · refine ⟨((canBus 1 (fun c => { c with fifo := List.replicate 32 {} })).force (P.pdoCob 0) 0x80001180).force (P.pdoField 0)
      0xFFFFFFFF, 0x180, 0, ?_, ?_, ?_, ?_, ?_⟩ <;> decide +kernel
  · refine ⟨canBus 1 (fun c => { c with fifo := List.replicate 32 {} }), 15, 1, {}, ?_, ?_, ?_⟩ <;> decide +kernel

end Sys2Proof.Tests
end

section
/-! SUPPORT. Requests refused (R129, R130) and the check of classes (R139): what each of the steps 1 to 7 does with a frame that it
refuses, what the touch of a slot leaves alone, and what an answer sends. -/

namespace Sys2Proof.Machine

open Sys2Proof

/-! ### Steps 1 to 3 (the frame that passes them is `receive_whole`) -/

/-- A datagram too short, or with another head, is discarded and counted (R129 step 1). -/
theorem receive_malformed {s : State} {f : Frame} (c : Cmd) (k : State → State) (hears : s.hears f = true)
    (bad : f.bytes < 28 ∨ f.head = false) :
    s.receive f c k = { s with wk := { s.wk with frameDiscards := satU 32 (s.wk.frameDiscards + 1) } } := by
  unfold State.receive
  rw [if_neg (by simp [hears]), if_pos (by simpa using bad)]
  rfl

/-- A frame with a wrong CRC-32 is discarded and counted (R129 step 2). -/
theorem receive_crc_wrong {s : State} {f : Frame} (c : Cmd) (k : State → State) (hears : s.hears f = true)
    (long : 28 ≤ f.bytes) (head : f.head = true) (crc : f.crcOk = false) :
    s.receive f c k = { s with wk := { s.wk with crcDiscards := satU 32 (s.wk.crcDiscards + 1) } } := by
  unfold State.receive
  rw [if_neg (by simp [hears]), if_neg (by simp [head, long]), if_pos (by simp [crc])]
  rfl

/-- A LENGTH that does not fit its datagram or the buffer is counted and answered (R129 step 3). -/
theorem receive_length_wrong {s : State} {f : Frame} (c : Cmd) (k : State → State) (hears : s.hears f = true)
    (long : 28 ≤ f.bytes) (head : f.head = true) (crc : f.crcOk = true)
    (bad : f.length = 0xFFFF ∨ 1024 < f.length ∨ f.length ≠ f.bytes - 28) :
    s.receive f c k = ((s.touch f).modWk fun w => { w with lengthRejects := satU 32 (w.lengthRejects + 1) }).answer f f.code
      (lengthInvalid f.length (min 1024 (f.bytes - 28))) c.engine := by
  unfold State.receive
  rw [if_neg (by simp [hears]), if_neg (by simp [head, long]), if_neg (by simp [crc])]
  exact if_pos bad

/-! ### Steps 4 to 7 -/

/-- What steps 4 to 6 of R129 find is answered, under the COMMAND as it came. -/
theorem wicket_frameRefused {s : State} {f : Frame} {c : Cmd} {opens inM2 : Bool} {r : Reply} (req : Instr) (bad : Option Reply)
    (body : State → Answer) (also : Bool) (whole : s.arrives f = true) (refused : (s.touch f).frameRefused f c opens inM2 = some r) :
    s.wicket f c req bad body also opens inM2 = (s.touch f).answer f f.code r c.engine := by
  unfold State.wicket
  rw [receive_whole _ _ _ _ whole]
  simp only [refused]

/-- What step 7 of R129 finds in the payload is answered. -/
theorem wicket_payloadRefused {s : State} {f : Frame} {c : Cmd} {opens inM2 : Bool} (r : Reply) (req : Instr)
    (body : State → Answer) (also : Bool) (whole : s.arrives f = true) (passes : (s.touch f).frameRefused f c opens inM2 = none) :
    s.wicket f c req (some r) body also opens inM2 = (s.touch f).answer f c.code r c.engine := by
  unfold State.wicket
  rw [receive_whole _ _ _ _ whole]
  simp only [passes]

/-- A counted payload passes step 7 exactly when its count is in range and it holds the entries counted, no more and no fewer
(R129, R130). -/
theorem countedLen_eq_none_iff (f : Frame) (off head size most count : Nat) :
    countedLen f off head size most count = none ↔ 1 ≤ count ∧ count ≤ most ∧ f.length = head + size * count := by
  unfold countedLen
  by_cases short : f.length < head
  · rw [if_pos short]
    simp only [reduceCtorEq, false_iff]
    omega
  · rw [if_neg short]
    split <;> simp_all

/-! ### What a touch leaves alone (R132, R135, log 28) -/

theorem touch_unreported (s : State) (f : Frame) : (s.touch f).unreported = s.unreported :=
  (congrArg State.unreported (touch_unslotted s f) : (s.touch f).unslotted.unreported = s.unslotted.unreported)

theorem touch_flt (s : State) (f : Frame) : (s.touch f).flt = s.flt :=
  (congrArg State.flt (touch_unslotted s f) : (s.touch f).unslotted.flt = s.unslotted.flt)

theorem touch_recs (s : State) (f : Frame) : (s.touch f).recs = s.recs :=
  (congrArg State.recs (touch_unslotted s f) : (s.touch f).unslotted.recs = s.unslotted.recs)

/-- A view of the slots that a change of slot `i` keeps is kept for every slot. -/
theorem slot_modSlot_keep {β : Type} (g : HostSlot → β) (s : State) (i j : Nat) {h : HostSlot → HostSlot}
    (keep : g (h (s.slot i)) = g (s.slot i)) : g ((s.modSlot i h).slot j) = g (s.slot j) := by
  by_cases hj : j = i
  · subst hj
    exact (congrArg g (Table.get_modify s.wk.slots j h)).trans keep
  · exact congrArg g (Table.get_modify_other s.wk.slots hj h)

/-- A touch changes the times of a slot and of its session, and no other part of any slot. -/
theorem slot_touch_keep {β : Type} (g : HostSlot → β) (s : State) (f : Frame) (i : Nat)
    (keep : ∀ (h : HostSlot) (now : Nat),
      g { h with lastUse := now, session := h.session.map fun x => { x with lastFrame := now } } = g h) :
    g ((s.touch f).slot i) = g (s.slot i) := by
  unfold State.touch
  refine forAll_keep (fun t => g (t.slot i)) (fun k t => ?_) _ _
  split
  · exact slot_modSlot_keep g t k i (keep _ _)
  · rfl

theorem touch_slips (s : State) (f : Frame) (i : Nat) : ((s.touch f).slot i).slips = (s.slot i).slips :=
  slot_touch_keep (fun h => h.slips) s f i fun _ _ => rfl

theorem touch_session (s : State) (f : Frame) (i : Nat) :
    ((s.touch f).slot i).session.map (fun x => (x.token, x.wickets)) = (s.slot i).session.map fun x => (x.token, x.wickets) :=
  slot_touch_keep (fun h => h.session.map fun x => (x.token, x.wickets)) s f i fun h _ => by
    rw [Option.map_map]; rfl

/-! ### What an answer sends (R126, R500, R503) -/

theorem leaves_wicketReply (s : State) (f : Frame) (code : Nat) (r : Reply) :
    s.leaves (.wicketReply f code r) = true ↔ f.via = 2 ∨ s.reaches f.src = true := by simp [State.leaves]

theorem answer_out (s : State) (f : Frame) (code e : Nat) (r : Reply) : (s.answer f code r e).out =
    s.out ++ (if f.via = 2 ∨ s.reaches f.src = true then [.wicketReply f code (s.stamp e r)] else []) := by
  unfold State.answer State.emit
  simp only [leaves_wicketReply]
  split <;> simp

/-- Sending an answer changes the outputs and the sequence number of the RCT alone. -/
theorem answer_only (s : State) (f : Frame) (code e : Nat) (r : Reply) :
    s.answer f code r e = { s with out := (s.answer f code r e).out, net := (s.answer f code r e).net } := State.emit_only _ _

/-- An answer takes a sequence number of the RCT exactly when it goes out on the uplinks. -/
theorem answer_net (s : State) (f : Frame) (code e : Nat) (r : Reply) : (s.answer f code r e).net =
    if f.via ≠ 2 ∧ s.reaches f.src = true then { s.net with rctSeq := wrapU 16 (s.net.rctSeq + 1) } else s.net := by
  unfold State.answer State.emit
  simp only [leaves_wicketReply, State.carriesRct, decide_eq_true_eq]
  by_cases service : f.via = 2
  · simp [service]
  · by_cases reached : s.reaches f.src = true <;> simp [service, reached]

theorem answer_sentRct (s : State) (f : Frame) (code e : Nat) (r : Reply) :
    s.sentRct (s.answer f code r e) (s.replyRct f) := by
  unfold State.sentRct State.replyRct
  rw [answer_net]
  split
  · exact ⟨rfl, fun _ => rfl⟩
  · exact ⟨rfl, fun small => (Nat.mod_eq_of_lt small).symm⟩

/-! ### Step 6 by itself -/

/-- The frame names an open wicket of an open session from the address the session is bound to, and no other slot holds the token
(R129 step 4). -/
structure State.NamesOpenWicket (s : State) (f : Frame) (x : Session) : Prop where
  host : f.host < 4
  session : (s.slot f.host).session = some x
  token : x.token = f.session
  alone : ∀ i y, i < 4 → (s.slot i).session = some y → y.token = f.session → i = f.host
  bound : (s.slot f.host).addr = some f.src
  wicket : f.wicket < 16
  isOpen : (x.wickets.get f.wicket).isOpen = true

/-- A search of a range finds the one number that it looks for. -/
theorem find?_range_of_iff {n k : Nat} {p : Nat → Bool} (hk : k < n) (only : ∀ i, i < n → (p i = true ↔ i = k)) :
    (List.range n).find? p = some k := by
  rw [List.find?_range_eq_some]
  refine ⟨(only k hk).2 rfl, List.mem_range.2 hk, fun j hj => ?_⟩
  rw [Bool.not_eq_true', Bool.eq_false_iff, ne_eq, only j (hj.trans hk)]
  exact hj.ne

/-- With steps 4 and 5 of R129 passed, a frame is refused by its class, then by what its session, the role and the port permit. -/
theorem frameRefused_of_namesOpenWicket {s : State} {f : Frame} {x : Session} (c : Cmd) (opens : Bool) {inM2 : Bool}
    (names : s.NamesOpenWicket f x) (known : knownCodes.contains f.code = true) (serves : s.modes.mode ≠ .m2 ∨ inM2 = true) :
    s.frameRefused f c opens inM2 =
      if f.priority < c.cls ∨ 4 < f.priority then some (refusal 0x0D 4 c.code)
      else if x.control = false ∧ ¬(c.kind = .a ∨ c.kind = .r ∨ c.kind = .e) then some (refusal 0x0D 2 c.code)
      else (s.roleRefuses c).or (if c.kind = .u ∧ f.via ≠ 2 then some (refusal 0x0D 6 c.code) else none) := by
  obtain ⟨host, session, token, alone, bound, wicket, isOpen⟩ := names
  unfold State.frameRefused
  rw [find?_range_of_iff host fun i hi => ?holder]
  case holder =>
    constructor
    · intro holds
      split at holds
      · exact alone i _ hi ‹_› (of_decide_eq_true holds)
      · cases holds
    · rintro rfl
      simp [session, token]
  have notM2 : ¬(s.modes.mode = .m2 ∧ (!inM2) = true) := by simpa [← imp_iff_not_or] using serves
  simp only [session, bound, known, isOpen, wicket, notM2, Nat.not_le.2 wicket]
  cases s.roleRefuses c <;> simp [and_assoc]

/-- A class more urgent than that of the catalogue is refused (R139). -/
theorem frameRefused_more_urgent {s : State} {f : Frame} {x : Session} {c : Cmd} (opens : Bool) {inM2 : Bool}
    (names : s.NamesOpenWicket f x) (known : knownCodes.contains f.code = true) (serves : s.modes.mode ≠ .m2 ∨ inM2 = true)
    (urgent : f.priority < c.cls) : s.frameRefused f c opens inM2 = some (refusal 0x0D 4 c.code) := by
  rw [frameRefused_of_namesOpenWicket c opens names known serves, if_pos (.inl urgent)]

/-- The class of the catalogue, or a less urgent one, is no ground for a refusal in a session with control (R139). -/
theorem frameRefused_at_class {s : State} {f : Frame} {x : Session} {c : Cmd} (opens : Bool) {inM2 : Bool}
    (names : s.NamesOpenWicket f x) (known : knownCodes.contains f.code = true) (serves : s.modes.mode ≠ .m2 ∨ inM2 = true)
    (atClass : c.cls ≤ f.priority) (isClass : f.priority ≤ 4) (control : x.control = true) (role : s.roleRefuses c = none)
    (port : c.kind = .u → f.via = 2) : s.frameRefused f c opens inM2 = none := by
  rw [frameRefused_of_namesOpenWicket c opens names known serves, if_neg (by omega), if_neg (by simp [control]), role,
    Option.none_or, if_neg fun ⟨u, away⟩ => away (port u)]

end Sys2Proof.Machine
end

section
/-! PROOFS. The wicket layer refuses without effect (R130), and by class (R139). -/

namespace Sys2Proof.Machine

open Sys2Proof

/-- Settles O58: each step of R129 refuses by a rule of its own, the touch of the address keeps all but two times, an answer changes
what has been sent alone, and a count that does not fit its payload does not pass. -/
theorem refusedRequestsHaveNoEffect : Obligations.RefusedRequestsHaveNoEffect := by
  refine ⟨fun s f c req bad body also opens inM2 hears => ⟨?_, ?_, ?_, ?_, ?_⟩, ?_, ?_, ?_⟩
  · exact receive_malformed c _ hears
  · exact receive_crc_wrong c _ hears
  · exact receive_length_wrong c _ hears
  · exact fun whole r refused => wicket_frameRefused req bad body also whole refused
  · rintro whole passes r rfl
    exact wicket_payloadRefused r req body also whole passes
  · exact fun s f => ⟨touch_unreported s f, touch_flt s f, touch_recs s f, fun i => ⟨touch_slips s f i, touch_session s f i⟩⟩
  · exact fun s f code e r => ⟨answer_out s f code e r, answer_sentRct s f code e r, answer_only s f code e r⟩
  · exact countedLen_eq_none_iff

/-- Settles O59: with an open wicket named and the command known, step 6 of R129 decides, and it looks at the class first. -/
theorem commandClassesAreChecked : Obligations.CommandClassesAreChecked := by
  intro s f c x inM2 host session token alone bound wicket isOpen known serves
  have names : s.NamesOpenWicket f x := ⟨host, session, token, alone, bound, wicket, isOpen⟩
  exact ⟨frameRefused_more_urgent false names known serves, frameRefused_at_class false names known serves⟩

end Sys2Proof.Machine
end

section
/-! SUPPORT. A write to a full CAN FIFO (R534): the controller refuses it and counts it; what the writing of a process value changes
beyond that (R542). -/

namespace Sys2Proof.Machine

open Sys2Proof

/-! ### The refusal of a controller -/

theorem can_modCan (s : State) (b : Nat) (f : Can → Can) : (s.modCan b f).can b = f (s.can b) :=
  Table.get_modify s.bus.can b f

theorem can_modCan_other (s : State) {b k : Nat} (other : k ≠ b) (f : Can → Can) : (s.modCan b f).can k = s.can k :=
  Table.get_modify_other s.bus.can other f

/-- A full FIFO takes no frame, whatever the mode of its controller (R534). -/
theorem canFifo_full {s : State} {b : Nat} (x : CanFrame) (full : 32 ≤ (s.can b).fifo.length) :
    s.canFifo b x = (false, s.canRefused b) := if_pos (.inr full)

theorem canRefused_fifo (s : State) (b : Nat) : ((s.canRefused b).can b).fifo = (s.can b).fifo := by
  rw [State.canRefused, can_modCan]

theorem canRefused_txDrops (s : State) (b : Nat) :
    ((s.canRefused b).can b).txDrops = satU 32 ((s.can b).txDrops + 1) := by
  rw [State.canRefused, can_modCan]

theorem canRefused_other (s : State) {b k : Nat} (other : k ≠ b) : (s.canRefused b).can k = s.can k :=
  can_modCan_other s other _

theorem canRefused_only (s : State) (b : Nat) :
    s.canRefused b = { s with bus := { s.bus with can := (s.canRefused b).bus.can } } := rfl

/-- The program is told with code 1 that the FIFO of a bus in normal mode is full (R568). -/
theorem writeFrame_full {s : State} {n b : Nat} (x : CanFrame) (normal : s.canMode b = 2) (few : n < 16)
    (full : 32 ≤ (s.can b).fifo.length) : s.writeFrame n b none x = (1, s.canRefused b) := by
  unfold State.writeFrame
  simp only [if_neg (Nat.not_le.2 few), canFifo_full x full, normal, decide_true, if_true]

/-! ### Process values -/

/-- The state without its process values and its count of free values: two states that agree here differ in nothing else. -/
def State.unvalued (s : State) : State := { s with bus := { s.bus with pdo := [] }, freeCtr := 0 }

theorem modPdo_unvalued (s : State) (i : Nat) (f : Pdo → Pdo) : (s.modPdo i f).unvalued = s.unvalued := rfl

theorem nextFree_unvalued (s : State) : s.nextFree.unvalued = s.unvalued := rfl

theorem can_of_unvalued {s t : State} (h : t.unvalued = s.unvalued) : t.bus.can = s.bus.can :=
  (congrArg (fun u : State => u.bus.can) h : t.unvalued.bus.can = s.unvalued.bus.can)

theorem eq_of_unvalued {s t : State} (h : t.unvalued = s.unvalued) :
    t = { s with bus := { s.bus with pdo := t.bus.pdo }, freeCtr := t.freeCtr } :=
  (congrArg (fun u : State => { u with bus := { u.bus with pdo := t.bus.pdo }, freeCtr := t.freeCtr }) h :)

/-- Apart from its write to the FIFO, sending a process value changes the process values and the count of free values alone. -/
theorem sendPdo_unvalued (s : State) (id : Nat) :
    (s.sendPdo id).unvalued = (s.canFifo 1 { id := id, data := s.pdoData id }).2.unvalued := by
  unfold State.sendPdo
  rw [forAll_keep State.unvalued fun _ t => nextFree_unvalued t, forAll_keep State.unvalued fun i t => modPdo_unvalued t i _]

section
variable {s : State} (id : Nat) (full : 32 ≤ (s.can 1).fifo.length)
include full

theorem sendPdo_full_unvalued : (s.sendPdo id).unvalued = (s.canRefused 1).unvalued := by
  rw [sendPdo_unvalued, canFifo_full _ full]

/-- A process value leaves the full auxiliary bus as any other refused frame does. -/
theorem sendPdo_full_can : (s.sendPdo id).can 1 = (s.canRefused 1).can 1 :=
  congrArg (·.get 1) (can_of_unvalued (sendPdo_full_unvalued id full))

theorem sendPdo_full_only : s.sendPdo id = { s with
    bus := { s.bus with can := (s.sendPdo id).bus.can, pdo := (s.sendPdo id).bus.pdo }, freeCtr := (s.sendPdo id).freeCtr } := by
  have same := sendPdo_full_unvalued id full
  rw [can_of_unvalued same]
  exact eq_of_unvalued same

end

/-- On a bus in normal mode a process value that is due is sent, unless its station is lost (R542, R565). -/
theorem exec_txPdoRefreshDue_sends {s : State} {id i : Nat} (normal : s.canMode 1 = 2) (mapped : i ∈ s.mappings true)
    (named : s.pdoId i = id) (delivered : s.pdoWithheld id = false) :
    exec (.txPdoRefreshDue id) s = .next (({ s with out := [] } : State).sendPdo id) := by
  have due : (s.mappings true).any (fun j => decide (s.pdoId j = id)) = true :=
    List.any_eq_true.2 ⟨i, mapped, decide_eq_true named⟩
  exact congrArg Host.Outcome.next (if_pos ⟨normal, due, congrArg not delivered⟩)

end Sys2Proof.Machine
end

section
/-! PROOFS. A write to a full CAN FIFO is refused (R534). -/

namespace Sys2Proof.Machine

open Sys2Proof

/-- Settles O60: a write to a full FIFO comes to the refusal by its controller and no more; the process value that is due meets the
same refusal, and the program gets code 1. -/
theorem fullFifoRefusesFrames : Obligations.FullFifoRefusesFrames := by
  refine ⟨fun s b x full => ?_, fun s id i normal mapped named delivered full => ?_, fun s n b x normal few full => ?_⟩
  · rw [canFifo_full x full]
    exact ⟨rfl, canRefused_fifo s b, canRefused_txDrops s b, fun k other => canRefused_other s other, canRefused_only s b⟩
  · refine ⟨_, exec_txPdoRefreshDue_sends normal mapped named delivered, ?_⟩
    have can := sendPdo_full_can (s := { s with out := [] }) id full
    refine ⟨?_, ?_, sendPdo_full_only (s := { s with out := [] }) id full⟩
    · exact (congrArg Can.fifo can).trans (canRefused_fifo _ 1)
    · exact (congrArg Can.txDrops can).trans (canRefused_txDrops _ 1)
  · rw [writeFrame_full x normal few full]

end Sys2Proof.Machine
end
